-- ==== Sys2Proof/Word.lean ====
section
/-! DEFINITION. Word: the number types of the module (R7) and the sparse tables its memories are held in. -/

namespace Sys2Proof

/-- A byte. -/
abbrev Byte := BitVec 8

/-- A logical cell number (R7). -/
abbrev Cid := Fin 1024

/-- A physical cell region: die × 272 + row × 16 + column (R7, R9). -/
abbrev Rid := Fin 1088

/-- A partition, which is also the number of its PCI Express function (R7). -/
abbrev Pn := Fin 16

/-- A fabric port (R7). -/
abbrev PortN := Fin 24

/-- A die (R7). -/
abbrev DieN := Fin 4

/-- A physical crossbar of a cell, 8 being the relay array at first (R67). -/
abbrev Xb := Fin 9

/-- A change an epoch carries: reason, node, argument (R311). -/
abbrev Change := Nat × Nat × Nat

/-- A total map with a default, as a list of the keys that differ from it, keys strictly rising. -/
abbrev Tbl (α : Type) := List (Nat × α)

end Sys2Proof
end

