-- ==== Sys2Proof/Syntax.lean ====
section
/-! DEFINITION. Syntax: the commands of the module, one constructor per row of spec/opcode_table.json, in the
table's order, and the messages some of them carry. -/

namespace Sys2Proof

/-- The common fields of a Delrov Link message (R305), the hop count of R302 and the value of its reserved
fields (R297). -/
structure Hdr where
  /-- source node, 16 bits -/
  src : Nat
  /-- destination node, 16 bits, 0xFFFF for a flood -/
  dst : Nat
  /-- epoch of the sender, 32 bits -/
  epoch : Nat
  /-- link version, 4 bits -/
  ver : Nat
  /-- hops passed (R302) -/
  hop : Nat
  /-- the message's reserved fields, zero in a message that follows R297 -/
  rsv : Nat
  deriving DecidableEq, Repr

/-- The fields of HELLO and HELLO_ACK (R296). -/
structure HelloMsg where
  verMin : Nat
  verMax : Nat
  isa : Nat
  node : Nat
  epoch : Nat
  coord : Nat
  feed : Nat
  serial : Nat
  port : Nat
  locked : Bool
  deriving DecidableEq, Repr

/-- A DATA packet: part of one SEND message (R215, R220, R304). -/
structure DataMsg where
  /-- logical cell that sent it -/
  srcCell : Nat
  /-- logical cell it is for -/
  dstCell : Nat
  chan : Nat
  mb : Nat
  /-- sequence number of the packet's flow (R304) -/
  seq : Nat
  /-- FORM of the source without SPACE: FMT, SC and BLK (R222) -/
  form : Nat
  /-- elements of the whole message -/
  total : Nat
  /-- index of the packet's first element -/
  off : Nat
  /-- raw element bits -/
  elems : List Nat
  /-- scale bytes of a block-scaled message, in block order, with its first packet -/
  scales : List Nat
  deriving DecidableEq, Repr

/-- A member's contribution to a collective (R308), brought by COLL_DATA. -/
structure CollMsg where
  rank : Nat
  /-- 0 CRED, 1 CBCAST, 2 CNORM, 3 CFIN, 5 replica digest (R371) -/
  op : Nat
  count : Nat
  /-- COMBINE + 4 × PATTERN (R238) -/
  mode : Nat
  root : Nat
  /-- FP32 bit patterns; bytes for a replica digest -/
  data : List Nat
  deriving DecidableEq, Repr

/-- What FETCH_DATA brings back from a remount (R345, R348). -/
structure FetchMsg where
  owner : Nat
  /-- steps of the committed images the remount holds, newest first -/
  steps : List Nat
  /-- 0 answer to a request for the steps, 1 data, 2 uncorrectable memory error -/
  kind : Nat
  step : Nat
  item : Nat
  off : Nat
  data : List (BitVec 8)
  last : Bool
  deriving DecidableEq, Repr

/-- What the cells of a drill computed in one run of a round: the tested cell, its reference, the third and two further
cells, in that order (R362, R364). -/
structure DrillRun where
  /-- ARRAY: largest deviation of the tested cell's read from each other cell's product, in code units -/
  dev : List Rat
  /-- ARRAY: the same for the mean of 8 reads -/
  dev8 : List Rat
  /-- ARRAY: sum of the squares of the drive codes -/
  x2 : Nat
  /-- CRC-64 of each cell's output; of its products under ARRAY, where the tested cell's entry is not used -/
  crcs : List Nat
  deriving DecidableEq, Repr

/-- The commands the module takes: its programs' instructions, its hosts' commands, the messages and pin events
that reach it and the steps of its own engines. -/
inductive Instr where
  /-- NOP (R210): A NOP retires in program order with no effect other than its COMP count. -/
  | nop (c : Cid)
  /-- STOP (R56): The STOP instruction ends issue, waits for in-flight work and enters STOPPED with reason PROGRAM. -/
  | stop (c : Cid)
  /-- BR (R211): BR branches unconditionally or on a flag test, popping loop levels whose bodies do not contain the target. -/
  | br (c : Cid)
  /-- LOOP (R45): LOOP pushes a hardware loop level or, with count 0, skips its body. -/
  | loop (c : Cid)
  /-- WAIT (R37): WAIT holds issue until flag counter Fk reaches N, or retires at once for N = 0. -/
  | wait (c : Cid)
  /-- WAIT_SATISFIED (R37): A pending WAIT finds Fk at least N, atomically subtracts N and retires. -/
  | waitSatisfied (c : Cid)
  /-- WAIT_TIMEOUT (R38): A WAIT with TMO_EN reaches its timeout T and retires TIMED_OUT, setting the timed-out flag. -/
  | waitTimeout (c : Cid)
  /-- SIGNAL (R39): SIGNAL adds a count to a flag counter of a target cell, after earlier movement if RELEASE is set. -/
  | signal (c : Cid)
  /-- FENCE (R41): FENCE holds issue until earlier instructions of the selected units complete and are visible at the scope. -/
  | fence (c : Cid)
  /-- BARRIER (R42): A cell arrives at a local or communication-group BARRIER, implying a FENCE over all units. -/
  | barrier (c : Cid)
  /-- LOCAL_BARRIER_COMPLETE (R42): The last member arrives at a local barrier and every member is released. -/
  | localBarrierComplete (p : Pn) (g : Fin 16)
  /-- LDS (R216): LDS copies a stream from device memory into cell-local memory unchanged. -/
  | lds (c : Cid)
  /-- STS (R216): STS copies a cell-local stream into device memory unchanged. -/
  | sts (c : Cid)
  /-- COPY (R216): COPY moves a stream between any two spaces, including another cell's scratchpad. -/
  | copy (c : Cid)
  /-- GATHER (R217): GATHER reads indexed table rows, decodes and pools them per bag into the destination. -/
  | gather (c : Cid)
  /-- SCATTER (R219): SCATTER adds gradient rows into table rows atomically with SR, or commits them into the tally. -/
  | scatter (c : Cid)
  /-- SEND (R220): SEND enters a message into the cell's send table, waiting for a matching RECV. -/
  | send (c : Cid)
  /-- RECV (R220): RECV posts a buffer on a partner and channel. -/
  | recv (c : Cid)
  /-- AMV (R88): AMV issues a forward product of input vectors against a logical crossbar under the confidence procedure. -/
  | amv (c : Cid)
  /-- AMVT (R81): AMVT issues a transposed product, driving columns and sensing rows. -/
  | amvt (c : Cid)
  /-- PRODUCT_START (R225): The array unit starts a product instruction once its crossbar is free and reads or computes each vector. -/
  | productStart (c : Cid) (codes : List Int)
  /-- REFERENCE_PRODUCT_RETURN (R357): The reference cell's product returns to the tested cell, which writes or replaces the result. -/
  | referenceProductReturn (c : Cid)
  /-- INSERTED_PRODUCT (R179): A digital product inserted by the array unit runs at a pass boundary and writes its result. -/
  | insertedProduct (c : Cid)
  /-- CONV_RANGE_WIDEN (R75): A group with too many saturations over 65,536 products moves to the next wider converter range. -/
  | convRangeWiden (r : Rid) (x : Xb) (g : Fin 16)
  /-- CROSSBAR_SUSPECT (R90): More than 16 digital redos in 65,536 products mark a crossbar suspect and request recalibration. -/
  | crossbarSuspect (r : Rid) (x : Xb)
  /-- NOISE_SIGMA_UPDATE (R92): Every 65,536 products the steward updates NOISE_SIGMA, raising a noise event if clamped. -/
  | noiseSigmaUpdate (r : Rid) (x : Xb)
  /-- OUTPUT_BASELINE (R93): After 65,536 products the group output baseline is recorded. -/
  | outputBaseline (r : Rid) (x : Xb)
  /-- DRIFT_REF_READ (R122): Once per DRIFT_PERIOD a reference read in an idle slot sets the drift factor K. -/
  | driftRefRead (r : Rid) (x : Xb) (codes : List Int)
  /-- AREAD (R226): AREAD verify-reads rows of a crossbar and writes achieved values. -/
  | aread (c : Cid) (levels : List Int)
  /-- APROG_UPDATE (R110): APROG UPDATE adds host updates into the carry and hands the transfer to the write engine. -/
  | aprogUpdate (c : Cid)
  /-- APROG_LOAD (R113): APROG LOAD hands a whole-crossbar write from a codes plane to the write engine. -/
  | aprogLoad (c : Cid)
  /-- WRITE_START (R120): A queued write obtains a write slot and starts, running its carry add. -/
  | writeStart (c : Cid)
  /-- ROW_WRITE_DONE (R106): The write engine finishes programming one row and records achieved offsets and carries. -/
  | rowWriteDone (c : Cid) (ok : Bool) (rounds : Nat) (levels : List Int)
  /-- WRITE_COMPLETE (R115): A write completes, forms its check table and counts WDONE with its status. -/
  | writeComplete (c : Cid)
  /-- ASWAP (R116): ASWAP asks to exchange a logical crossbar with the relay, holding the array unit while a relay write is pending. -/
  | aswap (c : Cid)
  /-- ASWAP_EXCHANGE (R116): The exchange of binding, planes and periphery takes effect at an array-unit boundary. -/
  | aswapExchange (c : Cid)
  /-- ACAL (R229): ACAL requests recalibration of a crossbar's eight slices. -/
  | acal (c : Cid)
  /-- CALIBRATION_START (R434): The steward starts a queued calibration run within the per-cell and per-die limits. -/
  | calibrationStart (d : DieN)
  /-- RECAL_SLICE (R431): A recalibration slice of 64 rows takes the crossbar at an allowed point and measures it. -/
  | recalSlice (r : Rid) (x : Xb) (z : List Rat) (m : List Rat) (rows : List Nat) (sg : Nat) (sgT : Nat)
  /-- DMM (R231): DMM computes a block-scaled matrix product into a destination or the tally. -/
  | dmm (c : Cid)
  /-- DCONV (R176): DCONV computes a convolution as a matrix product by address generation. -/
  | dconv (c : Cid)
  /-- QROT (R140): QROT applies the layer's signed Hadamard rotation to each block. -/
  | qrot (c : Cid)
  /-- QNT (R135): QNT writes a tensor in a narrow block-scaled format, choosing scales and counting blocks. -/
  | qnt (c : Cid)
  /-- DQNT (R234): DQNT decodes a narrow tensor exactly to FP32 or BF16. -/
  | dqnt (c : Cid)
  /-- VADD (R189): VADD adds two streams element-wise. -/
  | vadd (c : Cid)
  /-- VMUL (R191): VMUL multiplies streams in PLAIN, LDEXP, RCP or RSQ form. -/
  | vmul (c : Cid)
  /-- VFMA (R189): VFMA computes a times b plus c rounded once. -/
  | vfma (c : Cid)
  /-- VCMP (R189): VCMP writes 1.0 or +0.0 by an IEEE comparison. -/
  | vcmp (c : Cid)
  /-- VSEL (R189): VSEL selects a or b by c. -/
  | vsel (c : Cid)
  /-- VMIN (R189): VMIN writes the smaller of a and b. -/
  | vmin (c : Cid)
  /-- VMAX (R189): VMAX writes the larger of a and b. -/
  | vmax (c : Cid)
  /-- ACC (R198): ACC commits stream elements into tally entries by stochastic rounding. -/
  | acc (c : Cid)
  /-- ACCRD (R199): ACCRD reads scaled tally entries, optionally clearing them. -/
  | accrd (c : Cid)
  /-- CRED (R308): CRED runs a ring reduction over a communication group. -/
  | cred (c : Cid)
  /-- CBCAST (R308): CBCAST broadcasts a buffer down a tree from the root. -/
  | cbcast (c : Cid)
  /-- CNORM (R239): CNORM forms the global norm of the members' shards. -/
  | cnorm (c : Cid)
  /-- CFIN (R239): CFIN sets or clears the skip flags by a non-finite test over all shards. -/
  | cfin (c : Cid)
  /-- TOPK_SCAN (R242): TOPK SCAN scores queries against crossbars and writes best-K lists. -/
  | topkScan (c : Cid)
  /-- TOPK_MERGE (R242): TOPK MERGE merges input lists into the best K entries. -/
  | topkMerge (c : Cid)
  /-- TACK (R244): The TACK instruction checks and applies a tack record image from the scratchpad. -/
  | tack (c : Cid)
  /-- TCOMMIT (R244): The TCOMMIT instruction commits the partition's shadowed records of a type. -/
  | tcommit (c : Cid)
  /-- DRILL (R366): DRILL runs rounds of a pattern on this cell and a reference cell. -/
  | drill (c : Cid)
  /-- DRILL_REFERENCE_TIMEOUT (R366): A DRILL finding no idle reference cell within 10 ms ends unrun. -/
  | drillReferenceTimeout (c : Cid)
  /-- DIGEST (R247): DIGEST feeds stream bytes into a SHA3-256 context, with INIT and FINAL. -/
  | digest (c : Cid)
  /-- ILLEGAL_INSTRUCTION (R47): The sequencer reaches a word with an illegal value and faults before issue. -/
  | illegalInstruction (c : Cid)
  /-- INSTR_COMPLETE (R35): An instruction completes in its unit and counts its COMP flag. -/
  | instrComplete (c : Cid) (u : Fin 8)
  /-- EXECUTION_FAULT (R59): A unit meets an execution fault after issue, and the cell enters FAULTED. -/
  | executionFault (c : Cid) (u : Fin 8) (code : Nat) (cause : Nat) (addr : Nat)
  /-- COLLECTIVE_TIMEOUT (R240): A collective or barrier whose group timeout runs out ends in failure. -/
  | collectiveTimeout (c : Cid)
  /-- DRILL_VISIT (R361): The steward starts a scheduled drill visit on the next cell in idle slots. -/
  | drillVisit (d : DieN)
  /-- DRILL_ROUND (R362): One drill round computes on the tested and reference cells and compares. -/
  | drillRound (d : DieN) (c : Option Cid) (runs : List DrillRun)
  /-- GOV_SAMPLE (R24): The governor samples module input power every 10 us. -/
  | govSample (vin : Nat) (iin : Nat)
  /-- GOV_WINDOW (R25): At the end of each 1 ms window above the limit the governor lowers the gait ceiling or inserts stalls. -/
  | govWindow
  /-- GOV_CEILING_RAISE (R26): After ten windows below 95 % of the limit the ceiling rises one step. -/
  | govCeilingRaise
  /-- OVERCURRENT_STALL (R27): Input current above 95 A for 20 us stalls every sequencer. -/
  | overcurrentStall (iin : Nat)
  /-- OVERCURRENT_RELEASE (R27): Input current below 90 A ends the overcurrent stall. -/
  | overcurrentRelease (iin : Nat)
  /-- GAIT_CHANGE (R407): A new gait target starts a rail slew or a clock switch. -/
  | gaitChange (r : Rid) (g : Fin 4)
  /-- GAIT_CLOCK_SWITCH (R407): Once the rail has settled the island clock switches at a sequencer boundary. -/
  | gaitClockSwitch (r : Rid)
  /-- DROOP_STRETCH (R408): A rail below 96 % makes the island skip one clock in eight. -/
  | droopStretch (r : Rid) (mv : Nat)
  /-- DROOP_DERATE (R408): Stretching longer than 10 us lowers the region's gait ceiling for 1 ms. -/
  | droopDerate (r : Rid)
  /-- DROOP_DERATE_END (R408): The 1 ms droop derate expires. -/
  | droopDerateEnd (r : Rid)
  /-- TEMP_SPLIT (R413): A neighbour temperature difference above 30 C adds a crossing cycle, recalibrates and derates. -/
  | tempSplit (hot : Nat) (cold : Nat) (diff : Int)
  /-- TEMP_SPLIT_CLEAR (R413): A difference held at or below 25 C for 10 ms restores the ceiling. -/
  | tempSplitClear (r : Rid) (diff : Int)
  /-- BRIDGE_FAIL (R13): A failed bridge reroutes traffic, and a second failure raises a module fault. -/
  | bridgeFail (d : DieN) (e : Fin 2)
  /-- REGULATOR_FAIL (R394): The power controller declares a regulator failed and isolates it. -/
  | regulatorFail (d : DieN) (pr : Fin 304) (b : Bool) (why : Nat)
  /-- SENSE_FAULT (R393): A sense voltage outside 0.30 to 1.00 V makes the pair regulate locally and caps the cell. -/
  | senseFault (d : DieN) (pr : Fin 304) (mv : Nat)
  /-- JOINT_SAMPLE (R404): Every 100 us the controller measures each pair's path resistance ratio. -/
  | jointSample (d : DieN) (pr : Fin 304) (vout : Int) (vsense : Int) (amps : Nat)
  /-- JOINT_FAULT (R405): 16 consecutive ratios above JOINT_WARN or JOINT_FAIL derate or retire the region. -/
  | jointFault (d : DieN) (pr : Fin 304) (fail : Bool)
  /-- VC_FAIL (R395): A vertical converter fails, and a second one in a zone raises a module fault. -/
  | vcFail (d : DieN) (z : Fin 4) (amps : Nat)
  /-- MEMORY_CONVERTER_FAIL (R395): A memory converter fails, losing its stacks and raising a module fault. -/
  | memoryConverterFail (k : Fin 16)
  /-- REGION_SWITCH_ON (R400): The power controller starts a staged switch-on after any neighbour delay. -/
  | regionSwitchOn (r : Rid) (neigh : Nat) (zone : Nat)
  /-- SWITCH_ON_STAGE (R399): A header stage reaches its target and the next closes, or the island clock starts. -/
  | switchOnStage (r : Rid) (seg : Nat)
  /-- SWITCH_ON_FAULT (R402): The rail misses its stage-1 target in time and the region is held OFF. -/
  | switchOnFault (r : Rid)
  /-- REGION_LEAVE_ON (R254): A held RETAIN or OFF request takes effect once the cell and write engine are idle. -/
  | regionLeaveOn (r : Rid)
  /-- INPUT_OVERVOLTAGE (R392): Input above 50 V for 1 us stops the converters. -/
  | inputOvervoltage (vin : Nat)
  /-- INPUT_OV_WARN (R392): Input entering 48 to 50 V logs one overvoltage warning. -/
  | inputOvWarn (vin : Nat)
  /-- INPUT_UNDERVOLTAGE (R392): Input entering 36 to 40 V lowers the governor limit and warns. -/
  | inputUndervoltage (vin : Nat)
  /-- POWER_FAIL_HOLD (R392): Input below 36 V for 20 us stalls sequencers and pauses writes. -/
  | powerFailHold (vin : Nat)
  /-- POWER_FAIL_RELEASE (R392): Input back above 38 V within 30 ms ends the hold. -/
  | powerFailRelease (vin : Nat)
  /-- INPUT_COLLAPSE (R392): Input below 33 V stops the converters and loses volatile state. -/
  | inputCollapse (vin : Nat)
  /-- THERMAL_TRIP (R545): Two readings above 105 C drive THERMTRIP_N and stop the converters. -/
  | thermalTrip (d : DieN) (t : Fin 64)
  /-- MON_CONVERSION (R423): A monitor conversion ends and its corrected result enters the die's queue. -/
  | monConversion (d : DieN) (ch : Fin 512) (q : Fin 3) (raw : BitVec 12) (src : Fin 4)
  /-- MON_BURST_TRIGGER (R420): A partition's timer tick or PWM edge starts a burst of its channels. -/
  | monBurstTrigger (p : Pn) (d : DieN)
  /-- MON_URGENT (R422): An urgent request converts one channel next or is dropped. -/
  | monUrgent (d : DieN) (ch : Fin 512)
  /-- REFIN_FAULT (R427): Channel 508 off by more than 1 % on 16 sweeps faults REFIN and blocks calibration. -/
  | refinFault (d : DieN)
  /-- REFIN_FAULT_CLEAR (R427): REFIN within 0.75 % on 16 sweeps clears the fault and runs waiting calibrations. -/
  | refinFaultClear (d : DieN)
  /-- SENSOR_FAIL (R428): A temperature sensor out of range for 16 readings is marked failed. -/
  | sensorFail (d : DieN) (t : Fin 64)
  /-- MONITOR_SELF_CAL (R429): A monitor converter self-calibration ends. -/
  | monitorSelfCal (d : DieN) (k : Fin 16) (ok : Bool)
  /-- COLUMN_SELF_CAL (R429): Column-converter self-calibration of a cell ends and products may be issued. -/
  | columnSelfCal (r : Rid) (bad : List Nat)
  /-- CAL_RECORD_STORE (R436): The groom writes a region's factors to the tack store once CAL_STORE_MIN allows. -/
  | calRecordStore (r : Rid)
  /-- PORT_SIGNAL_DETECT (R295): Signal on all four lanes moves a DOWN port to TRAINING. -/
  | portSignalDetect (pt : PortN)
  /-- LINK_TRAINING_END (R295): Electrical training ends and the port enters HELLO, or fails to DOWN. -/
  | linkTrainingEnd (pt : PortN) (ok : Bool)
  /-- PORT_DOWN (R294): A lane or codeword failure takes a port DOWN and removes it from routes. -/
  | portDown (pt : PortN)
  /-- LINK_REPLAY (R294): An uncorrectable codeword causes a link replay from the replay buffer. -/
  | linkReplay (pt : PortN) (have_ : Bool)
  /-- HELLO (R296): A received HELLO negotiates the link version and identities. -/
  | hello (pt : PortN) (m : HelloMsg)
  /-- HELLO_ACK (R296): A HELLO_ACK completes the exchange and brings the port UP. -/
  | helloAck (pt : PortN) (m : HelloMsg)
  /-- HELLO_RESEND (R296): Every 100 us in HELLO a port resends HELLO. -/
  | helloResend (pt : PortN)
  /-- LINK_STATE (R301): A flooded LINK_STATE updates the route computation. -/
  | linkState (h : Hdr) (nbrs : List Nat)
  /-- PING (R316): A PING is received and answered with PONG. -/
  | ping (h : Hdr)
  /-- PONG (R316): A PONG ends probing and suspicion of its sender. -/
  | pong (h : Hdr)
  /-- PING_TIMER (R316): Every 1 ms a probing module sends PING and judges reachability. -/
  | pingTimer
  /-- LOSS_TIMEOUT (R316): LOSS_TIMEOUT runs out on an unreachable node and SUSPECT is sent. -/
  | lossTimeout (n : Nat)
  /-- SUSPECT (R317): The coordinator receives SUSPECT and declares a node lost on two witnesses. -/
  | suspect (h : Hdr) (n : Nat)
  /-- SUSPECT_GATHER_END (R317): After SUSPECT_GATHER the coordinator checks quorum and proposes a LOSS epoch. -/
  | suspectGatherEnd
  /-- COORDINATOR_LOST (R315): Contact with the coordinator lost for the loss timeout makes the lowest reachable member coordinator. -/
  | coordinatorLost
  /-- EPOCH_PROPOSE (R312): A member receives an epoch proposal and acknowledges it now or when free. -/
  | epochPropose (h : Hdr) (e : Nat) (chg : List Change)
  /-- DEFERRED_ACK_TEST (R312): Every 10 us, or at JOIN_HOLD, a member tests whether it may acknowledge a deferred proposal. -/
  | deferredAckTest
  /-- EPOCH_ACK (R312): The coordinator collects acknowledgements and floods EPOCH_COMMIT when all have answered. -/
  | epochAck (h : Hdr) (e : Nat)
  /-- IMMEDIATE_ACK_TIMEOUT (R313): A member silent 5 ms after an IMMEDIATE proposal becomes a suspect. -/
  | immediateAckTimeout
  /-- EPOCH_COMMIT (R312): A module sets the new epoch at one sequencer boundary and applies the changes. -/
  | epochCommit (h : Hdr) (e : Nat) (chg : List Change)
  /-- JOIN_REQ (R321): The coordinator receives a join request and proposes a JOIN epoch. -/
  | joinReq (h : Hdr) (lo : Nat) (hi : Nat)
  /-- JOIN_LOCK_TIMEOUT (R321): A module not locked within 1 s of its first UP port is not admitted. -/
  | joinLockTimeout
  /-- LEAVE_REQ (R311): A leave request starts a LEAVE epoch, or a loss if URGENT. -/
  | leaveReq (h : Hdr) (urgent : Bool)
  /-- STEP_REPLAY (R306): A received replay notice stops partitions sharing a group with the sender. -/
  | stepReplay (h : Hdr) (p : Pn) (step : Nat)
  /-- TIME_SYNC (R325): A TIME_SYNC is received and answered, disciplining fabric time. -/
  | timeSync (pt : PortN) (h : Hdr) (t1 : Nat) (grand : Nat) (ftStep : Option (Nat × Nat))
  /-- TIME_REPLY (R325): A TIME_REPLY gives link delay and offset for slewing. -/
  | timeReply (pt : PortN) (h : Hdr) (t1 : Nat) (t2 : Nat) (t3 : Nat)
  /-- TIME_SYNC_TIMER (R325): Every 1 ms each UP port sends TIME_SYNC. -/
  | timeSyncTimer
  /-- FTIME_SET (R324): A write of FTIME_SET schedules a forward step of fabric time or is discarded. -/
  | ftimeSet (fn : Pn) (v : Nat)
  /-- FTIME_STEP (R324): At the whole second every locked member steps its count forward. -/
  | ftimeStep
  /-- PPS_IN_EDGE (R326): A PPS_IN rising edge aligns the grandmaster's second or is ignored. -/
  | ppsInEdge
  /-- PPS_OUT_SECOND (R326): At each whole second of fabric time a locked module pulses PPS_OUT. -/
  | ppsOutSecond
  /-- DATA (R304): A SEND packet arrives, is delivered in sequence and acknowledged. -/
  | data (h : Hdr) (m : DataMsg)
  /-- E2E_ACK (R304): An end-to-end acknowledgement arrives and SDONE counts after the last packet. -/
  | e2eAck (h : Hdr) (flow : Nat) (seq : Nat) (bad : Bool)
  /-- E2E_RESEND (R304): A packet unacknowledged for 200 us is resent. -/
  | e2eResend (c : Cid) (n : Nat)
  /-- REMOTE_SIGNAL (R305): A remote SIGNAL message adds its count to the target flag counter. -/
  | remoteSignal (h : Hdr) (c : Cid) (k : Nat) (n : Nat)
  /-- BARRIER_ARRIVE (R308): A barrier arrival message climbs the group tree. -/
  | barrierArrive (h : Hdr) (g : Nat) (rank : Nat)
  /-- BARRIER_RELEASE (R308): A barrier release message releases the members down the tree. -/
  | barrierRelease (h : Hdr) (g : Nat)
  /-- COLL_DATA (R308): Collective data arrives and is combined in the port's reduction unit. -/
  | collData (h : Hdr) (g : Nat) (m : CollMsg)
  /-- COLL_CTRL (R305): A collective control message arrives. -/
  | collCtrl (h : Hdr) (g : Nat) (rank : Nat) (count : Nat)
  /-- UNKNOWN_MESSAGE (R305): A message of unknown TYPE is dropped and counted. -/
  | unknownMessage (h : Hdr) (ty : Nat)
  /-- GROUP_DIGEST (R307): Group record digests exchanged over VC0 make a group ACTIVE when all agree. -/
  | groupDigest (h : Hdr) (g : Nat) (dg : List (BitVec 8))
  /-- SNAP_PLAN (R339): A member receives the leader's plan for the next snapshot step. -/
  | snapPlan (h : Hdr) (p : Pn) (step : Nat) (ival : Nat)
  /-- QUIESCE_DONE (R339): The last in-flight instruction completes and the snapshot transfer starts. -/
  | quiesceDone (p : Pn)
  /-- SNAP_REQ (R343): The leader receives a snapshot request and plans the earliest allowed snapshot. -/
  | snapReq (h : Hdr) (p : Pn) (cause : Nat)
  /-- REMOUNT_ASK (R336): A candidate grants or denies space for an owner's images. -/
  | remountAsk (h : Hdr) (size : Nat)
  /-- REMOUNT_GRANT (R336): An owner receives a grant from its remount. -/
  | remountGrant (h : Hdr) (left : Nat)
  /-- REMOUNT_DENY (R336): An owner receives a denial and chooses another remount. -/
  | remountDeny (h : Hdr) (left : Nat)
  /-- SNAP_DATA (R336): A remount stores snapshot data of an owner. -/
  | snapData (h : Hdr) (step : Nat) (item : Nat) (off : Nat) (data : List (BitVec 8)) (last : Bool)
  /-- SNAP_STORED (R339): An owner receives SNAP_STORED and resumes issue once all remounts answered. -/
  | snapStored (h : Hdr) (p : Pn) (step : Nat) (ok : Bool)
  /-- SNAP_DONE (R339): The leader receives a member's result and secures or aborts the step. -/
  | snapDone (h : Hdr) (p : Pn) (step : Nat) (ok : Bool)
  /-- SNAP_LEADER_TIMEOUT (R339): Hearing nothing for 10 times the halt bound the leader aborts the snapshot. -/
  | snapLeaderTimeout (p : Pn)
  /-- SNAP_SECURED (R336): A step is secured; remounts commit the pending image and the interval is recomputed. -/
  | snapSecured (h : Hdr) (p : Pn) (step : Nat)
  /-- SNAP_ABORT (R339): A snapshot step is aborted and no committed image of it is stored. -/
  | snapAbort (h : Hdr) (p : Pn) (step : Nat)
  /-- EMERG_RECORD (R344): A remount stores an owner's emergency record. -/
  | emergRecord (h : Hdr) (data : List (BitVec 8))
  /-- FETCH_REQ (R348): A remount answers a fetch request with held steps or image data. -/
  | fetchReq (h : Hdr) (owner : Nat) (step : Nat) (item : Nat) (off : Nat) (len : Nat)
  /-- FETCH_DATA (R348): A survivor receives fetched image data and restores it. -/
  | fetchData (h : Hdr) (p : Pn) (m : FetchMsg)
  /-- RESTORE_READY (R351): The leader collects readiness and floods RESUME when all are ready. -/
  | restoreReady (h : Hdr) (p : Pn) (step : Nat) (ok : Bool)
  /-- RESUME_MSG (R351): A member receives RESUME with the step and start time to run. -/
  | resumeMsg (h : Hdr) (p : Pn) (step : Nat) (t : Nat)
  /-- LOAD (R51): The host LOAD command checks an image and loads it into all targeted cells or none. -/
  | load (fn : Pn) (q : Fin 63)
  /-- START (R55): The host START command starts the named cells now or at a fabric time. -/
  | start (fn : Pn) (q : Fin 63)
  /-- START_TIME_REACHED (R55): Fabric time reaches a START time and the cells begin issue. -/
  | startTimeReached (c : Cid)
  /-- HOST_STOP (R56): The host STOP command stops the named cells with reason HOST. -/
  | hostStop (fn : Pn) (q : Fin 63)
  /-- RESUME (R56): The host RESUME command resumes cells stopped for reason HOST. -/
  | resume (fn : Pn) (q : Fin 63)
  /-- RESET_CONTEXT (R380): A context reset stops named cells, discards in-flight work and leaves them READY. -/
  | resetContext (fn : Pn) (q : Fin 63)
  /-- RESET_ENGINE (R381): An engine reset also reinitialises the cell's units and checks the instruction buffer CRC. -/
  | resetEngine (fn : Pn) (q : Fin 63)
  /-- DMA_COPY (R462): DMA_COPY starts a copy between host memory and module memory. -/
  | dmaCopy (fn : Pn) (q : Fin 63)
  /-- DMA_COPY_DONE (R462): A DMA copy ends, successfully or with an error, and its completion is written. -/
  | dmaCopyDone (fn : Pn) (k : Nat)
  /-- HOST_READ_TIMEOUT (R462): A host read without completion for 50 ms ends the copy with HOST_TIMEOUT. -/
  | hostReadTimeout (fn : Pn) (k : Nat) (done : Nat)
  /-- HOST_TACK (R534): The host TACK command checks and applies a whole record, optionally persisting it. -/
  | hostTack (fn : Pn) (q : Fin 63)
  /-- HOST_TCOMMIT (R538): The host TCOMMIT command commits the function's staged shadows all or none. -/
  | hostTcommit (fn : Pn) (q : Fin 63)
  /-- FLAG (R268): The FLAG command adds a count to a flag counter of each named cell. -/
  | flag (fn : Pn) (q : Fin 63)
  /-- ATTACH (R385): ATTACH supplies planes for a STALE crossbar to be brought back without rewriting. -/
  | attach (fn : Pn) (q : Fin 63)
  /-- ATTACH_DRIFT_CHECK (R385): The array unit drift-checks an attached crossbar in a write slot and makes it LIVE or leaves it STALE. -/
  | attachDriftCheck (c : Cid) (levels : List Int) (codes : List Int)
  /-- HOST_SNAP_REQ (R343): The host SNAP_REQ command asks the leader for a snapshot with cause HOST. -/
  | hostSnapReq (fn : Pn) (q : Fin 63)
  /-- DRILL_PKG (R368): The DRILL_PKG command verifies and installs a signed drill package. -/
  | drillPkg (fn : Pn) (q : Fin 63)
  /-- SHARD_MAP (R463): SHARD_MAP sets the host span for released shard records. -/
  | shardMap (fn : Pn) (q : Fin 63)
  /-- SHARD_COPY (R463): A released shard is copied to host memory and a SHARD event follows. -/
  | shardCopy (p : Pn)
  /-- PLAN_BUF (R464): PLAN_BUF names the host buffer for the restore plan. -/
  | planBuf (fn : Pn) (q : Fin 63)
  /-- STATUS (R456): The STATUS command returns the boot stage, ready bit and causes. -/
  | status (fn : Pn) (q : Fin 63)
  /-- SQ_DOORBELL (R454): A submission tail doorbell write announces new entries to fetch. -/
  | sqDoorbell (fn : Pn) (q : Fin 63) (tail : Nat) (entries : List (BitVec 8)) (host : List (Nat × List (BitVec 8)))
  /-- CQ_HEAD_DOORBELL (R458): A completion head doorbell write frees completion ring space. -/
  | cqHeadDoorbell (fn : Pn) (q : Fin 63) (head : Nat)
  /-- Q_CREATE (R520): Q_CREATE creates a queue pair from the queue registers. -/
  | qCreate (fn : Pn) (q : Fin 63)
  /-- Q_DELETE (R520): Q_DELETE deletes a queue pair. -/
  | qDelete (fn : Pn) (q : Fin 63)
  /-- CQ_COALESCE_TIMER (R461): CQ_COALESCE_US passing since the first unsignalled entry fires the vector. -/
  | cqCoalesceTimer (fn : Pn) (q : Fin 63)
  /-- BAR4_ACCESS (R452): A BAR4 access reaches owned module memory or is refused and logged. -/
  | bar4Access (fn : Pn) (off : Nat) (len : Nat) (wr : Option (List (BitVec 8)))
  /-- POISONED_TLP (R465): A poisoned write to BAR2 or BAR4 is discarded and reported. -/
  | poisonedTlp (fn : Pn) (bar : Fin 6) (addr : Nat)
  /-- MALFORMED_TLP (R465): A malformed TLP or flow-control error is handled as link loss. -/
  | malformedTlp
  /-- LINK_LOSS (R467): The link leaving DL_Active stops queues and ends DMA copies in flight. -/
  | linkLoss
  /-- PERST_DEASSERT (R442): PERST# deasserted lets PCI Express link training start. -/
  | perstDeassert
  /-- PERST_ASSERT (R446): PERST# asserted resets only the host interface. -/
  | perstAssert
  /-- PCIE_LINK_UP (R448): The link trains, possibly degraded, or is held in Detect. -/
  | pcieLinkUp (rate : Nat) (width : Nat)
  /-- FUNCTION_LEVEL_RESET (R382): A Function Level Reset resets one partition. -/
  | functionLevelReset (p : Pn)
  /-- PCIE_HOT_RESET (R378): A hot or fundamental reset requests a module reset. -/
  | pcieHotReset
  /-- MODULE_RESET (R383): Writing 0x5254 to MODULE_RESET starts a module reset sequence. -/
  | moduleReset (fn : Pn) (v : Nat)
  /-- MODULE_RESET_STAGE (R383): A stage of the module reset sequence ends and the next begins. -/
  | moduleResetStage
  /-- MODULE_RESET_OVERRUN (R384): A module reset stage exceeding its bound asks for a power cycle. -/
  | moduleResetOverrun
  /-- PWR_CYCLE_REQ (R384): Writing 0x5043 to PWR_CYCLE_REQ asks the tray for a power cycle. -/
  | pwrCycleReq (fn : Pn) (v : Nat)
  /-- SUPERVISOR_EXPIRY (R470): The groom supervisor expires and requests a power cycle by pin. -/
  | supervisorExpiry
  /-- COUNTER_LOW_READ (R504): A 32-bit read of a counter's low half latches the upper half. -/
  | counterLowRead (fn : Pn) (n : Nat) (user : Bool)
  /-- CELL_SAMPLE_READ (R523): A read of offset 0x00 of a cell block latches the consistent sample. -/
  | cellSampleRead (fn : Pn) (c : Cid)
  /-- MON_WR_INDEX_READ (R527): A read of MON_WR_INDEX latches MON_BASE_TIME. -/
  | monWrIndexRead (d : DieN)
  /-- SHADOW_SEL (R537): A write of SHADOW_SEL stages a shadow copy of a record or sets FULL. -/
  | shadowSel (fn : Pn) (ty : Nat) (inst : Nat)
  /-- COMMIT (R537): A write of COMMIT commits staged shadows of a type, as TCOMMIT. -/
  | commit (fn : Pn) (ty : Nat)
  /-- REGISTER_WRITE (R5): A write to a register without behaviour of its own sets fields and discards reserved bits. -/
  | registerWrite (fn : Pn) (off : Nat) (len : Nat) (v : Nat)
  /-- INPUT_RISE (R439): Input rising through 40.0 V starts bring-up at stage 0x01. -/
  | inputRise
  /-- BOOT_STAGE_COMPLETE (R440): A bring-up stage ends its work and the next stage begins. -/
  | bootStageComplete (ok : Bool)
  /-- BOOT_STAGE_TIMEOUT (R444): A stage exceeding its maximum asks for a power cycle or holds. -/
  | bootStageTimeout
  /-- TACK_STORE_WRITE (R480): A groom write of a record to the older slot of the tack store completes. -/
  | tackStoreWrite
  /-- SET_ENDPOINT_ID (R471): The bus owner assigns the groom's MCTP endpoint ID on a binding. -/
  | setEndpointId (b : Fin 3) (eid : Nat)
  /-- PLDM_SENSOR_READ (R473): A PLDM request reads a numeric or state sensor. -/
  | pldmSensorRead (b : Fin 3) (id : Nat)
  /-- PLATFORM_EVENT_RETRY (R474): An unacknowledged platform event is repeated every 100 ms up to 10 times. -/
  | platformEventRetry (id : Nat)
  /-- PLATFORM_EVENT_ACK (R474): The tray controller acknowledges a platform event. -/
  | platformEventAck (id : Nat)
  /-- SET_STATE_EFFECTER_STATES (R475): SetStateEffecterStates on effecter 0x0001 requests a module reset or power-cycle acknowledgement. -/
  | setStateEffecterStates (b : Fin 3) (eff : Nat) (st : Nat)
  /-- PLDM_FIRMWARE_UPDATE (R478): A PLDM Type 5 component is received, verified and written to the tack store. -/
  | pldmFirmwareUpdate (b : Fin 3) (comp : Nat) (data : List (BitVec 8))
  /-- ACTIVATE_FIRMWARE (R478): ActivateFirmware returns a pending power cycle. -/
  | activateFirmware (b : Fin 3)
  /-- SPDM_GET_VERSION (R481): An SPDM GET_VERSION is answered. -/
  | spdmGetVersion (b : Fin 4)
  /-- SPDM_GET_CAPABILITIES (R481): An SPDM GET_CAPABILITIES is answered. -/
  | spdmGetCapabilities (b : Fin 4)
  /-- SPDM_NEGOTIATE_ALGORITHMS (R481): An SPDM NEGOTIATE_ALGORITHMS selects SHA3-256 and ML-DSA-44. -/
  | spdmNegotiateAlgorithms (b : Fin 4) (sha3 : Bool) (mldsa : Bool)
  /-- SPDM_GET_CERTIFICATE (R482): An SPDM certificate request returns the chain of a slot. -/
  | spdmGetCertificate (b : Fin 4) (slot : Nat)
  /-- SPDM_CHALLENGE (R482): An SPDM CHALLENGE is signed with the named slot's key. -/
  | spdmChallenge (b : Fin 4) (slot : Nat) (nonce : Nat)
  /-- SPDM_GET_MEASUREMENTS (R483): An SPDM GET_MEASUREMENTS returns measurement blocks from one moment. -/
  | spdmGetMeasurements (b : Fin 4) (idx : Nat) (slot : Nat)
  /-- READ_LOG (R485): An MCTP READ_LOG returns daybook entries and the LOST count. -/
  | readLog (b : Fin 3) (seq : Nat) (count : Nat)
  /-- DAYBOOK_HIGH_WATER (R485): 49,152 unread entries beyond every binding send DAYBOOK_HIGH_WATER once. -/
  | daybookHighWater
  /-- GET_STATUS (R486): The mailbox GET_STATUS returns state, stage and fail cause. -/
  | getStatus
  /-- GET_IDENTITY (R486): The mailbox GET_IDENTITY returns part, serial and firmware version. -/
  | getIdentity
  /-- READ_SENSOR (R486): The mailbox READ_SENSOR returns one sensor value. -/
  | readSensor (id : Nat)
  /-- MAILBOX_READ_LOG (R486): The mailbox READ_LOG returns up to four short daybook entries. -/
  | mailboxReadLog (seq : Nat) (count : Nat)
  /-- GET_POWER (R486): The mailbox GET_POWER returns the power sensors. -/
  | getPower
  /-- GET_THERMAL (R486): The mailbox GET_THERMAL returns the die temperature sensors. -/
  | getThermal
  /-- GET_ALERT (R486): The mailbox GET_ALERT returns unacknowledged event bits. -/
  | getAlert
  /-- CLEAR_ALERT (R486): The mailbox CLEAR_ALERT acknowledges events. -/
  | clearAlert (bits : Nat)
  /-- REQUEST_RESET (R486): The mailbox REQUEST_RESET requests a module reset. -/
  | requestReset (v : Nat)
  /-- FW_START (R486): The mailbox FW_START begins a firmware update or returns BUSY. -/
  | fwStart (len : Nat)
  /-- FW_DATA (R486): The mailbox FW_DATA supplies the next image bytes. -/
  | fwData (off : Nat) (data : List (BitVec 8))
  /-- FW_FINISH (R486): The mailbox FW_FINISH verifies the received image. -/
  | fwFinish
  /-- MAILBOX_READ_RESPONSE (R486): A Block Read of command code 0xFF returns the pending response. -/
  | mailboxReadResponse
  /-- MAILBOX_BAD_CMD (R486): A mailbox request with an unknown code returns BAD_CMD. -/
  | mailboxBadCmd (code : Nat)
  /-- SVC_PRESS (R487): A debounced press of SVC_PRESS_N is recognised. -/
  | svcPress
  /-- SHORT_PRESS (R488): A release after 50 ms to 5 s starts an orderly withdrawal or is refused. -/
  | shortPress
  /-- LONG_PRESS (R488): A press held 5 s cancels a pending withdrawal or is refused. -/
  | longPress
  /-- HANDLE_TOUCH (R493): A recognised touch sends a precautionary snapshot request. -/
  | handleTouch
  /-- TOUCH_LAPSE (R487): The touch state ends 10 s after the last touch. -/
  | touchLapse
  /-- LATCH_OPEN (R494): A recognised latch opening runs the emergency sequence or only logs. -/
  | latchOpen
  /-- LATCH_CLOSED (R494): A recognised latch closing leaves the module outside the system. -/
  | latchClosed
  /-- WITHDRAW_SECURED (R490): A secured step or WITHDRAW_TIMEOUT lets the withdrawing module send LEAVE_REQ. -/
  | withdrawSecured
  /-- SAFE_LOG_WAIT_EXPIRY (R495): SAFE_LOG_WAIT passing lets blue light without a daybook read. -/
  | safeLogWaitExpiry
  /-- DUMP_INSTANT (R506): At each multiple of DUMP_PERIOD counters are sampled and a dump written or skipped. -/
  | dumpInstant (p : Pn)
  /-- TAG_RECORD_WRITE (R511): A tagged instruction's record is written at its last stage, fault or 1 s timeout. -/
  | tagRecordWrite (c : Cid)
  /-- FEED_ID_CHANGE (R553): A change on the FEED_ID pins while powered leaves the held value in force and logs one feed-change entry. -/
  | feedIdChange (v : Fin 16)
  /-- AUX_CONVERTER_FAIL (R395): One auxiliary converter fails and the other carries the auxiliary rail, with the failure logged. -/
  | auxConverterFail (k : Fin 2)
  /-- AUXILIARY_RAIL_LOSS (R389): Input falling below 30 V takes down the auxiliary rail, the groom and the daybook, and floats every output. -/
  | auxiliaryRailLoss
  /-- NUMVFS_CHANGE (R449): The physical function changes NumVFs, resetting partitions whose functions vanish or creating partitions that own no cells. -/
  | numvfsChange (n : Fin 16)
  /-- SNAP_REQ_LAPSE (R343): A snapshot request that has not started within 10 s of the touch lapses. -/
  | snapReqLapse (p : Pn)
  /-- PROGRESS_WORD_SAMPLE (R66): Every 10 us the low half of each partition's progress word takes the sum of its cells' heartbeats. -/
  | progressWordSample (p : Pn)
  /-- POLICY_ENGINE_WINDOW (R87): At the end of its window the policy engine moves crossbars' read-confidence modes and cells' gaits within their bounds. -/
  | policyEngineWindow (conf : List (Nat × Nat × Nat)) (gaits : List (Nat × Nat))
  /-- MESSAGE_LANDS (R220): A matched message between two cells of one module lands, and RDONE counts at the receiver and SDONE at the sender. -/
  | messageLands (c : Cid) (n : Nat)
  /-- RESET_COMPLETE (R380): A context, engine or partition reset ends its drain and the cells enter READY or EMPTY with the command completed. -/
  | resetComplete (c : Cid)
  /-- LED_FLASH_END (R496): A timed LED pattern, the two amber flashes for 2 s or the three blue flashes for 1 s, ends and the LED returns to its next pattern. -/
  | ledFlashEnd
  deriving DecidableEq, Repr

end Sys2Proof
end

