-- ==== Sys2Proof/Decode.lean ====
section
/-! DEFINITION. Decode: the command a table word spells.  No row of spec/opcode_table.json gives a command any bits,
so no word spells one. -/

namespace Sys2Proof

/-- The command a word spells by the table's bits: none, since every row's list of fields is empty.
DEDUCED: log entry 5. -/
def decodeTableWord (_nbits _w : Nat) : Option Instr := none

end Sys2Proof
end

