-- ==== Sys2Proof/Config.lean ====
section
/-! DEFINITION. Config: what an implementation fixes and the free values the spec leaves open.  A free value has no
body, so that no proof can rest on one. -/

namespace Sys2Proof.Config

/-- ML-DSA-44 verification (R476, R477, R481): public key number, message and signature.  The module's keys are not
in the spec.
DESIGN CHOICE: log entry 8. -/
opaque mlDsaVerify : Nat → List Byte → List Byte → Bool

/-- Whether a SHA3-256 digest is the boot ROM's digest of the signing key of a slot (R477): the keys are not in the spec.
DESIGN CHOICE: log entry 8. -/
opaque signingKey : Nat → List Byte → Bool

/-- ML-DSA-44 signature of the module's attestation key (R481 to R483).
DESIGN CHOICE: log entry 8. -/
opaque mlDsaSign : List Byte → List Byte

/-- Digest of the boot ROM (R483, measurement 1): the ROM's bytes are not in the spec.
DESIGN CHOICE: log entry 8. -/
opaque romDigest : List Byte

/-- Digest of the firmware image the module left the factory with (R440, R483).
DESIGN CHOICE: log entry 8. -/
opaque factoryFw : List Byte

/-- Measurement 4 (R483) of a tack store in which the records given have been written since manufacture: the factory's own records
are not in the spec.
DESIGN CHOICE: log entry 8. -/
opaque storeDigest : List Byte → List Byte

/-- The four die identifiers (R483, measurement 7), fixed at manufacture.
DESIGN CHOICE: log entry 8. -/
opaque dieIds : List Byte

/-- AGE_DAYS (R95): days since manufacture at a fabric time; the date is not in the spec.
DESIGN CHOICE: log entry 8. -/
opaque ageDays : Nat → Nat

/-- Bytes of the module counters' dump (R505): the spec gives its ring and not its layout.
DESIGN CHOICE: log entry 8. -/
opaque moduleDump : List Nat → List Byte

/-- The certificate chain of an SPDM slot (R482).
DESIGN CHOICE: log entry 8. -/
opaque certChain : Nat → List Byte

/-- The module's serial number (R296, R486), fixed at manufacture.
DESIGN CHOICE: log entry 8. -/
opaque serialNumber : Nat

/-- Drift factor K × 32,768 that a DRIFT_SLOPE gives after a time in nanoseconds (R123): the spec gives no formula.
DESIGN CHOICE: log entry 8. -/
opaque driftK : Nat → Nat → Nat

/-- Ratio of an expected sum to a corrected sum of zero in a reference read (R122): the spec states none.
DESIGN CHOICE: log entry 8. -/
opaque zeroRatio : Int → Rat

/-- Exponent of the accumulator's anchor where no scale byte and no exponent takes part in it (R144): the spec states
none.  Only the rounding of a noise term can show it.
DESIGN CHOICE: log entry 8. -/
opaque emptyAnchor : Int

/-- A draw of the sampling generator of a cell (R510): physical ID, fabric time of LOAD, instructions fetched.
DESIGN CHOICE: log entry 8. -/
opaque tagDraw : Nat → Nat → Nat → Nat

/-- Random nonce bytes the SPDM responder draws (R482).
DESIGN CHOICE: log entry 8. -/
opaque nonce : Nat → List Byte

/-- Bytes that hide the form of a digest context (R247 calls it opaque): each byte of a context in memory is the model's
own byte combined with one of these.
DESIGN CHOICE: log entry 8. -/
opaque ctxMask : Nat → Byte

/-- Role of a crossbar of another member of a snapshot domain, mod 4 (R333, R347): node, logical cell, crossbar.  The spec
does not say how a survivor learns the role maps of the others.
DESIGN CHOICE: log entry 8. -/
opaque memberRole : Nat → Nat → Nat → Nat

/-- Whether a logical cell of another node belongs to its member partition (R347).
DESIGN CHOICE: log entry 8. -/
opaque memberOwns : Nat → Nat → Bool

/-- Partition of another node that belongs to a domain.
DESIGN CHOICE: log entry 8. -/
opaque memberPart : Nat → Nat

/-- Load header (group scales and ranges) of a lost TRAINED crossbar: node, cell, crossbar.  The image of R332 holds none.
DESIGN CHOICE: log entry 8. -/
opaque lostHeader : Nat → Nat → Nat → List Byte

/-- Device address of a partition's restore area (R348).
DESIGN CHOICE: log entry 8. -/
opaque restoreArea : Nat → Nat

/-- Logical cell of a survivor that stands for a lost cell without items in group records (R347, R350): node, cell.
DESIGN CHOICE: log entry 8. -/
opaque takeCell : Nat → Nat → Nat

/-- CAUSE byte of a named cause of a host command or event (R455, R456, R463, R465): the spec names the causes and numbers
only some.  The argument is the model's own number of the name.
DESIGN CHOICE: log entry 8. -/
opaque hostCause : Nat → Nat

/-- FEED_ID of a node without a direct link to this module (R335): the spec gives no message that carries it.
DESIGN CHOICE: log entry 8. -/
opaque nodeFeed : Nat → Nat

/-- Owners a node serves as remount (R335, rule 5), as this module knows them.
DESIGN CHOICE: log entry 8. -/
opaque nodeOwners : Nat → Nat

end Sys2Proof.Config
end

