-- ==== Sys2Proof/Machine/State.lean ====
section
/-! DEFINITION. Machine/State: the whole state of the module as plain data, and its value at reset.
Each field's comment names its width and the chapter and rule of spec/ that gives it. -/

namespace Sys2Proof.Machine

/-- Why the model stops with a fault.
DEDUCED: log entry 4. -/
inductive Fault where
  /-- An electrical or thermal stress outside the limits of R546 ("No behaviour is defined there"): raised by
  INPUT_OVERVOLTAGE alone.  Safe: the model stops where the module's behaviour is not given. -/
  | stressBeyondLimit
  deriving DecidableEq, Repr

/-- Why the model refuses a command. -/
inductive Refusal where
  /-- The command has no meaning in this model yet: raised by its arm of `exec` alone.  Safe. -/
  | notModelled (mnemonic : String)
  deriving DecidableEq, Repr

/-- A stream descriptor (R185) or matrix descriptor (R204) as the cell reads it once at issue (R203), with FMT = LAYER resolved (R155). -/
structure Desc where
  /-- 48; 07 R185, 08 R204: BASE -/
  base : Nat
  /-- 48; 07 R185: SCALE_BASE -/
  scaleBase : Nat
  /-- 4; 05 R129: FMT code after LAYER resolution -/
  fmt : Nat
  /-- 1; 05 R129: SC -/
  sc : Bool
  /-- 3; 05 R129: BLK code -/
  blk : Nat
  /-- 1; 07 R185: SPACE, true for device addresses -/
  dev : Bool
  /-- 32; 07 R185: INNER_COUNT -/
  inner : Nat
  /-- 32; 07 R185: INNER_STRIDE, signed elements -/
  innerStride : Int
  /-- 32; 07 R185: OUTER_COUNT -/
  outer : Nat
  /-- 32; 07 R185: OUTER_STRIDE, signed bytes (ROW_STRIDE of a matrix descriptor) -/
  outerStride : Int
  /-- 1; 08 R204: LAYOUT, true for the blocked layout of R172 -/
  blocked : Bool
  /-- 1; 08 R204: SAXIS -/
  saxis : Bool
  /-- 16; 07 R185: TAG -/
  tag : Nat
  deriving DecidableEq, Repr

/-- Desc at reset. -/
def Desc.reset : Desc where
  base := 0
  scaleBase := 0
  fmt := 7
  sc := false
  blk := 0
  dev := false
  inner := 0
  innerStride := 0
  outer := 0
  outerStride := 0
  blocked := false
  saxis := false
  tag := 0

/-- A parameter block (R205). -/
structure ParamBlk where
  /-- 32; 08 R205: MASK_IN -/
  maskIn : Nat
  /-- 32; 08 R205: MASK_OUT -/
  maskOut : Nat
  /-- 32; 08 R205: SIGMA, FP32 bits -/
  sigma : Nat
  /-- 16; 08 R205: STREAM -/
  stream : Nat
  /-- 16; 08 R205: QTAG -/
  qtag : Nat
  /-- 32; 08 R205: POS_BASE -/
  posBase : Nat
  /-- 16; 08 R205: E0 -/
  e0 : Nat
  /-- 16; 08 R205: ESTRIDE -/
  estride : Nat
  /-- 32; 08 R205: SCALE, FP32 bits -/
  scale : Nat
  deriving DecidableEq, Repr

/-- ParamBlk at reset. -/
def ParamBlk.reset : ParamBlk where
  maskIn := 0
  maskOut := 0
  sigma := 0
  stream := 0
  qtag := 0
  posBase := 0
  e0 := 0
  estride := 0
  scale := 0

/-- An instruction issued and not completed, in its unit's queue (R29, R33). -/
structure Flight where
  /-- 4; 08 R210: unit index, FENCE order, movement 0 to integrity 7 -/
  unit : Nat
  /-- 128; 02 R46: the instruction word -/
  word : BitVec 128
  /-- 12; 02 R60: word index, for the fault record -/
  pc : Nat
  /-- 4; 08 R206: status it will complete with -/
  status : Nat
  /-- 1; 08 R225: a product instruction has started -/
  started : Bool
  /-- 32; the model's own number of the entry, by which arbitrations and inserted products name it -/
  key : Nat
  /-- 32; 08 R225: vectors of a product instruction started -/
  vec : Nat
  /-- 1; 08 R223: INT8 drive, resolved at issue -/
  dw8 : Bool
  /-- 32; 08 R225, 14 R359: products or arbitrations still to end before it may complete -/
  left : Nat
  /-- -; 08 R203: source descriptor read at issue -/
  src : Desc
  /-- -; 08 R203: destination descriptor read at issue -/
  dst : Desc
  /-- -; 08 R203: parameter block read at issue -/
  par : ParamBlk
  /-- 3; 03 R67: logical crossbar of an array-unit instruction -/
  lx : Nat
  /-- -; 02 R33: bounding ranges of cell-local reads -/
  rd : List (Nat × Nat)
  /-- -; 02 R33: bounding ranges of cell-local writes -/
  wr : List (Nat × Nat)
  /-- 1; 22 R511: this is the tagged instruction -/
  tag : Bool
  /-- 64; 22 R513: time of issue -/
  at_ : Nat
  deriving DecidableEq, Repr

/-- Flight at reset. -/
def Flight.reset : Flight where
  unit := 0
  word := 0
  pc := 0
  status := 0
  started := false
  key := 0
  vec := 0
  dw8 := false
  left := 0
  src := Desc.reset
  dst := Desc.reset
  par := ParamBlk.reset
  lx := 0
  rd := []
  wr := []
  tag := false
  at_ := 0

/-- One level of the hardware loop stack (R45). -/
structure LoopLvl where
  /-- 12; 02 R45: first word of the body -/
  start : Nat
  /-- 12; 08 R210: END, last word of the body -/
  stop : Nat
  /-- 32; 02 R45: iterations left -/
  left : Nat
  deriving DecidableEq, Repr

/-- LoopLvl at reset. -/
def LoopLvl.reset : LoopLvl where
  start := 0
  stop := 0
  left := 0

/-- The wait the sequencer stands in (R65). -/
structure Wait where
  /-- 4; 23 R522: WAIT_KIND, 0 none to 7 halt; 8 a held SIGNAL with RELEASE (R40), shown as 4 -/
  kind : Nat
  /-- 4; 23 R522: WAIT_SEL -/
  sel : Nat
  /-- 12; 23 R522: WAIT_GROUP -/
  group : Nat
  /-- 32; 23 R522: WAIT_COUNT -/
  count : Nat
  /-- 64; 23 R522: WAIT_START -/
  start : Nat
  /-- 8; 02 R41: units a FENCE or an arrival still waits for -/
  mask : Nat
  /-- 1; 02 R42: the BARRIER's fence is satisfied and the arrival counted -/
  arrived : Bool
  /-- 1; 02 R38: TMO_EN of the pending WAIT -/
  timed : Bool
  /-- 16; 02 R38: T of the pending WAIT, µs -/
  tmo : Nat
  /-- 1; 02 R44: the pending BARRIER has STEP set -/
  step : Bool
  deriving DecidableEq, Repr

/-- Wait at reset. -/
def Wait.reset : Wait where
  kind := 0
  sel := 0
  group := 0
  count := 0
  start := 0
  mask := 0
  arrived := false
  timed := false
  tmo := 0
  step := false

/-- A cell's fault record (R60, R522). -/
structure FaultRec where
  /-- 8; 23 R524: FAULT_CODE -/
  code : Nat
  /-- 8; 23 R524: FAULT_CAUSE -/
  cause : Nat
  /-- 12; 23 R522: FAULT_PC -/
  pc : Nat
  /-- 64; 23 R522: FAULT_TIME -/
  time : Nat
  /-- 128; 23 R522: FAULT_WORD -/
  word : BitVec 128
  /-- 48; 10 R272: device address of an uncorrectable memory error -/
  daddr : Nat
  deriving DecidableEq, Repr

/-- FaultRec at reset. -/
def FaultRec.reset : FaultRec where
  code := 0
  cause := 0
  pc := 0
  time := 0
  word := 0
  daddr := 0

/-- A message in the send table or a posted RECV (R220). -/
structure Msg where
  /-- 12; 08 R215: partner node, own node when local -/
  node : Nat
  /-- 10; 08 R215: partner logical cell -/
  cell : Nat
  /-- 4; 08 R215: channel -/
  chan : Nat
  /-- 6; 08 R215: micro-batch tag -/
  mb : Nat
  /-- 4; 08 R215: SDONE or RDONE -/
  done : Nat
  /-- -; 08 R215: the buffer's descriptor -/
  buf : Desc
  /-- 1; 12 R304: packets are on the fabric -/
  sent : Bool
  /-- 64; 12 R304: time of the last send, for the 200 µs resend -/
  sentAt : Nat
  /-- 64; 22 R513: time of issue -/
  at_ : Nat
  /-- 32; 12 R304: sequence number of its packet -/
  seq : Nat
  /-- 32; 12 R304: elements of a RECV's message already landed -/
  have_ : Nat
  /-- 1; 08 R222: the message and its RECV differ -/
  bad : Bool
  /-- -; 08 R221: scoreboard range held until the done flag counts -/
  rng : List (Nat × Nat)
  /-- 128; 02 R59: the word of the SEND or RECV, for the fault record -/
  word : BitVec 128
  /-- 1; 12 R316: a resend has gone unacknowledged -/
  resent : Bool
  /-- 12; 02 R59: its word index -/
  pc : Nat
  deriving DecidableEq, Repr

/-- Msg at reset. -/
def Msg.reset : Msg where
  node := 0
  cell := 0
  chan := 0
  mb := 0
  done := 0
  buf := Desc.reset
  sent := false
  sentAt := 0
  at_ := 0
  seq := 0
  have_ := 0
  bad := false
  rng := []
  word := 0
  resent := false
  pc := 0

/-- An APROG in the write engine (R110, R113, R118). -/
structure WriteJob where
  /-- 3; 08 R223: logical crossbar -/
  lx : Nat
  /-- 4; 04 R110: physical crossbar written -/
  phys : Nat
  /-- 1; 08 R223: FORM LOAD -/
  load : Bool
  /-- 1; 04 R114: DEST = RELAY -/
  relay : Bool
  /-- 1; 04 R113: CARRY = ZERO -/
  zeroCarry : Bool
  /-- 4; 04 R115: WDONE flag counter, 0 for the module's own writes -/
  wdone : Nat
  /-- 9; 08 R223: FIRST -/
  first : Nat
  /-- 10; 08 R223: ROWS -/
  rowsArg : Nat
  /-- -; 08 R223: SRC -/
  src : Desc
  /-- 64 bytes; 08 R227: the load header read at issue -/
  hdr : List (BitVec 8)
  /-- 128; 02 R59: the APROG's word, for the fault record -/
  word : BitVec 128
  /-- 12; 02 R59: its word index -/
  pc : Nat
  /-- 5 each; 04 R110: codes that the write replaces, key row × 512 + column -/
  old : Tbl Int
  /-- 1; 04 R120: holds its write slot -/
  running : Bool
  /-- 64; 04 R120: time from which it waits for a slot -/
  slotWaitFrom : Nat
  /-- -; 04 R110: rows still to program -/
  rows : List Nat
  /-- -; 04 R110: the set Q -/
  q : List Nat
  /-- 1; 04 R124: the current row has failed once -/
  retried : Bool
  /-- 1; 16 R392: paused by a power-fail hold -/
  paused : Bool
  /-- 1; 15 R380: a reset has cut the write short after its present row -/
  cut : Bool
  /-- 1; 04 R125: relay repair write -/
  repair : Bool
  /-- 1; 01 R16: write of a spare substitution, into the spare's region -/
  spare : Bool
  /-- 1; 13 R348: restore write of recovery -/
  restore : Bool
  deriving DecidableEq, Repr

/-- WriteJob at reset. -/
def WriteJob.reset : WriteJob where
  lx := 0
  phys := 0
  load := false
  relay := false
  zeroCarry := false
  wdone := 0
  first := 0
  rowsArg := 0
  src := Desc.reset
  hdr := []
  word := 0
  pc := 0
  old := []
  running := false
  slotWaitFrom := 0
  rows := []
  q := []
  retried := false
  paused := false
  cut := false
  repair := false
  spare := false
  restore := false

/-- An arbitration under way (R356). -/
structure ArbJob where
  /-- 32; 14 R359: the instruction in flight that waits for it -/
  key : Nat
  /-- 1; 14 R355: INT8 drive -/
  dw8 : Bool
  /-- 3; 14 R356: logical crossbar -/
  lx : Nat
  /-- 32; 14 R356: vector index -/
  vec : Nat
  /-- -; 14 R356: drive codes -/
  x : List Int
  /-- -; 14 R356: exponent of s_in -/
  scale : Int
  /-- -; 14 R356: corrected sums of the result in code units, none where masked -/
  y : List (Option Rat)
  /-- -; 14 R356: elements outside their limits -/
  bad : List Nat
  /-- 1; 14 R356: y was read in the arrays (tolerance E(8)), else 0 -/
  analogue : Bool
  /-- 64; 06 R181: noise position of the vector -/
  npos : Nat
  /-- 11; 14 R357: reference cell -/
  ref : Nat
  deriving DecidableEq, Repr

/-- ArbJob at reset. -/
def ArbJob.reset : ArbJob where
  key := 0
  dw8 := false
  lx := 0
  vec := 0
  x := []
  scale := 0
  y := []
  bad := []
  analogue := false
  npos := 0
  ref := 0

/-- A digital product the array unit inserts in the matrix engine (R179). -/
structure InsJob where
  /-- 32; 06 R179: the instruction in flight that caused it -/
  key : Nat
  /-- 1; 11 R285: a TOPK SCAN, whose scores join the list of its query -/
  scan : Bool
  /-- 3; 03 R89: logical crossbar -/
  lx : Nat
  /-- 32; 03 R89: vector index -/
  vec : Nat
  /-- -; 03 R89: drive codes -/
  x : List Int
  /-- -; 03 R76: exponent of s_in -/
  scale : Int
  /-- 1; 03 R81: AMVT -/
  transposed : Bool
  /-- 1; 06 R180: INT8 drive, for the noise -/
  dw8 : Bool
  /-- 1; 03 R88: counted as a digital redo -/
  redo : Bool
  /-- 64; 06 R181: noise position of the vector -/
  npos : Nat
  deriving DecidableEq, Repr

/-- InsJob at reset. -/
def InsJob.reset : InsJob where
  key := 0
  scan := false
  lx := 0
  vec := 0
  x := []
  scale := 0
  transposed := false
  dw8 := false
  redo := false
  npos := 0

/-- What belongs to one logical cell. -/
structure Cell where
  /-- 3; 02 R54, 23 R522: STATE 0 EMPTY 1 READY 2 RUNNING 3 STOPPED 4 FAULTED -/
  st : Nat
  /-- 1; 23 R522: STOP_REASON, true HOST -/
  stopHost : Bool
  /-- 1; 02 R57, 23 R522: halt flag -/
  halt : Bool
  /-- 2; 02 R56: 0 no, 1 STOP instruction drains, 2 host STOP drains, 3 reset drains -/
  draining : Nat
  /-- 2; 15 R380: reset in progress, 1 context, 2 engine, 3 partition -/
  resetLevel : Nat
  /-- -; 15 R378: reset commands owed a completion, as tokens -/
  resetBy : List Nat
  /-- 64; 15 R380: time of the reset request -/
  resetAt : Nat
  /-- 12; 02 R29: program counter -/
  pc : Nat
  /-- 12; 02 R50: ENTRY of the loaded image -/
  entry : Nat
  /-- 32; 02 R50: PROG_ID -/
  progId : Nat
  /-- 1; 02 R50: EVAL flag of the image -/
  eval : Bool
  /-- 1; 02 R50: REPRO flag of the image -/
  repro : Bool
  /-- 13; 02 R50: CODE_WORDS of the image -/
  codeWords : Nat
  /-- 32; 15 R381: IMAGE_CRC of the image last loaded -/
  imageCrc : Nat
  /-- 2048; 15 R381: header of the image last loaded -/
  imageHdr : List (BitVec 8)
  /-- 4,096 × 128; 02 R32: instruction buffer as written -/
  ibuf : Tbl (BitVec 128)
  /-- 4,096 × 128; 02 R53: instruction buffer as visible to fetch -/
  fbuf : Tbl (BitVec 128)
  /-- 15 × 32; 02 R35: flag counters F1 to F15 -/
  flags : Tbl Nat
  /-- 8 levels; 02 R45: hardware loop stack -/
  loops : List LoopLvl
  /-- 1; 08 R211: timed-out flag -/
  timedOut : Bool
  /-- 1; 08 R211: skip flag -/
  skip : Bool
  /-- 1; 08 R211: rejected flag -/
  rejected : Bool
  /-- -; 02 R65: the wait in force -/
  wait : Wait
  /-- 64; 02 R64: heartbeat counter -/
  heartbeat : Nat
  /-- -; 02 R60: fault record -/
  fault : FaultRec
  /-- 9 × 4; 23 R522: UNIT_STATUS, unlisted units read 0xF -/
  unitStatus : Tbl Nat
  /-- 8 per unit; 02 R29, R33: issue queues and scoreboard, in issue order -/
  flight : List Flight
  /-- 2 MiB; 02 R32: scratchpad -/
  spad : Tbl (BitVec 8)
  /-- 65,536 × 32; 05 R147: tally entries -/
  tally : Tbl (BitVec 32)
  /-- 16; 08 R220: send table -/
  sends : List Msg
  /-- 64 per channel; 08 R220: posted RECVs, oldest first -/
  recvs : List Msg
  /-- 1 + 4; 04 R118: write engine, running job first -/
  wq : List WriteJob
  /-- 16; 23 R522: WRITE_STATUS, bits [7:0] -/
  wrStatus : Nat
  /-- 28; 23 R522: MSG_STATUS -/
  msgStatus : Nat
  /-- 36; 23 R522: DRILL_STATUS -/
  drillStatus : Nat
  /-- 8; 23 R522: CAL_STATUS -/
  calStatus : Nat
  /-- 4; 08 R246: IDONE of the DRILL in progress -/
  drillDone : Nat
  /-- 64; 14 R366: time at which a DRILL began to look for a reference -/
  drillAsk : Nat
  /-- 128; 08 R246: word of the DRILL in progress -/
  drillWord : Nat
  /-- -; 08 R229: physical crossbar and CDONE of accepted ACALs -/
  calDone : List (Nat × Nat)
  /-- 9 × 4; 23 R522: XBAR_BIND, key 8 the relay; unlisted keys read the identity (R443) -/
  xbind : Tbl Nat
  /-- 9 × 4; 23 R522: PLANE_BIND, key 8 the shadow set; unlisted keys read the identity -/
  pbind : Tbl Nat
  /-- 5; 04 R116: relay image, 0 none, 1 + b completed image of b, 9 + b null image of b (R112) -/
  relayImg : Nat
  /-- 1; 04 R125: the relay is in use for repair -/
  relayRepair : Bool
  /-- -; 06 R179: inserted products waiting -/
  ins : List InsJob
  /-- 4; 14 R359: arbitrations under way -/
  arbs : List ArbJob
  /-- 64 × 64; 06 R181: noise position counter of each micro-batch tag -/
  npos : Tbl Nat
  /-- 128 × 64; 22 R502: event counters -/
  ctr : Tbl (BitVec 64)
  /-- 1; 22 R510: a tagged instruction is open -/
  tagOpen : Bool
  /-- 64; 22 R511: fetch time of the tagged instruction -/
  tagAt : Nat
  /-- 128; 22 R511: word of the tagged instruction -/
  tagWord : BitVec 128
  /-- 12; 22 R511: PC of the tagged instruction -/
  tagPc : Nat
  /-- 8; 22 R511: wait reason at its issue -/
  tagWait : Nat
  /-- 8; 22 R511: status, 0xFF for a fault -/
  tagStatus : Nat
  /-- 32; 22 R511: TRAIN_STEP at fetch -/
  tagStep : Nat
  /-- 4 × 32; 22 R511: D_ISSUE, D_START, D_COMPLETE, D_DONE -/
  tagT : Nat × Nat × Nat × Nat
  /-- 32; the model's own count of issued instructions -/
  nextKey : Nat
  /-- 64; 22 R510: fabric time of LOAD, which seeds the sampling generator -/
  loadAt : Nat
  /-- 64; 22 R510: instructions fetched since LOAD -/
  fetches : Nat
  /-- 32; 14 R363: drill count -/
  drillCount : Nat
  /-- 1; 01 R18: the cell that holds the number has gone dark -/
  dark : Bool
  /-- 1; 01 R19: marked dark in the repair map -/
  mapDark : Bool
  /-- 16; 01 R16: spare substitution, 0 none, 1 + region index of the spare -/
  subst : Nat
  /-- 3; 01 R16: 0 none, 1 switch-on, 2 self-calibration, 3 programming, 4 waits for the epoch -/
  substStage : Nat
  /-- 1; 12 R311: reason DARK_SPARE instead of SPARE -/
  substDark : Bool
  /-- -; 08 R238: group of each collective issued and not completed -/
  coll : List Nat
  /-- -; 15 R385: ATTACHed logical crossbars awaiting the drift check, with the command owed -/
  attach : List (Nat × Nat)
  /-- -; 19 R456: queue and CID of host STOP commands waiting for the drain -/
  hostStopBy : List Nat
  /-- 64; 02 R55: fabric time of a pending START -/
  startAt : Nat
  /-- 1; 02 R55: a START with a fabric time is pending -/
  startPend : Bool
  deriving DecidableEq, Repr

/-- Cell at reset. -/
def Cell.reset : Cell where
  st := 0
  stopHost := false
  halt := false
  draining := 0
  resetLevel := 0
  resetBy := []
  resetAt := 0
  pc := 0
  entry := 0
  progId := 0
  eval := false
  repro := false
  codeWords := 0
  imageCrc := 0
  imageHdr := []
  ibuf := []
  fbuf := []
  flags := []
  loops := []
  timedOut := false
  skip := false
  rejected := false
  wait := Wait.reset
  heartbeat := 0
  fault := FaultRec.reset
  unitStatus := []
  flight := []
  spad := []
  tally := []
  sends := []
  recvs := []
  wq := []
  wrStatus := 0
  msgStatus := 0
  drillStatus := 0
  calStatus := 0
  drillDone := 0
  drillAsk := 0
  drillWord := 0
  calDone := []
  xbind := []
  pbind := []
  relayImg := 0
  relayRepair := false
  ins := []
  arbs := []
  npos := []
  ctr := []
  tagOpen := false
  tagAt := 0
  tagWord := 0
  tagPc := 0
  tagWait := 0
  tagStatus := 255
  tagStep := 0
  tagT := (0xFFFFFFFF, 0xFFFFFFFF, 0xFFFFFFFF, 0xFFFFFFFF)
  nextKey := 0
  loadAt := 0
  fetches := 0
  drillCount := 0
  dark := false
  mapDark := false
  subst := 0
  substStage := 0
  substDark := false
  coll := []
  attach := []
  hostStopBy := []
  startAt := 0
  startPend := false

/-- One physical crossbar (R68, R95). -/
structure Xbar where
  /-- 3; 23 R525: STATE 0 LIVE 1 RELAY 2 SUSPECT 3 FAILED 4 STALE; reset STALE (R443) -/
  st : Nat
  /-- 512 × 516; 04 R105: achieved value of each conductance pair at its last write, 1/64 level -/
  cond : Tbl Int
  /-- 16 × 16; 03 R68: column-group scales, BF16 -/
  scale : Tbl (BitVec 16)
  /-- 16 × 2; 03 R68: converter-range indices, unlisted read 2 (R443) -/
  rng : Tbl Nat
  /-- 4 × 8; 03 R83: check divisors, unlisted read 1 -/
  dv : Tbl Nat
  /-- 512 × 4; 03 R83: check codes, key row × 4 + c -/
  qc : Tbl Int
  /-- 512 × 4 × 8; 03 R83: row remainders, key row × 4 + c -/
  rem : Tbl Int
  /-- 512 × 4; 03 R83: column totals, key column × 4 + m -/
  tot : Tbl Int
  /-- 4; 04 R119: suspended check columns -/
  susp : List Nat
  /-- 516 × 16; 03 R76: GAIN, unlisted read 32,768 -/
  gain : Tbl Nat
  /-- 516 × 8; 03 R76: OFF, unlisted read 0 -/
  off : Tbl Int
  /-- 516 × 6; 17 R426: column offset trims -/
  trim : Tbl Int
  /-- 512 × 16; 03 R82: transposed row factors, unlisted read 32,768 -/
  rowf : Tbl Nat
  /-- 16; 03 R95: TC, ppm/°C -/
  tc : Int
  /-- 16; 03 R95: T_CAL, 1/64 °C -/
  tCal : Int
  /-- 16; 03 R95: NOISE_SIGMA, 10⁻⁵ of full scale -/
  sigma : Nat
  /-- 16; 03 R95: NOISE_SIGMA_T -/
  sigmaT : Nat
  /-- 16; 03 R92: NOISE_SIGMA of the calibration record -/
  sigmaCal : Nat
  /-- 16; 03 R95: DRIFT_SLOPE, 10⁻⁵ of full scale per decade -/
  slope : Nat
  /-- 16; 04 R122: drift factor K × 32,768 -/
  k : Nat
  /-- 512 × 32; 04 R121: wear counters -/
  wear : Tbl Nat
  /-- 1; 04 R121: the wear warning is logged -/
  wearWarned : Bool
  /-- 64; 03 R95: PROG_TIME -/
  progTime : Nat
  /-- 3; 23 R525: read-confidence mode in force, order of R87 -/
  conf : Nat
  /-- 1; 03 R100: calibration factors valid -/
  calOk : Bool
  /-- 1; 09 R249: column converters not yet self-calibrated (CAL = SELF); reset before self-calibration (R439) -/
  selfCal : Bool
  /-- 4; 17 R431: recalibration, 0 idle, 1 + s slice s running or next -/
  slice : Nat
  /-- 2; 17 R434: class of the run in progress -/
  calCause : Nat
  /-- -; 17 R431: z of the run -/
  calZ : Tbl Rat
  /-- -; 17 R431: sum of m over the slices done -/
  calM : Tbl Rat
  /-- -; 17 R431: sum of e over the slices done -/
  calE : Tbl Rat
  /-- -; 17 R431: T of the slices done -/
  calT : List Int
  /-- -; 17 R431: transposed row factors of the run -/
  calRow : Tbl Nat
  /-- 32; 03 R75, R90, R92: products since the window began -/
  prods : Nat
  /-- 32; 03 R90: digital redos of the window -/
  redos : Nat
  /-- 16; 03 R75: conversions of each group in the window -/
  conv : Tbl Nat
  /-- 16; 03 R75: saturated conversions of each group in the window -/
  sat : Tbl Nat
  /-- 4; 03 R91: weighted mean of the residual over σ, √(D² + 128) left out -/
  resM : Tbl Rat
  /-- 4; 03 R91: weighted mean square of the normalised residual -/
  resQ : Tbl Rat
  /-- 1; 03 R91: a bias event is in force -/
  biased : Bool
  /-- 64; 03 R93: outputs seen since programming -/
  outN : Nat
  /-- 16; 03 R93: sum of each group's outputs -/
  outS : Tbl Rat
  /-- 16; 03 R93: sum of squares of each group's outputs -/
  outQ : Tbl Rat
  /-- 16; 03 R93: baseline mean and variance of each group -/
  base : Tbl (Rat × Rat)
  /-- 64; 04 R122: time of the last reference read -/
  refAt : Nat
  /-- 1; 14 R365: convicted once, to be drilled again after recalibration -/
  drillMark : Bool
  deriving DecidableEq, Repr

/-- Xbar at reset.
DESIGN CHOICE: log entry 16. -/
def Xbar.reset : Xbar where
  st := 4
  cond := []
  scale := []
  rng := []
  dv := []
  qc := []
  rem := []
  tot := []
  susp := []
  gain := []
  off := []
  trim := []
  rowf := []
  tc := 0
  tCal := 1600
  sigma := 600
  sigmaT := 600
  sigmaCal := 600
  slope := 120
  k := 32768
  wear := []
  wearWarned := false
  progTime := 0
  conf := 1
  calOk := true
  selfCal := true
  slice := 0
  calCause := 0
  calZ := []
  calM := []
  calE := []
  calT := []
  calRow := []
  prods := 0
  redos := 0
  conv := []
  sat := []
  resM := []
  resQ := []
  biased := false
  outN := 0
  outS := []
  outQ := []
  base := []
  refAt := 0
  drillMark := false

/-- One physical cell region (R390, R396), by region index die × 272 + row × 16 + column. -/
structure Phys where
  /-- 2; 16 R396: 0 ON 1 RETAIN 2 OFF; reset OFF until stage 0x06 (R439) -/
  rst : Nat
  /-- 2; 09 R254 N23: held region request, 3 none -/
  want : Nat
  /-- 3; 16 R399: switch-on, 0 none, 1 delayed, 2 to 5 stages closed, 6 clock to start -/
  swStage : Nat
  /-- 1; 16 R400: slope and dwell are stretched -/
  stretched : Bool
  /-- 64; 16 R402: time of the request or of stage 1 -/
  swAt : Nat
  /-- 1; 16 R394: regulator A failed -/
  regA : Bool
  /-- 1; 16 R394: regulator B failed -/
  regB : Bool
  /-- 1; 16 R393: sense fault -/
  sense : Bool
  /-- 1; 16 R405: joint derate -/
  jointDerate : Bool
  /-- 1; 16 R408: droop derate in force -/
  droopDerate : Bool
  /-- 64; 16 R408: end of the droop derate -/
  droopUntil : Nat
  /-- 1; 16 R408: the island skips one clock in eight -/
  stretch : Bool
  /-- 64; 16 R408: start of the stretch -/
  stretchAt : Nat
  /-- 1; 16 R413: temperature split in force -/
  tempSplit : Bool
  /-- 64; 16 R413: time since which the difference is at or below 25 °C -/
  splitOkAt : Nat
  /-- 4 × 8; 16 R406: factory gait trims, mV -/
  trimG : Tbl Int
  /-- 16; 16 R404: factory path-resistance baseline, µΩ -/
  baseR : Nat
  /-- 5; 16 R405: consecutive ratios above JOINT_WARN -/
  jw : Nat
  /-- 5; 16 R405: consecutive ratios above JOINT_FAIL -/
  jf : Nat
  /-- 16; 16 R404: last valid ratio × 256 -/
  jr : Nat
  /-- 2; 23 R522: gait in force; reset CANTER -/
  gait : Nat
  /-- 2; 16 R407: gait target of a rail ramp -/
  target : Nat
  /-- 1; 16 R407: a rail ramp is under way -/
  ramp : Bool
  /-- 16; 16 R406: rail target, mV -/
  rail : Nat
  /-- 1; 16 R412: rail raised for a neighbour -/
  raised : Bool
  /-- 2; 09 R249: gait the policy engine chooses -/
  policyGait : Nat
  /-- 3; 23 R522: CEIL_CAUSE -/
  cause : Nat
  /-- 1; 14 R360: quarantined -/
  quar : Bool
  /-- 1; 14 R365: under suspicion -/
  suspect : Bool
  /-- 16; 17 R416: latest reading of the region's sensor, 1/64 °C -/
  temp : Int
  /-- 1; 03 R99: above 95 °C until it falls to 93 °C -/
  hot : Bool
  /-- 9; 03 R67: physical crossbars -/
  xb : Tbl Xbar
  /-- 32; 17 R435: CAL_COUNT -/
  calCount : Nat
  /-- 64; 17 R435: CAL_LAST_TIME -/
  calTime : Nat
  /-- 16; 17 R435: CAL_LAST_TEMP -/
  calTemp : Int
  /-- 2; 17 R435: CAL_LAST_CAUSE -/
  calCause : Nat
  /-- 1; 17 R436: factors not yet written to the tack store -/
  calDirty : Bool
  /-- 64; 17 R436: time of the last tack-store write of the factors -/
  calStored : Nat
  /-- 1; 17 R436: factors written to the tack store since power-up -/
  calEver : Bool
  /-- 1; 14 R361: visited in this drill sweep -/
  visited : Bool
  /-- 1; 14 R361: not reached at the last step boundary, visited first -/
  owed : Bool
  /-- 1; 14 R365: owed a priority visit -/
  prio : Bool
  /-- 1; 14 R360: quarantine mark committed to the repair map -/
  repairMark : Bool
  deriving DecidableEq, Repr

/-- Phys at reset.
DESIGN CHOICE: log entry 16. -/
def Phys.reset : Phys where
  rst := 2
  want := 3
  swStage := 0
  stretched := false
  swAt := 0
  regA := false
  regB := false
  sense := false
  jointDerate := false
  droopDerate := false
  droopUntil := 0
  stretch := false
  stretchAt := 0
  tempSplit := false
  splitOkAt := 0
  trimG := []
  baseR := 600
  jw := 0
  jf := 0
  jr := 0
  gait := 2
  target := 2
  ramp := false
  rail := 0
  raised := false
  policyGait := 2
  cause := 0
  quar := false
  suspect := false
  temp := 1600
  hot := false
  xb := []
  calCount := 0
  calTime := 0
  calTemp := 0
  calCause := 0
  calDirty := false
  calStored := 0
  calEver := false
  visited := false
  owed := false
  prio := false
  repairMark := false

/-- A record of the shard outbox (R265, R531). -/
structure ShardRec where
  /-- 48; 23 R531: shard address -/
  addr : Nat
  /-- 32; 23 R531: length -/
  len : Nat
  /-- 8; 23 R531: 0 ANALOGUE 1 DIGITAL -/
  kind : Nat
  /-- 8; 23 R531: format -/
  fmt : Nat
  /-- 16; 23 R531: logical cell -/
  cell : Nat
  /-- 8; 23 R531: logical crossbar -/
  xbar : Nat
  /-- 16; 23 R531: tensor tag -/
  tag : Nat
  /-- 32; 23 R531: TRAIN_STEP -/
  step : Nat
  /-- 1; 10 R266: released, waiting for SHARD_COPY -/
  released : Bool
  deriving DecidableEq, Repr

/-- ShardRec at reset. -/
def ShardRec.reset : ShardRec where
  addr := 0
  len := 0
  kind := 0
  fmt := 0
  cell := 0
  xbar := 0
  tag := 0
  step := 0
  released := false

/-- The block counts of a tensor tag in the step (R136). -/
structure TagCount where
  /-- 32; 05 R156: blocks written -/
  total : Nat
  /-- 32; 05 R135: zero blocks -/
  zero : Nat
  /-- 32; 05 R135: underflow blocks -/
  under : Nat
  /-- 32; 05 R135: clamped blocks -/
  clamp : Nat
  /-- 32; 05 R135: non-finite blocks -/
  nonfin : Nat
  deriving DecidableEq, Repr

/-- TagCount at reset. -/
def TagCount.reset : TagCount where
  total := 0
  zero := 0
  under := 0
  clamp := 0
  nonfin := 0

/-- What the policy engine keeps of a layer (R157, R158). -/
structure LayerSt where
  /-- 16; 05 R158: consecutive steps above the floor with no trigger -/
  quiet : Nat
  /-- 32; 05 R158: steps since the last return, 0 when none -/
  back : Nat
  /-- 1; 05 R158: stays up until the partition is reset -/
  stuck : Bool
  /-- 48; 05 R157: offset of the layer's wider slots in the pool -/
  poolOff : Nat
  /-- 48; 05 R157: pool bytes the layer holds -/
  poolLen : Nat
  /-- -; 05 R156: sum of the squares of the normalised residuals of the layer's reads in the step -/
  resS : Rat
  /-- 64; 05 R156: residuals in that sum -/
  resN : Nat
  /-- 1; 05 R160: a host commit of the layer's record fell into the step -/
  committed : Bool
  deriving DecidableEq, Repr

/-- LayerSt at reset. -/
def LayerSt.reset : LayerSt where
  quiet := 0
  back := 0
  stuck := false
  poolOff := 0
  poolLen := 0
  resS := 0
  resN := 0
  committed := false

/-- A staged shadow of a record (R537). -/
structure Shadow where
  /-- 16; 23 R537: TYPE -/
  ty : Nat
  /-- 16; 23 R537: INSTANCE -/
  inst : Nat
  /-- 60 KiB; 23 R537: the body as written -/
  body : Tbl (BitVec 8)
  deriving DecidableEq, Repr

/-- Shadow at reset. -/
def Shadow.reset : Shadow where
  ty := 0
  inst := 0
  body := []

/-- A submission entry in execution (R455). -/
structure Cmd where
  /-- 6; 19 R458: queue -/
  q : Nat
  /-- 8; 19 R455: OPCODE -/
  op : Nat
  /-- 8; 19 R455: FLAGS -/
  flags : Nat
  /-- 16; 19 R455: CID -/
  cid : Nat
  /-- 16; 19 R455: CELL_FIRST -/
  first : Nat
  /-- 16; 19 R455: CELL_COUNT -/
  count : Nat
  /-- 8; 19 R455: SET -/
  set : Nat
  /-- 64; 19 R455: ARG0 -/
  a0 : Nat
  /-- 64; 19 R455: ARG1 -/
  a1 : Nat
  /-- 64; 19 R455: ARG2 -/
  a2 : Nat
  /-- 64; 19 R455: ARG3 -/
  a3 : Nat
  /-- 64; 22 R513: time of its start -/
  at_ : Nat
  deriving DecidableEq, Repr

/-- Cmd at reset. -/
def Cmd.reset : Cmd where
  q := 0
  op := 0
  flags := 0
  cid := 0
  first := 0
  count := 0
  set := 0
  a0 := 0
  a1 := 0
  a2 := 0
  a3 := 0
  at_ := 0

/-- A queue pair (R454, R520). -/
structure Queue where
  /-- 4; 23 R520: SQ_LOG -/
  sqLog : Nat
  /-- 4; 23 R520: CQ_LOG -/
  cqLog : Nat
  /-- 6; 23 R520: VECTOR -/
  vec : Nat
  /-- 8; 23 R520: CQ_COALESCE_N -/
  coN : Nat
  /-- 10; 23 R520: CQ_COALESCE_US -/
  coUs : Nat
  /-- 2; 23 R520: Q_STATE 0 ABSENT 1 ACTIVE 2 ERROR -/
  st : Nat
  /-- 64; 23 R520: CQ_BASE -/
  cqBase : Nat
  /-- 32; 23 R520: SQ_HEAD -/
  head : Nat
  /-- 17; 19 R454: submission tail the driver wrote -/
  sqTail : Nat
  /-- 32; 23 R520: CQ_TAIL -/
  cqTail : Nat
  /-- 17; 19 R458: completion head the driver wrote -/
  cqHead : Nat
  /-- 1; 19 R458: PHASE of the next completion -/
  phase : Bool
  /-- 4 MiB; 19 R451: submission ring in BAR2 -/
  ring : Tbl (BitVec 8)
  /-- -; 19 R458: completions waiting for ring space -/
  cwait : List (List Nat)
  /-- 8; 19 R461: unsignalled entries -/
  unsig : Nat
  /-- 64; 19 R461: time of the first unsignalled entry -/
  unsigAt : Nat
  /-- -; 19 R455: entries started and not completed -/
  open_ : List Cmd
  deriving DecidableEq, Repr

/-- Queue at reset. -/
def Queue.reset : Queue where
  sqLog := 0
  cqLog := 0
  vec := 0
  coN := 1
  coUs := 0
  st := 0
  cqBase := 0
  head := 0
  sqTail := 0
  cqTail := 0
  cqHead := 0
  phase := true
  ring := []
  cwait := []
  unsig := 0
  unsigAt := 0
  open_ := []

/-- The registers of one PCI Express function (R520, R537). -/
structure Func where
  /-- 48; 23 R520: WIN_BASE -/
  winBase : Nat
  /-- 1; 23 R520: COUNTER_USER_EN -/
  userEn : Bool
  /-- 1; 23 R520: COUNTER_USER_LOCK -/
  userLock : Bool
  /-- 2; 23 R520: FN_CTR_BANK -/
  bank : Nat
  /-- 10; 23 R520: USER_CTR_CELL -/
  userCell : Nat
  /-- 63; 19 R454: queue pairs -/
  qs : Tbl Queue
  /-- 32; 23 R537: SHADOW_SEL -/
  sel : Nat
  /-- 1; 23 R537: FULL -/
  full : Bool
  /-- 8; 23 R537: cause of the last rejection -/
  lastRej : Nat
  /-- 16; 23 R537: staged shadows -/
  shadows : List Shadow
  /-- 32; 22 R504: upper half latched by a low-half read, key counter number -/
  ctrLatch : Tbl Nat
  /-- 192; 23 R523: sample latched by a read of 0x00, key cell: WAIT_COUNT, WAIT_START, HEARTBEAT -/
  cellLatch : Tbl (Nat × Nat × Nat)
  /-- -; 19 R462: DMA copies in flight -/
  dma : List Cmd
  /-- 64; 19 R461: vectors fired and not yet seen by the host -/
  irq : List Nat
  /-- -; 19 R467: queue and CID of copies ended by link loss, owed an ABORTED completion -/
  aborted : List (Nat × Nat)
  deriving DecidableEq, Repr

/-- Func at reset. -/
def Func.reset : Func where
  winBase := 0
  userEn := false
  userLock := false
  bank := 0
  userCell := 0
  qs := []
  sel := 0
  full := false
  lastRej := 0
  shadows := []
  ctrLatch := []
  cellLatch := []
  dma := []
  irq := []
  aborted := []

/-- The body of a tack record (R533, R535). -/
structure RecImg where
  /-- 20; 23 R533: body bytes -/
  len : Nat
  /-- 1 MiB; 23 R535: body, unlisted bytes zero -/
  bytes : Tbl (BitVec 8)
  deriving DecidableEq, Repr

/-- RecImg at reset. -/
def RecImg.reset : RecImg where
  len := 0
  bytes := []

/-- A lost item and where it goes (R347). -/
structure Placed where
  /-- 12; 13 R347: lost node -/
  lnode : Nat
  /-- 10; 13 R347: lost logical cell -/
  lcell : Nat
  /-- 3; 13 R347: lost logical crossbar -/
  lxbar : Nat
  /-- 2; 13 R333: role of the item -/
  role : Nat
  /-- 12; 13 R347: survivor -/
  node : Nat
  /-- 10; 13 R347: its logical cell -/
  cell : Nat
  /-- 3; 13 R347: its logical crossbar -/
  xbar : Nat
  deriving DecidableEq, Repr

/-- Placed at reset. -/
def Placed.reset : Placed where
  lnode := 0
  lcell := 0
  lxbar := 0
  role := 0
  node := 0
  cell := 0
  xbar := 0

/-- What belongs to one partition (R61, R521). -/
structure Part where
  /-- 32; 23 R521: TRAIN_STEP -/
  trainStep : Nat
  /-- 2; 23 R521: SNAP 0 RUNNING 1 HALT 2 RESTORING -/
  snap : Nat
  /-- 1; 23 R521: STEP_SKIP -/
  stepSkip : Bool
  /-- 32; 23 R521: LAST_SECURED -/
  lastSecured : Nat
  /-- 16; 23 R521: SNAP_LEADER -/
  snapLeader : Nat
  /-- 4,096; 10 R265: shard outbox, posting order -/
  outbox : List ShardRec
  /-- 1; 10 R266: the step's gate CFIN has completed -/
  gateDone : Bool
  /-- 1; 10 R266: a record of the step has been released -/
  released : Bool
  /-- 1; 10 R266: the step's SKIP completion has been sent -/
  skipSent : Bool
  /-- 1; 05 R159: global fallback found the pool exhausted this step -/
  poolSkip : Bool
  /-- 32; 02 R66: STEP barriers completed on local group 0 -/
  progHi : Nat
  /-- 32; 02 R66: heartbeat sum last sampled -/
  progLo : Nat
  /-- 65,536; 05 R136: block counts per tag of the step -/
  tags : Tbl TagCount
  /-- 4,096; 05 R157: fallback state per layer -/
  layers : Tbl LayerSt
  /-- 3 × 64; 19 R463: host base, device base, length -/
  shardMap : Nat × Nat × Nat
  /-- -; 19 R463: map that replaces it at the step boundary -/
  shardMapNext : Option (Nat × Nat × Nat)
  /-- 2 × 64; 19 R464: host address and length of the plan buffer -/
  planBuf : Nat × Nat
  /-- 1; 19 R464: recovery waits for a plan buffer -/
  planWait : Bool
  /-- 2; 10 R272: replays of the current step -/
  replays : Nat
  /-- 2; 10 R272: 4 KiB blocks of the errors that caused the replays of the step -/
  replayAddr : List Nat
  /-- 1; 10 R272: an APROG UPDATE of the step has been accepted -/
  applied : Bool
  /-- -; 12 R306: node, partition and TRAIN_STEP of replay notices acted on -/
  replaySeen : List (Nat × Nat × Nat)
  /-- 32; 13 R339: planned snapshot step -/
  plan : Option Nat
  /-- 16; 13 R341: interval N -/
  interval : Nat
  /-- 1; 13 R339: halted, waiting for in-flight work -/
  quiesce : Bool
  /-- 32; 13 R339: step being secured -/
  snapStep : Nat
  /-- -; 13 R339: remounts that answered SNAP_STORED -/
  stored : List Nat
  /-- 1; 13 R339: the snapshot transfer runs -/
  sending : Bool
  /-- -; 13 R339: leader only, members that reported success -/
  doneFrom : List Nat
  /-- 64; 13 R339: leader only, time of the last message heard -/
  planAt : Nat
  /-- 4; 13 R341: leader only, last halts in ns -/
  halts : List Nat
  /-- 64; 13 R341: start of the present halt -/
  haltAt : Nat
  /-- 64; 13 R341: last step times in ns -/
  stepTimes : List Nat
  /-- 64; 13 R341: time of the last step boundary -/
  stepAt : Nat
  /-- 64; 13 R343: time of an unserved snapshot request -/
  reqAt : Option Nat
  /-- -; 13 R341: times of LOSS epochs in the domain -/
  lossTimes : List Nat
  /-- 1; 13 R337: no secured image at the remount -/
  unsecured : Bool
  /-- 3; 13 R348: restore progress, 0 none, 1 asked, 2 fetched, 3 planned, 4 ready, 5 failed -/
  restore : Nat
  /-- 32; 13 R348: restore step -/
  restoreStep : Nat
  /-- -; 13 R348: steps held for an owner by a module, as answered -/
  restoreHave : List (Nat × Nat × List Nat)
  /-- -; 13 R351: leader only, members that are ready -/
  readyFrom : List Nat
  /-- -; 13 R347: the placement of the lost items -/
  placed : List Placed
  /-- -; 13 R347: lost node and cell, and the survivor that takes the cell's digital state -/
  lostCells : List (Nat × Nat × Nat)
  /-- -; 13 R348: pieces still to come: owner, item, offset, length -/
  fetchWant : List (Nat × Nat × Nat × Nat)
  /-- -; 13 R348: pieces received: owner, item, offset, data -/
  fetched : List (Nat × Nat × Nat × List (BitVec 8))
  /-- -; 19 R464: delivered segments: owner kind, owner, device address, length -/
  segs : List (Nat × Nat × Nat × Nat)
  /-- 48; 13 R348: bytes of the restore area in use -/
  areaNext : Nat
  /-- -; 13 R350: rewritten group records the module proposes -/
  proposed : List (Nat × RecImg)
  /-- -; 13 R348: remount that serves each owner -/
  restoreFrom : List (Nat × Nat)
  /-- 8,192; 13 R332: crossbars written since their last secured image, cell × 8 + crossbar -/
  dirty : List Nat
  /-- 8,192; 13 R332: crossbars in the image under way -/
  dirtySent : List Nat
  /-- 64; 21 R490: when the planned step was planned -/
  planTime : Nat
  /-- 32; 13 R339: leader only, step whose results are awaited -/
  await_ : Option Nat
  /-- 64; 13 R344: start of the snapshot transfer -/
  sendAt : Nat
  /-- 48; 13 R340: bytes of the snapshot transfer -/
  sendSize : Nat
  /-- 32; 13 R334: DATA_POS restored -/
  dataPos : Nat
  /-- 32 bytes each; 14 R370: digest formed by each listed cell -/
  digest : Tbl (List (BitVec 8))
  /-- -; 14 R372: distinct digests with counts received per group -/
  digests : Tbl (List (List (BitVec 8) × Nat))
  /-- 64; 22 R508: SEQ -/
  dumpSeq : Nat
  /-- 64; 22 R507: DUMP_WR -/
  dumpWr : Nat
  /-- 64; 22 R507: DUMP_RD -/
  dumpRd : Nat
  /-- 32; 22 R507: LOST of the next dump -/
  dumpLost : Nat
  /-- 32; 22 R505: QGEN -/
  qgen : Nat
  /-- 1; 22 R505: a committed selection waits for the next dump instant -/
  selPend : Bool
  /-- 32; 22 R511: next slot of the tag ring -/
  tagWr : Nat
  /-- 432 × 8; 22 R505: counter selection in force, the body of the record as the last dump instant took it -/
  selImg : Tbl (BitVec 8)
  /-- 8 × 32 × 64; 22 R513: histogram buckets, key h × 32 + b -/
  hist : Tbl (BitVec 64)
  /-- 1; 12 R318: stopped by the minority state -/
  minority : Bool
  /-- 1; 15 R382: a partition reset is under way -/
  resetting : Bool
  /-- 1; 19 R449: the function disappears when its partition reset completes -/
  vanish : Bool
  /-- 1; 15 R386: a partition reset waits for the end of the emergency sequence -/
  flrHeld : Bool
  /-- 4,096; 05 R142: layers whose rotation record was committed with ROT_LOCK -/
  rotLock : List Nat
  /-- 1; 15 R386: a reset met the snapshot halt -/
  snapReset : Bool
  /-- 1; 13 R339: the halt belongs to a planned snapshot -/
  halting : Bool
  deriving DecidableEq, Repr

/-- Part at reset. -/
def Part.reset : Part where
  trainStep := 0
  snap := 0
  stepSkip := false
  lastSecured := 0xFFFFFFFF
  snapLeader := 0xFFFF
  outbox := []
  gateDone := false
  released := false
  skipSent := false
  poolSkip := false
  progHi := 0
  progLo := 0
  tags := []
  layers := []
  shardMap := (0, 0, 0)
  shardMapNext := none
  planBuf := (0, 0)
  planWait := false
  replays := 0
  replayAddr := []
  applied := false
  replaySeen := []
  plan := none
  interval := 1
  quiesce := false
  snapStep := 0
  stored := []
  sending := false
  doneFrom := []
  planAt := 0
  halts := []
  haltAt := 0
  stepTimes := []
  stepAt := 0
  reqAt := none
  lossTimes := []
  unsecured := false
  restore := 0
  restoreStep := 0
  restoreHave := []
  readyFrom := []
  placed := []
  lostCells := []
  fetchWant := []
  fetched := []
  segs := []
  areaNext := 0
  proposed := []
  restoreFrom := []
  dirty := []
  dirtySent := []
  planTime := 0
  await_ := none
  sendAt := 0
  sendSize := 0
  dataPos := 0
  digest := []
  digests := []
  dumpSeq := 0
  dumpWr := 0
  dumpRd := 0
  dumpLost := 0
  qgen := 0
  selPend := false
  tagWr := 0
  selImg := [(259, 1), (260, 1), (261, 1), (262, 1), (263, 1), (264, 1), (265, 1), (338, 1), (339, 1), (362, 1), (385, 1), (388, 100)]
  hist := []
  minority := false
  resetting := false
  vanish := false
  flrHeld := false
  rotLock := []
  snapReset := false
  halting := false

/-- One fabric port (R295, R528). -/
structure Port where
  /-- 3; 23 R528: 0 DISABLED 1 DOWN 2 TRAINING 3 HELLO 4 UP 5 REFUSED -/
  st : Nat
  /-- 3; 23 R528: CAUSE -/
  cause : Nat
  /-- 8; 23 R528: partner port -/
  pPort : Nat
  /-- 4; 23 R528: partner FEED_ID -/
  pFeed : Nat
  /-- 16; 23 R528: partner node -/
  pNode : Nat
  /-- 8; 23 R528: negotiated version -/
  ver : Nat
  /-- 16; 23 R528: partner ISA_MASK -/
  isa : Nat
  /-- 64; 23 R528: partner serial number -/
  serial : Nat
  /-- 1; 12 R296: HELLO received -/
  gotHello : Bool
  /-- 1; 12 R296: HELLO_ACK sent -/
  sentAck : Bool
  /-- 1; 12 R296: HELLO_ACK received -/
  gotAck : Bool
  /-- 16; 12 R294: uncorrectable codewords within the window -/
  uncorr : Nat
  /-- 64; 12 R294: start of that window -/
  uncorrAt : Nat
  /-- 1; 12 R295: signal on all four lanes -/
  signal : Bool
  /-- 32; 12 R325: measured link delay, ns -/
  dly : Nat
  /-- 32; 12 R296: partner epoch from its HELLO -/
  epoch : Nat
  /-- 16; 12 R296: partner coordinator from its HELLO -/
  coord : Nat
  deriving DecidableEq, Repr

/-- Port at reset. -/
def Port.reset : Port where
  st := 1
  cause := 0
  pPort := 0
  pFeed := 0
  pNode := 0xFFFF
  ver := 0
  isa := 0
  serial := 0
  gotHello := false
  sentAck := false
  gotAck := false
  uncorr := 0
  uncorrAt := 0
  signal := false
  dly := 0
  epoch := 0xFFFFFFFF
  coord := 0xFFFF

/-- A node being probed (R316). -/
structure Probe where
  /-- 64; 12 R316: when probing began -/
  since : Nat
  /-- 64; 12 R316: last PONG, or the start of probing -/
  lastPong : Nat
  /-- 1; 12 R316: unreachable -/
  unreach : Bool
  /-- 1; 12 R316: SUSPECT sent -/
  suspected : Bool
  deriving DecidableEq, Repr

/-- Probe at reset. -/
def Probe.reset : Probe where
  since := 0
  lastPong := 0
  unreach := false
  suspected := false

/-- An epoch proposal in flight (R312). -/
structure Proposal where
  /-- 32; 12 R312: number e + 1 -/
  epoch : Nat
  /-- -; 12 R312: reason, node, argument; reasons 0 LOSS 1 CAPACITY 2 DARK_SPARE 3 JOIN 4 SPARE 5 LEAVE (R311) -/
  changes : List (Nat × Nat × Nat)
  /-- -; 12 R312: members that acknowledged (coordinator) -/
  acks : List Nat
  /-- 64; 12 R312: time of the proposal -/
  at_ : Nat
  deriving DecidableEq, Repr

/-- Proposal at reset. -/
def Proposal.reset : Proposal where
  epoch := 0
  changes := []
  acks := []
  at_ := 0

/-- A collective or communication-group barrier in progress (R308). -/
structure CollSt where
  /-- 3; 12 R308: 0 CRED 1 CBCAST 2 CNORM 3 CFIN 4 BARRIER 5 digest -/
  op : Nat
  /-- 32; 08 R240: element count of the first contribution -/
  count : Nat
  /-- 4; 08 R238: COMBINE + 4 × PATTERN -/
  mode : Nat
  /-- 16; 08 R238: ROOT -/
  root : Nat
  /-- -; 12 R308: rank and contribution, FP32 bits -/
  parts : List (Nat × List Nat)
  /-- 32; 12 R310: epoch in which the group was ACTIVE -/
  epoch : Nat
  /-- 1; 08 R240: counts differ -/
  bad : Bool
  /-- -; 08 R240: ranks whose count is zero -/
  zeros : List Nat
  /-- 64; 12 R307: time of the first arrival -/
  at_ : Nat
  deriving DecidableEq, Repr

/-- CollSt at reset. -/
def CollSt.reset : CollSt where
  op := 0
  count := 0
  mode := 0
  root := 0
  parts := []
  epoch := 0
  bad := false
  zeros := []
  at_ := 0

/-- A communication group (R307). -/
structure Group where
  /-- 2; 12 R307, R320: 0 INACTIVE 1 ACTIVE 2 SUSPENDED -/
  st : Nat
  /-- 1; 12 R307: a record is committed on this module -/
  known : Bool
  /-- 32 bytes each; 12 R307: record digest of each member node -/
  digests : Tbl (List (BitVec 8))
  /-- -; 12 R308: collectives in progress, oldest first -/
  colls : List CollSt
  /-- -; 12 R310: packets of epoch e + 1 held until the commit: kind, rank, data -/
  held : List (Nat × Nat × List Nat)
  deriving DecidableEq, Repr

/-- Group at reset. -/
def Group.reset : Group where
  st := 0
  known := false
  digests := []
  colls := []
  held := []

/-- A snapshot image held for an owner (R336). -/
structure Image where
  /-- 32; 13 R336: step -/
  step : Nat
  /-- -; 13 R332: items, key item × 2^48 + offset -/
  data : Tbl (BitVec 8)
  deriving DecidableEq, Repr

/-- Image at reset. -/
def Image.reset : Image where
  step := 0
  data := []

/-- An owner this module serves as remount (R336). -/
structure Owner where
  /-- 48; 13 R336: size granted -/
  size : Nat
  /-- 2; 13 R336: most recent secured images, newest first -/
  images : List Image
  /-- -; 13 R336: pending image -/
  pend : Option Image
  /-- 1 MiB each; 13 R344: emergency record of each partition of the owner, key its first byte -/
  emerg : Tbl (List (BitVec 8))
  deriving DecidableEq, Repr

/-- Owner at reset. -/
def Owner.reset : Owner where
  size := 0
  images := []
  pend := none
  emerg := []

/-- The fabric side of the module (R290 to R329). -/
structure Fab where
  /-- 24; 12 R295: port status -/
  ports : Tbl Port
  /-- 4,096; 12 R301: ports and hop count of each node -/
  routes : Tbl (List Nat × Nat)
  /-- 4,096; 12 R301: neighbours each node listed in its LINK_STATE -/
  links : Tbl (List Nat)
  /-- 16; 23 R519: NODE_ID in force -/
  nodeId : Nat
  /-- 1; 12 R310: the module shares a committed epoch -/
  inSystem : Bool
  /-- 32; 23 R519: EPOCH -/
  epoch : Nat
  /-- 16; 23 R519: COORDINATOR -/
  coord : Nat
  /-- 4,096; 12 R310: member list of the epoch, ascending -/
  members : List Nat
  /-- 1; 12 R318: minority state -/
  minority : Bool
  /-- 1; 21 R490: the module's LEAVE has committed -/
  left_ : Bool
  /-- -; 12 R312: proposal in flight -/
  prop : Option Proposal
  /-- -; 12 R313: changes pending at the coordinator -/
  pendChg : List (Nat × Nat × Nat)
  /-- -; 12 R312: proposal received and not yet acknowledged -/
  deferred : Option Proposal
  /-- 4,096; 12 R316: nodes being probed -/
  probes : Tbl Probe
  /-- -; 12 R317: suspect and witness (coordinator) -/
  suspects : List (Nat × Nat)
  /-- -; 12 R317: nodes declared lost and not yet committed -/
  lost : List Nat
  /-- 64; 12 R317: start of SUSPECT_GATHER -/
  gatherAt : Option Nat
  /-- 64; 12 R321: time of the first UP port while outside a system -/
  joinAt : Option Nat
  /-- 1; 12 R321: JOIN_REQ pending -/
  joinSent : Bool
  /-- 1; 12 R321: cause NOT_LOCKED -/
  notLocked : Bool
  /-- 1; 12 R300: cause NO_NODE_ID -/
  noNode : Bool
  /-- 4; 12 R328: system link version -/
  sysVer : Nat
  /-- 1; 12 R325: TIME_LOCKED -/
  locked : Bool
  /-- 16; 12 R324: grandmaster -/
  grand : Nat
  /-- 64; 12 R325: offset still to slew, ns -/
  slew : Int
  /-- 1; 12 R325: the count stood still at its last nanosecond, to slew back -/
  slewHeld : Bool
  /-- 1; 12 R324: the system was formed at epoch 0 and the coordinator's count is not yet taken -/
  fresh : Bool
  /-- 2; 12 R326: consecutive ignored PPS_IN edges -/
  ppsBad : Nat
  /-- 1; 12 R324: valid pulses on PPS_IN -/
  ppsValid : Bool
  /-- 1; 12 R326: PPS_OUT pulsed at this second -/
  ppsOut : Bool
  /-- -; 12 R324: second at which the step acts, and the amount -/
  ftSet : Option (Nat × Nat)
  /-- 32; 12 R324: epoch in which FTIME_SET was last used -/
  ftEpoch : Option Nat
  /-- -; 12 R304: next sequence number per source cell, node, cell and channel -/
  seqTx : Tbl Nat
  /-- -; 12 R304: next expected sequence number per flow -/
  seqRx : Tbl Nat
  /-- 4,096; 12 R307: communication groups -/
  groups : Tbl Group
  /-- 4; 13 R336: owners served, key node -/
  owners : Tbl Owner
  /-- 2; 13 R335: this module's remounts -/
  remounts : List Nat
  /-- -; 13 R336: candidates that denied since the last epoch -/
  asked : List Nat
  /-- 8; 01 R13: failed bridge ends, key die × 2 + end -/
  bridges : Tbl Bool
  /-- -; 12 R305: messages sent and not yet taken by the links: TYPE, destination, epoch, then the message's fields -/
  tx : List (List Nat)
  deriving DecidableEq, Repr

/-- Fab at reset. -/
def Fab.reset : Fab where
  ports := []
  routes := []
  links := []
  nodeId := 0xFFFF
  inSystem := false
  epoch := 0xFFFFFFFF
  coord := 0xFFFF
  members := []
  minority := false
  left_ := false
  prop := none
  pendChg := []
  deferred := none
  probes := []
  suspects := []
  lost := []
  gatherAt := none
  joinAt := none
  joinSent := false
  notLocked := false
  noNode := true
  sysVer := 1
  locked := false
  grand := 0xFFFF
  slew := 0
  slewHeld := false
  fresh := false
  ppsBad := 0
  ppsValid := false
  ppsOut := false
  ftSet := none
  ftEpoch := none
  seqTx := []
  seqRx := []
  groups := []
  owners := []
  remounts := []
  asked := []
  bridges := []
  tx := []

/-- What belongs to one die's sensing block and steward (R415 to R437). -/
structure Die where
  /-- 1,024 × 64; 17 R423: result ring -/
  ring : Tbl (BitVec 64)
  /-- 32; 23 R527: MON_WR_INDEX -/
  wr : Nat
  /-- 64; 23 R527: fabric time of the entry at the write index -/
  baseTime : Nat
  /-- 64; 23 R527: MON_BASE_TIME latched -/
  latchTime : Nat
  /-- 2,048 × 64; 23 R527: latest-value table, key channel × 4 + quantity -/
  latest : Tbl (BitVec 64)
  /-- 512 × 16; 17 R425: CH_OFFSET -/
  chOff : Tbl Int
  /-- 512 × 16; 17 R425: CH_GAIN, unlisted read 32,768 -/
  chGain : Tbl Nat
  /-- 512; 17 R425: CH_A, unlisted read 1 -/
  chA : Tbl Rat
  /-- 512; 17 R425: CH_B, unlisted read 0 -/
  chB : Tbl Rat
  /-- 16; 17 R430: retired converters -/
  retired : List Nat
  /-- 16; 17 R429: converters self-calibrated since power-up -/
  selfCal : List Nat
  /-- 16; 17 R422: channel + 1 each converter converts now, + 1024 for a burst -/
  running : Tbl Nat
  /-- 16; 17 R422: channel + 1 of a pending urgent request -/
  urgent : Tbl Nat
  /-- 16 × 16; 17 R437: converters that have not finished the partition's burst -/
  burst : Tbl Nat
  /-- 5; 17 R427: consecutive sweeps off by more than 1 % -/
  refBad : Nat
  /-- 5; 17 R427: consecutive sweeps within 0.75 % -/
  refGood : Nat
  /-- 1; 17 R427: the die's REFIN fault holds -/
  refFault : Bool
  /-- 64 × 5; 17 R428: consecutive readings out of range -/
  sensBad : Tbl Nat
  /-- 64; 17 R428: failed sensors -/
  sensFail : List Nat
  /-- 64 × 16; 17 R416: last reading of each sensor, unlisted read 25 °C -/
  sens : Tbl Int
  /-- 64 × 2; 24 R545: consecutive conversions above 105 °C -/
  tripRun : Tbl Nat
  /-- -; 17 R434: queued runs: class, region index, crossbar, excess in 1/64 °C -/
  calQ : List (Nat × Nat × Nat × Nat)
  /-- 64; 17 R434: running crossbars -/
  calRun : List (Nat × Nat)
  /-- 9; 04 R120: write slots in use -/
  slots : Nat
  /-- 4 × 2; 16 R395: failed vertical converters per zone -/
  vcFail : Tbl Nat
  /-- 32 × 2; 16 R395: failed regulators per periphery pair -/
  periph : Tbl Nat
  /-- 18; 17 R435: CAL_COUNT and CAL_LAST_TIME of the periphery regions -/
  periphCal : Tbl (Nat × Nat)
  /-- 9; 14 R361: region under a scheduled visit -/
  drillAt : Option Nat
  /-- 16; 14 R361: rounds done in the visit, per engine -/
  drillRound : Nat
  /-- 2; 14 R361: engine of the visit -/
  drillEng : Nat
  /-- 9; 14 R365: crossbars convicted in the visit -/
  drillConv : List Nat
  /-- 1; 14 R365: a round of the visit did not pass -/
  drillFail : Bool
  /-- 16; 16 R391: segment voltage last reported, 100 µV -/
  segV : Nat
  deriving DecidableEq, Repr

/-- Die at reset.
DEDUCED: log entry 103. -/
def Die.reset : Die where
  ring := []
  wr := 0
  baseTime := 0
  latchTime := 0
  latest := []
  chOff := []
  chGain := []
  chA := []
  chB := []
  retired := []
  selfCal := []
  running := []
  urgent := []
  burst := []
  refBad := 0
  refGood := 0
  refFault := false
  sensBad := []
  sensFail := []
  sens := []
  tripRun := []
  calQ := []
  calRun := []
  slots := 0
  vcFail := []
  periph := []
  periphCal := []
  drillAt := none
  drillRound := 0
  drillEng := 0
  drillConv := []
  drillFail := false
  segV := 16000

/-- Power delivery, governor and input (R24 to R28, R388 to R414). -/
structure Pow where
  /-- 1; 16 R389: the auxiliary rail is up -/
  aux : Bool
  /-- 1; 16 R392: vertical and memory converters run -/
  main : Bool
  /-- 1; 16 R392: stopped until a power cycle -/
  latchedOff : Bool
  /-- 1; 16 R392: overvoltage excursion warned -/
  ovWarn : Bool
  /-- 1; 16 R392: undervoltage excursion warned -/
  uvWarn : Bool
  /-- 1; 16 R392: power-fail hold -/
  hold : Bool
  /-- 64; 16 R392: start of the hold -/
  holdAt : Nat
  /-- 1; 01 R27: overcurrent stall -/
  overcur : Bool
  /-- 16; 20 R473: input voltage last sampled, 10 mV -/
  vin : Nat
  /-- 16; 20 R473: input current last sampled, 10 mA -/
  iin : Nat
  /-- 32; 01 R24: power samples of the window, W -/
  sum : Nat
  /-- 8; 01 R24: samples in the window -/
  n : Nat
  /-- 16; 23 R519: INPUT_POWER -/
  power : Nat
  /-- 4; 01 R26: consecutive windows below 95 % -/
  below : Nat
  /-- 2; 23 R519: GOV_CEILING -/
  ceil : Nat
  /-- 2; 01 R25: stall slots, 0 none, 1 digital and vector, 2 analogue too -/
  stall : Nat
  /-- 16; 23 R519: GOV_LIMIT_EFF -/
  limit : Nat
  /-- 2; 16 R395: failed auxiliary converters -/
  auxFail : Nat
  /-- 16; 16 R395: failed memory converters -/
  memFail : List Nat
  /-- 32; 16 R395: lost or isolated stacks -/
  stackLost : List Nat
  deriving DecidableEq, Repr

/-- Pow at reset. -/
def Pow.reset : Pow where
  aux := false
  main := false
  latchedOff := false
  ovWarn := false
  uvWarn := false
  hold := false
  holdAt := 0
  overcur := false
  vin := 0
  iin := 0
  sum := 0
  n := 0
  power := 0
  below := 0
  ceil := 3
  stall := 0
  limit := 3800
  auxFail := 0
  memFail := []
  stackLost := []

/-- Bring-up and module-wide status (R439 to R446, R519). -/
structure Boot where
  /-- 8; 23 R519: BOOT_STAGE -/
  stage : Nat
  /-- 8; 23 R519: BOOT_FAIL_CAUSE -/
  failCause : Nat
  /-- 1; 18 R439: bring-up runs -/
  running : Bool
  /-- 1; 18 R444: bring-up holds -/
  held : Bool
  /-- 1; 18 R444: the stage's one retry has been used -/
  retry : Bool
  /-- 1; 18 R444: the previous bring-up asked for a power cycle -/
  overran : Bool
  /-- 1; 23 R519: MODULE_READY -/
  ready : Bool
  /-- 1; 23 R519: REFIN_FAULT -/
  refin : Bool
  /-- 1; 23 R519: PWR_DEGRADED -/
  degraded : Bool
  /-- 1; 23 R519: MODULE_FAULT -/
  modFault : Bool
  /-- 8; 23 R519: FAULT_CAUSE -/
  faultCause : Nat
  /-- 1; 18 R444: LOAD is refused on every partition -/
  memFault : Bool
  /-- 3; 15 R383: module reset, 0 none, 1 to 6 the row running -/
  resetStage : Nat
  /-- 1; 15 R386: a module reset waits -/
  resetHeld : Bool
  /-- 32; 23 R519: RESET_COUNT -/
  resetCount : Nat
  /-- 2; 23 R519: MON_URGENT_CAUSE -/
  urgCause : Nat
  /-- 2; 23 R519: MON_URGENT_RESULT -/
  urgRes : Nat
  /-- 32; 20 R476: FW_VERSION of the running image -/
  ibootVer : Nat
  /-- 32; 20 R476: SVN of the running image -/
  svn : Nat
  /-- 1; 20 R476: KEY_SLOT of the running image -/
  keySlot : Nat
  /-- 32 bytes; 18 R440, 20 R483: digest of the running image -/
  fwMeas : List (BitVec 8)
  deriving DecidableEq, Repr

/-- Boot at reset. -/
def Boot.reset : Boot where
  stage := 1
  failCause := 0
  running := false
  held := false
  retry := false
  overran := false
  ready := false
  refin := false
  degraded := false
  modFault := false
  faultCause := 0
  memFault := false
  resetStage := 0
  resetHeld := false
  resetCount := 0
  urgCause := 0
  urgRes := 0
  ibootVer := 0
  svn := 0
  keySlot := 0
  fwMeas := []

/-- The PCI Express link (R447 to R467). -/
structure HostIf where
  /-- 1; 19 R448: DL_Active -/
  up : Bool
  /-- 1; 18 R442: PERST# asserted -/
  perst : Bool
  /-- 4; 23 R519: LINK_RATE -/
  rate : Nat
  /-- 5; 23 R519: LINK_WIDTH -/
  width : Nat
  /-- 1; 23 R519: HIF_LINK_DEGRADED -/
  degraded : Bool
  /-- 1; 23 R519: HIF_LINK_FAIL -/
  fail : Bool
  /-- 4; 19 R449: NumVFs in force -/
  numVf : Nat
  /-- 6; 19 R450: log2 of the BAR4 size -/
  bar4Log : Nat
  /-- 2; 19 R452, R465: the last host read's completion: 0 success, 1 Unsupported Request, 2 Completer Abort -/
  rdStatus : Nat
  /-- -; 19 R452: its data -/
  rdData : List (BitVec 8)
  deriving DecidableEq, Repr

/-- HostIf at reset. -/
def HostIf.reset : HostIf where
  up := false
  perst := true
  rate := 0
  width := 0
  degraded := false
  fail := false
  numVf := 0
  bar4Log := 30
  rdStatus := 0
  rdData := []

/-- The groom's management side (R469 to R486). -/
structure Groom where
  /-- 3 × 8; 20 R471: endpoint ID per binding, 0 I3C 1 SMBus 2 VDM -/
  eid : Tbl Nat
  /-- 3 × 32; 20 R485: one above the highest SEQ read per binding -/
  readSeq : Tbl Nat
  /-- 1; 20 R485: DAYBOOK_HIGH_WATER sent -/
  highSent : Bool
  /-- 2; 20 R474: binding of the last sensor read -/
  lastBind : Nat
  /-- -; 20 R474: unacknowledged events: ID, argument, repeats -/
  events : List (Nat × Nat × Nat)
  /-- -; 20 R486: pending mailbox response -/
  mbox : Option (List Nat)
  /-- -; 20 R472: responses sent on the bindings: binding, protocol, fields -/
  resp : List (List Nat)
  /-- -; 20 R479: update running, component + 1 × 256 for the mailbox -/
  upd : Option Nat
  /-- 32; 20 R486: next expected offset -/
  updNext : Nat
  /-- 32; 20 R486: image length -/
  updLen : Nat
  /-- 32 MiB; 20 R478: image received, staged in 64 MiB of module memory -/
  updData : Tbl (BitVec 8)
  /-- 64 MiB; 20 R476: firmware image in the tack store -/
  fw : Tbl (BitVec 8)
  /-- 1; 20 R477: the image in the tack store verifies -/
  fwOk : Bool
  /-- 1; 20 R478: a new image waits for the next power cycle -/
  fwPend : Bool
  /-- 1; 20 R481: the SPDM responder is open -/
  spdm : Bool
  /-- 8; 20 R481: version negotiated -/
  spdmVer : Nat
  /-- 1; 20 R481: algorithms negotiated -/
  spdmAlg : Bool
  /-- 1; 24 R540: PWR_CYCLE_REQ_N driven low -/
  pwrReq : Bool
  /-- 1; 24 R545: THERMTRIP_N driven low -/
  trip : Bool
  /-- 4; 24 R542: FEED_ID held -/
  feed : Nat
  /-- 4; 24 R542: FEED_ID now at the pins; an open strap reads 1 -/
  feedPins : Nat
  /-- 1; 24 R542: FEED_ID sampled since power-up -/
  feedSet : Bool
  /-- -; 20 R480, 23 R539: tack-store writes requested, in order: type + 65,536 × partition, instance, record as it stood -/
  writeQ : List (Nat × Nat × RecImg)
  /-- 4; 14 R368: installed drill packages: PKG_ID, SEQ, PKG_SEED, patterns (ID, attributes) -/
  pkgs : List (Nat × Nat × Nat × List (Nat × Nat))
  /-- 1; 20 R474: SERVICE_REQUEST outstanding -/
  service : Bool
  deriving DecidableEq, Repr

/-- Groom at reset. -/
def Groom.reset : Groom where
  eid := []
  readSeq := []
  highSent := false
  lastBind := 0
  events := []
  mbox := none
  resp := []
  upd := none
  updNext := 0
  updLen := 0
  updData := []
  fw := []
  fwOk := true
  fwPend := false
  spdm := false
  spdmVer := 0
  spdmAlg := false
  pwrReq := false
  trip := false
  feed := 0
  feedPins := 15
  feedSet := false
  writeQ := []
  pkgs := []
  service := false

/-- A daybook entry (R484). -/
structure DayEntry where
  /-- 64; 20 R484: TIME -/
  time : Nat
  /-- 32; 20 R484: SEQ -/
  seq : Nat
  /-- 2; 20 R484: severity -/
  sev : Nat
  /-- 8; 20 R484: SOURCE -/
  src : Nat
  /-- 16; 20 R484: CODE -/
  code : Nat
  /-- 16; 20 R484: LCELL -/
  lcell : Nat
  /-- 16; 20 R484: PCELL -/
  pcell : Nat
  /-- 8; 20 R484: PART -/
  part : Nat
  /-- 64; 20 R484: ARG0 -/
  arg0 : Nat
  /-- 4 × 64; 20 R484: ARGS -/
  args : List Nat
  deriving DecidableEq, Repr

/-- DayEntry at reset. -/
def DayEntry.reset : DayEntry where
  time := 0
  seq := 0
  sev := 0
  src := 0
  code := 0
  lcell := 0xFFFF
  pcell := 0xFFFF
  part := 0xFF
  arg0 := 0
  args := []

/-- The service inputs and LEDs (R487 to R497). -/
structure Rack where
  /-- 1; 21 R487: a press is recognised and held -/
  pressed : Bool
  /-- 64; 21 R488: when the press was recognised -/
  pressAt : Nat
  /-- 1; 21 R488: the press has acted as a long press -/
  longDone : Bool
  /-- 64; 21 R488: when LATCH_OPEN was last recognised, plus 1 -/
  latchAt : Nat
  /-- 1; 21 R494: the latch is open -/
  latch : Bool
  /-- 1; 21 R493: touch window open -/
  touch : Bool
  /-- 64; 21 R487: last touch -/
  touchAt : Nat
  /-- 2; 21 R490: 0 none 1 WITHDRAW_PENDING 2 LEAVE_REQ sent -/
  withdraw : Nat
  /-- 64; 21 R490: start of the withdrawal -/
  wdAt : Nat
  /-- 1; 21 R490: a step planned after the press is secured -/
  secured : Bool
  /-- 1; 21 R496: the emergency sequence runs -/
  emerg : Bool
  /-- 64; 13 R344: start of the emergency sequence -/
  emergAt : Nat
  /-- -; 13 R344: partitions whose emergency record is not sent, and 16 + those whose transfer still runs -/
  emergLeft : List Nat
  /-- 1; 21 R496: refused-press flashes -/
  flashAmber : Bool
  /-- 1; 21 R496: cancelled-withdrawal flashes -/
  flashBlue : Bool
  /-- 64; 21 R496: start of the flashes -/
  flashAt : Nat
  /-- 64; 21 R495: since when the module is ready and outside every epoch -/
  safeSince : Option Nat
  /-- 32; 21 R495: daybook entry that records it -/
  safeSeq : Nat
  /-- 1; 21 R495: SAFE_LOG_WAIT has passed -/
  logWaived : Bool
  deriving DecidableEq, Repr

/-- Rack at reset. -/
def Rack.reset : Rack where
  pressed := false
  pressAt := 0
  longDone := false
  latchAt := 0
  latch := false
  touch := false
  touchAt := 0
  withdraw := 0
  wdAt := 0
  secured := false
  emerg := false
  emergAt := 0
  emergLeft := []
  flashAmber := false
  flashBlue := false
  flashAt := 0
  safeSince := none
  safeSeq := 0
  logWaived := false

/-- The two slots of a record in the tack store (R441). -/
structure Slot where
  /-- -; 18 R441: sequence number and record, none when invalid -/
  a : Option (Nat × RecImg)
  /-- -; 18 R441: the other slot -/
  b : Option (Nat × RecImg)
  deriving DecidableEq, Repr

/-- Slot at reset. -/
def Slot.reset : Slot where
  a := none
  b := none

/-- The module. -/
structure State where
  /-- -; the model's own queue of waiting commands, oldest first -/
  pending : List Instr
  /-- 64; 12 R324: fabric time, ns -/
  time : Nat
  /-- 1,024; 00 R7: logical cells, unlisted at Cell.reset -/
  cells : Tbl Cell
  /-- 1,088; 00 R7: physical cells, unlisted at Phys.reset -/
  phys : Tbl Phys
  /-- 1,024 × 11; 01 R15: repair map, region index of a logical cell, unlisted the default map -/
  repair : Tbl Nat
  /-- 16; 02 R61: partitions -/
  parts : Tbl Part
  /-- 16; 19 R449: functions -/
  funcs : Tbl Func
  /-- -; 23 R536: tack records in force, key type × 65,536 + instance, unlisted the factory default -/
  recs : Tbl RecImg
  /-- 512 MiB; 18 R441: tack store -/
  store : Tbl Slot
  /-- 2 TiB; 01 R11: module memory, unlisted bytes read zero (R443) -/
  mem : List Host.Cell
  /-- -; 10 R272: 64-byte lines with an uncorrectable error -/
  badMem : List Nat
  /-- 64-bit space; 19 R455: host memory as the module's DMA sees and writes it -/
  hostMem : Tbl (BitVec 8)
  /-- -; 12 R290: fabric and membership -/
  fab : Fab
  /-- 4; 00 R7: dies -/
  dies : Tbl Die
  /-- -; 16 R388: power -/
  pow : Pow
  /-- -; 18 R439: bring-up and module status -/
  boot : Boot
  /-- -; 19 R447: host link -/
  hif : HostIf
  /-- -; 20 R469: groom -/
  groom : Groom
  /-- 65,536; 20 R484: daybook ring, key SEQ mod 65,536 -/
  day : Tbl DayEntry
  /-- 32; 20 R484: SEQ of the next entry -/
  daySeq : Nat
  /-- -; 21 R487: rack inputs -/
  rack : Rack
  /-- 512 × 64; 22 R503: global counters -/
  gctr : Tbl (BitVec 64)
  deriving DecidableEq, Repr

/-- State at reset.
DESIGN CHOICE: log entry 3.
DEDUCED: log entry 5. -/
def State.reset : State where
  pending := []
  time := 0
  cells := []
  phys := []
  repair := []
  parts := []
  funcs := []
  recs := []
  store := []
  mem := []
  badMem := []
  hostMem := []
  fab := Fab.reset
  dies := []
  pow := Pow.reset
  boot := Boot.reset
  hif := HostIf.reset
  groom := Groom.reset
  day := []
  daySeq := 0
  rack := Rack.reset
  gctr := []

end Sys2Proof.Machine
end

