-- ==== Sys2Proof/Machine/Events.lean ====
section
/-! DEFINITION. Machine/Events: the numbers of the counted events (R502, R503), of the daybook's codes (R554), of the
record types (R536) and of the fault codes (R524). -/

namespace Sys2Proof.Machine

/-- INSTR_RETIRED (R502). -/
abbrev Ev.instrRetired : Nat := 0x00
/-- ZERO_WORK (R502). -/
abbrev Ev.zeroWork : Nat := 0x01
/-- FAULTS (R502). -/
abbrev Ev.faults : Nat := 0x02
/-- SEQ_STALL_QUEUE (R502). -/
abbrev Ev.seqStallQueue : Nat := 0x03
/-- SEQ_STALL_HAZARD (R502). -/
abbrev Ev.seqStallHazard : Nat := 0x04
/-- SEQ_WAIT (R502). -/
abbrev Ev.seqWait : Nat := 0x05
/-- SEQ_BARRIER (R502). -/
abbrev Ev.seqBarrier : Nat := 0x06
/-- SEQ_FENCE (R502). -/
abbrev Ev.seqFence : Nat := 0x07
/-- SEQ_HALT (R502). -/
abbrev Ev.seqHalt : Nat := 0x08
/-- GOV_STALL (R502). -/
abbrev Ev.govStall : Nat := 0x09
/-- TAG_SELECTED (R502). -/
abbrev Ev.tagSelected : Nat := 0x0A
/-- TAG_SKIPPED (R502). -/
abbrev Ev.tagSkipped : Nat := 0x0B
/-- ARD_PRODUCTS (R502). -/
abbrev Ev.ardProducts : Nat := 0x10
/-- ARD_PASS_1 (R502). -/
abbrev Ev.ardPass1 : Nat := 0x11
/-- ARD_PASS_2 (R502). -/
abbrev Ev.ardPass2 : Nat := 0x12
/-- ARD_PASS_4 (R502). -/
abbrev Ev.ardPass4 : Nat := 0x13
/-- ARD_PASS_8 (R502). -/
abbrev Ev.ardPass8 : Nat := 0x14
/-- ARD_DIGITAL_REDO (R502). -/
abbrev Ev.ardDigitalRedo : Nat := 0x15
/-- ARD_NOWAIT_DIGITAL (R502). -/
abbrev Ev.ardNowaitDigital : Nat := 0x16
/-- ARD_CHECK_SKIPPED (R502). -/
abbrev Ev.ardCheckSkipped : Nat := 0x17
/-- ARD_CONV_SAT (R502). -/
abbrev Ev.ardConvSat : Nat := 0x18
/-- ARD_NONFINITE (R502). -/
abbrev Ev.ardNonfinite : Nat := 0x19
/-- ARD_WAIT_NS (R502). -/
abbrev Ev.ardWaitNs : Nat := 0x1A
/-- TOPK_QUERIES (R502). -/
abbrev Ev.topkQueries : Nat := 0x1B
/-- WR_ROWS (R502). -/
abbrev Ev.wrRows : Nat := 0x20
/-- WR_ROUNDS (R502). -/
abbrev Ev.wrRounds : Nat := 0x21
/-- WR_ROW_FAIL (R502). -/
abbrev Ev.wrRowFail : Nat := 0x22
/-- WR_ROWS_DEFERRED (R502). -/
abbrev Ev.wrRowsDeferred : Nat := 0x23
/-- WR_CLAMP (R502). -/
abbrev Ev.wrClamp : Nat := 0x24
/-- WR_CARRY_SAT (R502). -/
abbrev Ev.wrCarrySat : Nat := 0x25
/-- WR_UPDATE_SKIPPED (R502). -/
abbrev Ev.wrUpdateSkipped : Nat := 0x26
/-- WR_RELAY_DISCARD (R502). -/
abbrev Ev.wrRelayDiscard : Nat := 0x27
/-- WR_RELAY_ABSENT (R502). -/
abbrev Ev.wrRelayAbsent : Nat := 0x28
/-- WR_SWAP_NO_RELAY (R502). -/
abbrev Ev.wrSwapNoRelay : Nat := 0x29
/-- WR_CHECK_SUSPENDED (R502). -/
abbrev Ev.wrCheckSuspended : Nat := 0x2A
/-- WR_SLOT_WAIT_NS (R502). -/
abbrev Ev.wrSlotWaitNs : Nat := 0x2B
/-- DRIFT_REF_READS (R502). -/
abbrev Ev.driftRefReads : Nat := 0x2C
/-- DRIFT_CHECK_FAIL (R502). -/
abbrev Ev.driftCheckFail : Nat := 0x2D
/-- QNT_ZERO_BLOCKS (R502). -/
abbrev Ev.qntZeroBlocks : Nat := 0x30
/-- QNT_UNDERFLOW_BLOCKS (R502). -/
abbrev Ev.qntUnderflowBlocks : Nat := 0x31
/-- QNT_CLAMPED_BLOCKS (R502). -/
abbrev Ev.qntClampedBlocks : Nat := 0x32
/-- QNT_NONFINITE_BLOCKS (R502). -/
abbrev Ev.qntNonfiniteBlocks : Nat := 0x33
/-- QNT_NONFINITE_ELEMENTS (R502). -/
abbrev Ev.qntNonfiniteElements : Nat := 0x34
/-- ACC_WINDOW_LOSS (R502). -/
abbrev Ev.accWindowLoss : Nat := 0x35
/-- ACC_OVERFLOW (R502). -/
abbrev Ev.accOverflow : Nat := 0x36
/-- TALLY_SR_COMMITS (R502). -/
abbrev Ev.tallySrCommits : Nat := 0x37
/-- TALLY_OVERFLOW (R502). -/
abbrev Ev.tallyOverflow : Nat := 0x38
/-- DICE_DRAWS (R502). -/
abbrev Ev.diceDraws : Nat := 0x39
/-- DMM_INSTR (R502). -/
abbrev Ev.dmmInstr : Nat := 0x40
/-- DMM_PASSES (R502). -/
abbrev Ev.dmmPasses : Nat := 0x41
/-- DMM_PASSES_SKIPPED (R502). -/
abbrev Ev.dmmPassesSkipped : Nat := 0x42
/-- DMM_MAC_ISSUED (R502). -/
abbrev Ev.dmmMacIssued : Nat := 0x43
/-- DMM_MAC_IDLE (R502). -/
abbrev Ev.dmmMacIdle : Nat := 0x44
/-- DMM_DF_DEMOTED (R502). -/
abbrev Ev.dmmDfDemoted : Nat := 0x45
/-- DMM_FILL_CLK (R502). -/
abbrev Ev.dmmFillClk : Nat := 0x46
/-- DMM_OPERAND_WAIT (R502). -/
abbrev Ev.dmmOperandWait : Nat := 0x47
/-- DMM_INSERTED (R502). -/
abbrev Ev.dmmInserted : Nat := 0x48
/-- DMM_NOISE_DRAWS (R502). -/
abbrev Ev.dmmNoiseDraws : Nat := 0x49
/-- VEC_INSTR (R502). -/
abbrev Ev.vecInstr : Nat := 0x50
/-- VEC_GROUPS (R502). -/
abbrev Ev.vecGroups : Nat := 0x51
/-- VEC_BANK_STALL (R502). -/
abbrev Ev.vecBankStall : Nat := 0x52
/-- VEC_MEM_WAIT (R502). -/
abbrev Ev.vecMemWait : Nat := 0x53
/-- VEC_FOLDS (R502). -/
abbrev Ev.vecFolds : Nat := 0x54
/-- ACCRD_ENTRIES (R502). -/
abbrev Ev.accrdEntries : Nat := 0x55
/-- MOV_INDEX_RANGE (R502). -/
abbrev Ev.movIndexRange : Nat := 0x56
/-- MOV_EMPTY_BAG (R502). -/
abbrev Ev.movEmptyBag : Nat := 0x57
/-- MOV_MSG_MISMATCH (R502). -/
abbrev Ev.movMsgMismatch : Nat := 0x58
/-- TACK_REJECTED (R502). -/
abbrev Ev.tackRejected : Nat := 0x59
/-- DIGEST_BYTES (R502). -/
abbrev Ev.digestBytes : Nat := 0x5A
/-- COLL_FAIL (R502). -/
abbrev Ev.collFail : Nat := 0x5B
/-- RANGE_EVENT (R502). -/
abbrev Ev.rangeEvent : Nat := 0x60
/-- RANGE_NOISE (R502). -/
abbrev Ev.rangeNoise : Nat := 0x61
/-- RANGE_WIDEN (R502). -/
abbrev Ev.rangeWiden : Nat := 0x62
/-- RANGE_QUARANTINE (R502). -/
abbrev Ev.rangeQuarantine : Nat := 0x63
/-- RANGE_UNRESOLVED (R502). -/
abbrev Ev.rangeUnresolved : Nat := 0x64
/-- DRILL_ROUNDS (R502). -/
abbrev Ev.drillRounds : Nat := 0x65
/-- DRILL_NOISE (R502). -/
abbrev Ev.drillNoise : Nat := 0x66
/-- DRILL_INCONSISTENT (R502). -/
abbrev Ev.drillInconsistent : Nat := 0x67
/-- DRILL_CONVICT (R502). -/
abbrev Ev.drillConvict : Nat := 0x68
/-- DRILL_UNRESOLVED (R502). -/
abbrev Ev.drillUnresolved : Nat := 0x69
/-- DRILL_DELAY (R502). -/
abbrev Ev.drillDelay : Nat := 0x6A
/-- CAL_RUNS (R502). -/
abbrev Ev.calRuns : Nat := 0x70
/-- CAL_ABORTED (R502). -/
abbrev Ev.calAborted : Nat := 0x71
/-- CAL_FAILED (R502). -/
abbrev Ev.calFailed : Nat := 0x72
/-- DROOP_STRETCH (R502). -/
abbrev Ev.droopStretch : Nat := 0x73
/-- DROOP_DERATE (R502). -/
abbrev Ev.droopDerate : Nat := 0x74
/-- ISL_BRIDGE (R502). -/
abbrev Ev.islBridge : Nat := 0x75
/-- ISL_NEIGHBOUR_CAP (R502). -/
abbrev Ev.islNeighbourCap : Nat := 0x76
/-- ISL_TEMP_SPLIT (R502). -/
abbrev Ev.islTempSplit : Nat := 0x77
/-- STEP_SKIPPED (R503). -/
abbrev PEv.stepSkipped : Nat := 0
/-- SHARD_RELEASED (R503). -/
abbrev PEv.shardReleased : Nat := 1
/-- SHARD_DISCARDED (R503). -/
abbrev PEv.shardDiscarded : Nat := 2
/-- SHARD_REFUSED (R503). -/
abbrev PEv.shardRefused : Nat := 3
/-- SHARD_UNGATED (R503). -/
abbrev PEv.shardUngated : Nat := 4
/-- MOV_STEP_OUTSTANDING (R503). -/
abbrev PEv.movStepOutstanding : Nat := 5
/-- STEP_REPLAY (R503). -/
abbrev PEv.stepReplay : Nat := 6
/-- STEP_RESTORE_REQ (R503). -/
abbrev PEv.stepRestoreReq : Nat := 7
/-- RESET_CONTEXT (R503). -/
abbrev PEv.resetContext : Nat := 8
/-- RESET_ENGINE (R503). -/
abbrev PEv.resetEngine : Nat := 9
/-- RESET_PARTITION (R503). -/
abbrev PEv.resetPartition : Nat := 10
/-- FALLBACK_LAYER (R503). -/
abbrev PEv.fallbackLayer : Nat := 11
/-- FALLBACK_RETURN (R503). -/
abbrev PEv.fallbackReturn : Nat := 12
/-- FALLBACK_AT_CEIL (R503). -/
abbrev PEv.fallbackAtCeil : Nat := 13
/-- FALLBACK_REFUSED (R503). -/
abbrev PEv.fallbackRefused : Nat := 14
/-- FALLBACK_GLOBAL (R503). -/
abbrev PEv.fallbackGlobal : Nat := 15
/-- FALLBACK_SKIP (R503). -/
abbrev PEv.fallbackSkip : Nat := 16
/-- HIF_COUNTER_DENIED (R503). -/
abbrev PEv.hifCounterDenied : Nat := 17
/-- SNAP_ABORTED (R503). -/
abbrev PEv.snapAborted : Nat := 18
/-- SNAP_UNSECURED (R503). -/
abbrev PEv.snapUnsecured : Nat := 19
/-- SNAP_SLOW (R503). -/
abbrev PEv.snapSlow : Nat := 20
/-- SNAP_CO_FEED (R503). -/
abbrev PEv.snapCoFeed : Nat := 21
/-- STREAM_REALIGN (R503). -/
abbrev PEv.streamRealign : Nat := 22
/-- DUMP_LOST (R503). -/
abbrev PEv.dumpLost : Nat := 23
/-- FAB_LINK_DOWN (R503). -/
abbrev GEv.fabLinkDown : Nat := 384
/-- FAB_LINK_UP (R503). -/
abbrev GEv.fabLinkUp : Nat := 385
/-- FAB_REFUSED (R503). -/
abbrev GEv.fabRefused : Nat := 386
/-- FAB_FEC_CORRECTED (R503). -/
abbrev GEv.fabFecCorrected : Nat := 387
/-- FAB_FEC_UNCORRECTED (R503). -/
abbrev GEv.fabFecUncorrected : Nat := 388
/-- FAB_REPLAY (R503). -/
abbrev GEv.fabReplay : Nat := 389
/-- FAB_E2E_RESEND (R503). -/
abbrev GEv.fabE2eResend : Nat := 390
/-- FAB_HOP_DROP (R503). -/
abbrev GEv.fabHopDrop : Nat := 391
/-- FAB_TYPE_DROP (R503). -/
abbrev GEv.fabTypeDrop : Nat := 392
/-- FAB_RSV_DROP (R503). -/
abbrev GEv.fabRsvDrop : Nat := 393
/-- FAB_STALE_EPOCH (R503). -/
abbrev GEv.fabStaleEpoch : Nat := 394
/-- FAB_SUSPECT_SENT (R503). -/
abbrev GEv.fabSuspectSent : Nat := 395
/-- RDU_LIMIT_CLK (R503). -/
abbrev GEv.rduLimitClk : Nat := 396
/-- MEMB_EPOCH (R503). -/
abbrev GEv.membEpoch : Nat := 397
/-- MEMB_MINORITY (R503). -/
abbrev GEv.membMinority : Nat := 398
/-- TIME_PPS_IGNORED (R503). -/
abbrev GEv.timePpsIgnored : Nat := 399
/-- DIGEST_MATCH (R503). -/
abbrev GEv.digestMatch : Nat := 400
/-- DIGEST_DIVERGED (R503). -/
abbrev GEv.digestDiverged : Nat := 401
/-- DIGEST_NO_MAJORITY (R503). -/
abbrev GEv.digestNoMajority : Nat := 402
/-- DIGEST_ABANDONED (R503). -/
abbrev GEv.digestAbandoned : Nat := 403
/-- RACK_PRESS (R503). -/
abbrev GEv.rackPress : Nat := 404
/-- RACK_WITHDRAW (R503). -/
abbrev GEv.rackWithdraw : Nat := 405
/-- RACK_CANCEL (R503). -/
abbrev GEv.rackCancel : Nat := 406
/-- RACK_TOUCH (R503). -/
abbrev GEv.rackTouch : Nat := 407
/-- RACK_LATCH (R503). -/
abbrev GEv.rackLatch : Nat := 408
/-- PWR_INPUT_OV (R503). -/
abbrev GEv.pwrInputOv : Nat := 409
/-- PWR_INPUT_UV (R503). -/
abbrev GEv.pwrInputUv : Nat := 410
/-- PWR_SENSE_FAULT (R503). -/
abbrev GEv.pwrSenseFault : Nat := 411
/-- PWR_REG_FAIL (R503). -/
abbrev GEv.pwrRegFail : Nat := 412
/-- PWR_JOINT_WARN (R503). -/
abbrev GEv.pwrJointWarn : Nat := 413
/-- PWR_JOINT_FAIL (R503). -/
abbrev GEv.pwrJointFail : Nat := 414
/-- VC_FAIL (R503). -/
abbrev GEv.vcFail : Nat := 415
/-- SWON_DELAYED (R503). -/
abbrev GEv.swonDelayed : Nat := 416
/-- SWON_STRETCHED (R503). -/
abbrev GEv.swonStretched : Nat := 417
/-- MON_CONVERSIONS (R503). -/
abbrev GEv.monConversions : Nat := 418
/-- MON_URGENT_DROP (R503). -/
abbrev GEv.monUrgentDrop : Nat := 419
/-- MON_TRIG_OVERRUN (R503). -/
abbrev GEv.monTrigOverrun : Nat := 420
/-- MON_QUEUE_OVERWRITE (R503). -/
abbrev GEv.monQueueOverwrite : Nat := 421
/-- MON_CONV_RETIRED (R503). -/
abbrev GEv.monConvRetired : Nat := 422
/-- REFIN_FAULT (R503). -/
abbrev GEv.refinFault : Nat := 423
/-- SENSOR_FAIL (R503). -/
abbrev GEv.sensorFail : Nat := 424
/-- CAL_RUNS (R503). -/
abbrev GEv.calRuns : Nat := 425
/-- CAL_ABORTED (R503). -/
abbrev GEv.calAborted : Nat := 426
/-- CAL_FAILED (R503). -/
abbrev GEv.calFailed : Nat := 427
/-- HIF_CORRECTABLE (R503). -/
abbrev GEv.hifCorrectable : Nat := 428
/-- HIF_WIN_VIOLATION (R503). -/
abbrev GEv.hifWinViolation : Nat := 429
/-- FAB_FEC_UNCORRECTED of port 0 (R503). -/
abbrev GEv.fecOfPort : Nat := 430
/-- STAGE (R554). -/
abbrev Db.stage : Nat := 0x0001
/-- READY (R554). -/
abbrev Db.ready : Nat := 0x0002
/-- BOOT_HOLD (R554). -/
abbrev Db.bootHold : Nat := 0x0003
/-- RECORD_INVALID (R554). -/
abbrev Db.recordInvalid : Nat := 0x0004
/-- FW_UPDATE (R554). -/
abbrev Db.fwUpdate : Nat := 0x0005
/-- SUPERVISOR (R554). -/
abbrev Db.supervisor : Nat := 0x0006
/-- POWER_CYCLE_REQUEST (R554). -/
abbrev Db.powerCycleRequest : Nat := 0x0007
/-- TIME_LOCK (R554). -/
abbrev Db.timeLock : Nat := 0x0008
/-- FTIME_DISCARDED (R554). -/
abbrev Db.ftimeDiscarded : Nat := 0x0009
/-- RESERVED_WRITE (R554). -/
abbrev Db.reservedWrite : Nat := 0x000A
/-- RECORD_REJECTED (R554). -/
abbrev Db.recordRejected : Nat := 0x000B
/-- FEED_CHANGE (R554). -/
abbrev Db.feedChange : Nat := 0x000C
/-- CELL_FAULT (R554). -/
abbrev Db.cellFault : Nat := 0x0101
/-- CELL_LOSS (R554). -/
abbrev Db.cellLoss : Nat := 0x0102
/-- SPARE_MOVE (R554). -/
abbrev Db.spareMove : Nat := 0x0103
/-- CAPACITY_LOSS (R554). -/
abbrev Db.capacityLoss : Nat := 0x0104
/-- QUARANTINE (R554). -/
abbrev Db.quarantine : Nat := 0x0105
/-- GAIT_LOWERED (R554). -/
abbrev Db.gaitLowered : Nat := 0x0106
/-- MSG_OUTSTANDING (R554). -/
abbrev Db.msgOutstanding : Nat := 0x0107
/-- XBAR_FAILED (R554). -/
abbrev Db.xbarFailed : Nat := 0x0201
/-- WEAR_WARNING (R554). -/
abbrev Db.wearWarning : Nat := 0x0202
/-- XBAR_EVENT (R554). -/
abbrev Db.xbarEvent : Nat := 0x0203
/-- DRIFT_CHECK_FAIL (R554). -/
abbrev Db.driftCheckFail : Nat := 0x0204
/-- RANGE_WIDEN (R554). -/
abbrev Db.rangeWiden : Nat := 0x0205
/-- DRILL_UNRESOLVED (R554). -/
abbrev Db.drillUnresolved : Nat := 0x0206
/-- DRILL_PKG_REFUSED (R554). -/
abbrev Db.drillPkgRefused : Nat := 0x0207
/-- DIGEST_OUTCOME (R554). -/
abbrev Db.digestOutcome : Nat := 0x0208
/-- MODULE_FAULT (R554). -/
abbrev Db.moduleFault : Nat := 0x0301
/-- BRIDGE_FAULT (R554). -/
abbrev Db.bridgeFault : Nat := 0x0302
/-- OVERCURRENT (R554). -/
abbrev Db.overcurrent : Nat := 0x0303
/-- INPUT_OV_STOP (R554). -/
abbrev Db.inputOvStop : Nat := 0x0304
/-- INPUT_WARN (R554). -/
abbrev Db.inputWarn : Nat := 0x0305
/-- REG_FAIL (R554). -/
abbrev Db.regFail : Nat := 0x0306
/-- VC_FAIL (R554). -/
abbrev Db.vcFail : Nat := 0x0307
/-- SWITCH_ON_FAULT (R554). -/
abbrev Db.switchOnFault : Nat := 0x0308
/-- JOINT_FAULT (R554). -/
abbrev Db.jointFault : Nat := 0x0309
/-- TEMP_SPLIT (R554). -/
abbrev Db.tempSplit : Nat := 0x030A
/-- THERMAL_TRIP (R554). -/
abbrev Db.thermalTrip : Nat := 0x030B
/-- REGION_HELD (R554). -/
abbrev Db.regionHeld : Nat := 0x030C
/-- REFIN_FAULT (R554). -/
abbrev Db.refinFault : Nat := 0x0401
/-- SENSOR_FAIL (R554). -/
abbrev Db.sensorFail : Nat := 0x0402
/-- CAL_RECORD_BAD (R554). -/
abbrev Db.calRecordBad : Nat := 0x0403
/-- MON_CONV_RETIRED (R554). -/
abbrev Db.monConvRetired : Nat := 0x0404
/-- PORT_REFUSED (R554). -/
abbrev Db.portRefused : Nat := 0x0501
/-- EPOCH_COMMIT (R554). -/
abbrev Db.epochCommit : Nat := 0x0502
/-- MINORITY (R554). -/
abbrev Db.minority : Nat := 0x0503
/-- JOIN_REFUSED (R554). -/
abbrev Db.joinRefused : Nat := 0x0504
/-- SNAP_CO_FEED (R554). -/
abbrev Db.snapCoFeed : Nat := 0x0601
/-- SNAP_UNSECURED (R554). -/
abbrev Db.snapUnsecured : Nat := 0x0602
/-- STREAM_REALIGN (R554). -/
abbrev Db.streamRealign : Nat := 0x0603
/-- RECOVERY_FAILED (R554). -/
abbrev Db.recoveryFailed : Nat := 0x0604
/-- RESET (R554). -/
abbrev Db.reset : Nat := 0x0701
/-- FALLBACK (R554). -/
abbrev Db.fallback : Nat := 0x0801
/-- SHARD_UNGATED (R554). -/
abbrev Db.shardUngated : Nat := 0x0802
/-- HIF_LINK_DEGRADED (R554). -/
abbrev Db.hifLinkDegraded : Nat := 0x0901
/-- HIF_WIN_VIOLATION (R554). -/
abbrev Db.hifWinViolation : Nat := 0x0902
/-- RACK (R554). -/
abbrev Db.rack : Nat := 0x0A01

/-- The severity R554 gives a code: 0 info, 1 warning, 2 error, 3 fatal. -/
def dbSeverity (code : Nat) : Nat :=
  if [0x0004, 0x0009, 0x000A, 0x000B, 0x000C, 0x0103, 0x0107, 0x0202, 0x0203, 0x0204, 0x0207, 0x0303, 0x0305, 0x0307, 0x0309, 0x030A, 0x0402, 0x0403, 0x0404, 0x0501, 0x0504, 0x0601, 0x0602, 0x0603, 0x0801, 0x0802, 0x0901, 0x0902].contains code then 1
  else if [0x0003, 0x0101, 0x0102, 0x0104, 0x0105, 0x0201, 0x0208, 0x0302, 0x0306, 0x0308, 0x0401, 0x0503, 0x0604].contains code then 2
  else if [0x0006, 0x0007, 0x0206, 0x0301, 0x0304, 0x030B].contains code then 3
  else 0
/-- Repair map record (R536). -/
abbrev Ty.repairMap : Nat := 0x0001
/-- Regulator health record (R536). -/
abbrev Ty.regulatorHealth : Nat := 0x0002
/-- Node record (R536). -/
abbrev Ty.node : Nat := 0x0003
/-- Host interface record (R536). -/
abbrev Ty.hostInterface : Nat := 0x0004
/-- Partition record (R536). -/
abbrev Ty.partition : Nat := 0x0005
/-- Region record (R536). -/
abbrev Ty.region : Nat := 0x0006
/-- Power record (R536). -/
abbrev Ty.power : Nat := 0x0007
/-- Port record (R536). -/
abbrev Ty.port : Nat := 0x0008
/-- Membership record (R536). -/
abbrev Ty.membership : Nat := 0x0009
/-- Calibration policy record (R536). -/
abbrev Ty.calibrationPolicy : Nat := 0x000A
/-- Drill record (R536). -/
abbrev Ty.drill : Nat := 0x000B
/-- Drill key record (R536). -/
abbrev Ty.drillKey : Nat := 0x000C
/-- Firmware security record (R536). -/
abbrev Ty.firmwareSecurity : Nat := 0x000D
/-- Module counter record (R536). -/
abbrev Ty.moduleCounter : Nat := 0x000E
/-- Rack record (R536). -/
abbrev Ty.rack : Nat := 0x000F
/-- Identity seal record (R536). -/
abbrev Ty.identitySeal : Nat := 0x0010
/-- Calibration record (R536). -/
abbrev Ty.calibration : Nat := 0x0011
/-- Wear record (R536). -/
abbrev Ty.wear : Nat := 0x0012
/-- Drill package record (R536). -/
abbrev Ty.drillPackage : Nat := 0x0013
/-- Partition mode record (R536). -/
abbrev Ty.partitionMode : Nat := 0x0100
/-- Array read record (R536). -/
abbrev Ty.arrayRead : Nat := 0x0101
/-- Array write record (R536). -/
abbrev Ty.arrayWrite : Nat := 0x0102
/-- Layer precision record (R536). -/
abbrev Ty.layerPrecision : Nat := 0x0103
/-- Rotation record (R536). -/
abbrev Ty.rotation : Nat := 0x0104
/-- Dice record (R536). -/
abbrev Ty.dice : Nat := 0x0105
/-- Range record (R536). -/
abbrev Ty.range : Nat := 0x0106
/-- Snapshot record (R536). -/
abbrev Ty.snapshot : Nat := 0x0107
/-- Group record (R536). -/
abbrev Ty.group : Nat := 0x0108
/-- Monitor record (R536). -/
abbrev Ty.monitor : Nat := 0x0109
/-- Replica record (R536). -/
abbrev Ty.replica : Nat := 0x010A
/-- Counter selection record (R536). -/
abbrev Ty.counterSelection : Nat := 0x010B
/-- Plane record (R536). -/
abbrev Ty.plane : Nat := 0x010C
/-- Fault code (R524). -/
abbrev Fc.illegal : Nat := 0x01
/-- Fault code (R524). -/
abbrev Fc.address : Nat := 0x02
/-- Fault code (R524). -/
abbrev Fc.selfOverwrite : Nat := 0x03
/-- Fault code (R524). -/
abbrev Fc.loopDepth : Nat := 0x04
/-- Fault code (R524). -/
abbrev Fc.signalTarget : Nat := 0x05
/-- Fault code (R524). -/
abbrev Fc.barrierMembership : Nat := 0x06
/-- Fault code (R524). -/
abbrev Fc.memory : Nat := 0x10
/-- Fault code (R524). -/
abbrev Fc.analogue : Nat := 0x11
/-- Fault code (R524). -/
abbrev Fc.flagOverflow : Nat := 0x12
/-- Fault code (R524). -/
abbrev Fc.barrierAbandoned : Nat := 0x13
/-- Fault code (R524). -/
abbrev Fc.partnerLoss : Nat := 0x14
/-- Fault code (R524). -/
abbrev Fc.collective : Nat := 0x15
/-- Fault code (R524). -/
abbrev Fc.cellLoss : Nat := 0x20
/-- Fault code (R524). -/
abbrev Fc.image : Nat := 0x21

end Sys2Proof.Machine
end

