-- ==== Sys2Proof/Machine/Ops.lean ====
section
/-! DEFINITION. Machine/Ops: the named operations over tables, memory, registers, counters, the daybook, the
completion rings and the fault record, which every meaning is built from. -/

namespace Sys2Proof.Machine

/-! ### Tables -/

/-- The value at a key; a key the table does not list has the default. -/
def tget {α : Type} (t : Tbl α) (k : Nat) (d : α) : α :=
  match t with
  | [] => d
  | (j, v) :: r => if j = k then v else tget r k d

/-- The entry at a key, if the table lists one. -/
def tfind {α : Type} (t : Tbl α) (k : Nat) : Option α :=
  match t with
  | [] => none
  | (j, v) :: r => if j = k then some v else tfind r k

/-- The table without a key. -/
def tdel {α : Type} (t : Tbl α) (k : Nat) : Tbl α := t.filter (fun e => e.1 != k)

/-- Insertion in key order, in place of an entry with the same key. -/
def tins {α : Type} (t : Tbl α) (k : Nat) (v : α) : Tbl α :=
  match t with
  | [] => [(k, v)]
  | (j, w) :: r => if k < j then (k, v) :: (j, w) :: r else if k = j then (k, v) :: r else (j, w) :: tins r k v

/-- The table with a value at a key; the default value is not listed. -/
def tset {α : Type} [DecidableEq α] (t : Tbl α) (k : Nat) (v d : α) : Tbl α :=
  if v = d then tdel t k else tins t k v

/-- Canonical form: keys strictly rising and no entry equal to the default. -/
def twf {α : Type} [DecidableEq α] (t : Tbl α) (d : α) : Bool :=
  match t with
  | [] => true
  | [(_, v)] => decide (v ≠ d)
  | (j, v) :: (k, w) :: r => decide (v ≠ d) && decide (j < k) && twf ((k, w) :: r) d

/-- Values written at consecutive keys. -/
def tputs {α : Type} [DecidableEq α] (t : Tbl α) (k : Nat) (l : List α) (d : α) : Tbl α :=
  match l with
  | [] => t
  | v :: r => tputs (tset t k v d) (k + 1) r d

/-- The values at n consecutive keys. -/
def tgets {α : Type} (t : Tbl α) (k n : Nat) (d : α) : List α := (List.range n).map (fun i => tget t (k + i) d)

/-- Keys from lo up to but not including hi set to the default. -/
def tclear {α : Type} (t : Tbl α) (lo hi : Nat) : Tbl α := t.filter (fun e => decide (e.1 < lo) || decide (hi ≤ e.1))

/-! ### Bits and bytes -/

/-- Bits [hi:lo] of a word. -/
def bits (w hi lo : Nat) : Nat := (w / 2 ^ lo) % 2 ^ (hi + 1 - lo)

/-- Bit n of a word. -/
def bit (w n : Nat) : Bool := (w / 2 ^ n) % 2 == 1

/-- A word with its bits [hi:lo] replaced. -/
def setBits (w hi lo v : Nat) : Nat :=
  w - bits w hi lo * 2 ^ lo + (v % 2 ^ (hi + 1 - lo)) * 2 ^ lo

/-- Little-endian value of bytes. -/
def leNat (l : List Byte) : Nat := l.foldr (fun b n => b.toNat + 256 * n) 0

/-- Little-endian bytes of a value. -/
def leBytes (n v : Nat) : List Byte := (List.range n).map (fun i => BitVec.ofNat 8 (v / 256 ^ i))

/-- A w-bit value read as two's complement. -/
def sgn (w v : Nat) : Int := if v < 2 ^ (w - 1) then (v : Int) else (v : Int) - 2 ^ w

/-- Two's complement of an integer in w bits. -/
def unsgn (w : Nat) (i : Int) : Nat := (i % (2 ^ w : Nat)).toNat

/-- Held within bounds. -/
def clampI (lo hi x : Int) : Int := if x < lo then lo else if hi < x then hi else x

/-- Ceiling of a quotient. -/
def cdiv (a b : Nat) : Nat := (a + b - 1) / b

/-- One's value or nothing. -/
def b2n (b : Bool) : Nat := if b then 1 else 0

/-- First element that satisfies a test, with its index. -/
def findIdx {α : Type} (p : α → Bool) (l : List α) (i : Nat := 0) : Option (Nat × α) :=
  match l with
  | [] => none
  | a :: r => if p a then some (i, a) else findIdx p r (i + 1)

/-- Insertion of a number in an ascending list without repeats. -/
def insN (n : Nat) (l : List Nat) : List Nat :=
  match l with
  | [] => [n]
  | m :: r => if n < m then n :: m :: r else if n = m then m :: r else m :: insN n r

/-! ### The state's parts -/

/-- Logical cell c. -/
def State.cell (s : State) (c : Nat) : Cell := tget s.cells c Cell.reset
/-- Logical cell c replaced. -/
def State.setCell (s : State) (c : Nat) (v : Cell) : State := { s with cells := tset s.cells c v Cell.reset }
/-- Logical cell c changed. -/
def State.modCell (s : State) (c : Nat) (f : Cell → Cell) : State := s.setCell c (f (s.cell c))
/-- Physical region r. -/
def State.phy (s : State) (r : Nat) : Phys := tget s.phys r Phys.reset
/-- Physical region r changed. -/
def State.modPhy (s : State) (r : Nat) (f : Phys → Phys) : State :=
  { s with phys := tset s.phys r (f (s.phy r)) Phys.reset }
/-- Physical crossbar x of region r. -/
def State.xbar (s : State) (r x : Nat) : Xbar := tget (s.phy r).xb x Xbar.reset
/-- Physical crossbar x of region r changed. -/
def State.modXbar (s : State) (r x : Nat) (f : Xbar → Xbar) : State :=
  s.modPhy r (fun p => { p with xb := tset p.xb x (f (tget p.xb x Xbar.reset)) Xbar.reset })
/-- Partition p. -/
def State.part (s : State) (p : Nat) : Part := tget s.parts p Part.reset
/-- Partition p changed. -/
def State.modPart (s : State) (p : Nat) (f : Part → Part) : State :=
  { s with parts := tset s.parts p (f (s.part p)) Part.reset }
/-- Function p. -/
def State.func (s : State) (p : Nat) : Func := tget s.funcs p Func.reset
/-- Function p changed. -/
def State.modFunc (s : State) (p : Nat) (f : Func → Func) : State :=
  { s with funcs := tset s.funcs p (f (s.func p)) Func.reset }
/-- Queue q of function p. -/
def State.queue (s : State) (p q : Nat) : Queue := tget (s.func p).qs q Queue.reset
/-- Queue q of function p changed. -/
def State.modQueue (s : State) (p q : Nat) (f : Queue → Queue) : State :=
  s.modFunc p (fun fn => { fn with qs := tset fn.qs q (f (tget fn.qs q Queue.reset)) Queue.reset })
/-- Die d. -/
def State.die (s : State) (d : Nat) : Die := tget s.dies d Die.reset
/-- Die d changed. -/
def State.modDie (s : State) (d : Nat) (f : Die → Die) : State :=
  { s with dies := tset s.dies d (f (s.die d)) Die.reset }
/-- Port p. -/
def State.port (s : State) (p : Nat) : Port := tget s.fab.ports p Port.reset
/-- The fabric changed. -/
def State.modFab (s : State) (f : Fab → Fab) : State := { s with fab := f s.fab }
/-- Port p changed. -/
def State.modPort (s : State) (p : Nat) (f : Port → Port) : State :=
  s.modFab (fun b => { b with ports := tset b.ports p (f (tget b.ports p Port.reset)) Port.reset })
/-- Communication group g. -/
def State.grp (s : State) (g : Nat) : Group := tget s.fab.groups g Group.reset
/-- Communication group g changed. -/
def State.modGrp (s : State) (g : Nat) (f : Group → Group) : State :=
  s.modFab (fun b => { b with groups := tset b.groups g (f (tget b.groups g Group.reset)) Group.reset })
/-- Power changed. -/
def State.modPow (s : State) (f : Pow → Pow) : State := { s with pow := f s.pow }
/-- Bring-up and module status changed. -/
def State.modBoot (s : State) (f : Boot → Boot) : State := { s with boot := f s.boot }
/-- The host link changed. -/
def State.modHif (s : State) (f : HostIf → HostIf) : State := { s with hif := f s.hif }
/-- The groom changed. -/
def State.modGroom (s : State) (f : Groom → Groom) : State := { s with groom := f s.groom }
/-- The rack inputs changed. -/
def State.modRack (s : State) (f : Rack → Rack) : State := { s with rack := f s.rack }

/-- The outcome of a meaning that always completes. -/
abbrev Out := Host.Outcome State Fault Refusal

/-- The first two conditions of R495: ready, outside every epoch with no JOIN_REQ pending, and every write engine idle. -/
def State.idleOut (s : State) : Bool :=
  s.boot.ready && (!s.fab.inSystem || s.fab.minority) && !s.fab.joinSent && s.cells.all (fun e => e.2.wq.isEmpty)

/-- The groom's watch over those conditions: since when they hold, and the daybook's newest entry then (R495).
DESIGN CHOICE: log entry 2.
DEDUCED: log entry 94. -/
def State.watch (s : State) : State :=
  if s.idleOut then
    if s.rack.safeSince.isSome then s
    else s.modRack (fun r => { r with safeSince := some s.time, safeSeq := s.daySeq - 1, logWaived := false })
  else s.modRack (fun r => { r with safeSince := none, logWaived := false })

/-- The fabric clock: one nanosecond while the auxiliary rail is up (R324, R389).  While an offset is to be slewed, one nanosecond in
10,000 counts double or not at all: 100 ppm (R325).
DESIGN CHOICE: log entry 2.
DEDUCED: log entry 74. -/
def State.count1 (s : State) : State :=
  if !s.pow.aux then s
  else if s.fab.slew = 0 || s.time % 10000 != 0 then { s with time := (s.time + 1) % 2 ^ 64, fab := { s.fab with slewHeld := false } }
  else if 0 < s.fab.slew then { s with time := (s.time + 2) % 2 ^ 64, fab := { s.fab with slew := s.fab.slew - 1 } }
  else if s.fab.slewHeld then { s with time := (s.time + 1) % 2 ^ 64, fab := { s.fab with slewHeld := false } }
  else { s with fab := { s.fab with slew := s.fab.slew + 1, slewHeld := true } }

/-- What passes while no command waits: a nanosecond, and the groom's watch.
DESIGN CHOICE: log entries 2, 100. -/
def State.tick (s : State) : State := s.count1.watch

/-- Whether ns nanoseconds have passed since t.
DESIGN CHOICE: log entry 100. -/
def State.passed (s : State) (t ns : Nat) : Bool := t + ns ≤ s.time

/-- One numbered thing of a list changed for each of its numbers. -/
def eachN (s : State) (l : List Nat) (f : State → Nat → State) : State := l.foldl f s

/-! ### Numbering (R7, R14, R15) -/

/-- Region index of a logical cell in the default repair map (R15). -/
def defaultRegion (c : Nat) : Nat := (c / 256) * 272 + c % 256

/-- Region index that the repair map gives a logical cell.
DESIGN CHOICE: log entry 14. -/
def State.reg (s : State) (c : Nat) : Nat := tget s.repair c (defaultRegion c)

/-- Physical cell ID of a region index (R7).
DESIGN CHOICE: log entry 14. -/
def pidOf (r : Nat) : Nat := (r / 272) * 512 + r % 272

/-- Logical cell a region carries, if any.
DESIGN CHOICE: log entry 14. -/
def State.cellOf (s : State) (r : Nat) : Option Nat :=
  (List.range 256).map (fun i => (r / 272) * 256 + i) |>.find? (fun c => s.reg c == r)

/-- Die of a logical cell (R14). -/
def dieOf (c : Nat) : Nat := c / 256

/-! ### Tack records in force (R515, R533 to R536) -/

/-- Key of a record: layer, rotation and group records are held per partition, since each function writes its own.
DESIGN CHOICE: log entry 15. -/
def recKey (p ty inst : Nat) : Nat :=
  (if ty == Ty.layerPrecision || ty == Ty.rotation || ty == Ty.group then p * 2 ^ 32 else 0) + ty * 65536 + inst

/-- A body with fields at given offsets: offset, bytes, value. -/
def mkImg (len : Nat) (fs : List (Nat × Nat × Nat)) : RecImg :=
  { len := len, bytes := fs.foldl (fun t f => tputs t f.1 (leBytes f.2.1 f.2.2) 0) [] }

/-- Body size of the record types whose size is fixed (R536). -/
def recSize (ty : Nat) : Nat :=
  match ty with
  | 0x0001 => 2176 | 0x0002 => 2440 | 0x0003 => 8 | 0x0004 => 8 | 0x0005 => 50176 | 0x0006 => 1024
  | 0x0007 => 8 | 0x0008 => 24 | 0x0009 => 16 | 0x000A => 8 | 0x000B => 8 | 0x000C => 1312 | 0x000D => 8
  | 0x000E => 280 | 0x000F => 8 | 0x0011 => 27832 | 0x0012 => 18432
  | 0x0100 => 24 | 0x0101 => 16 | 0x0102 => 8 | 0x0103 => 400 | 0x0104 => 16 | 0x0105 => 16 | 0x0106 => 1544
  | 0x0107 => 9512 | 0x0108 => 8 | 0x0109 => 8 | 0x010A => 8 | 0x010B => 432 | 0x010C => 216
  | _ => 0

/-- The STATE events (R502), whose MODE starts at LEVEL (R500). -/
def stateEvents : List Nat := [0x03, 0x04, 0x05, 0x06, 0x07, 0x08, 0x09, 0x52, 0x53, 0x6A]

/-- The factory default of a record: the defaults of the rules that define its fields (R535).
DESIGN CHOICE: log entry 15. -/
def recDefault (ty : Nat) : RecImg :=
  mkImg (recSize ty) (match ty with
    | 0x0001 => (List.range 1088).map (fun r => (2 * r, 2, if r % 272 < 256 then r / 272 * 256 + r % 272 else 0x2000))
    | 0x0002 => (List.range 304).map (fun i => (8 * i + 6, 2, 600))
    | 0x0003 => [(0, 2, 0xFFFF)]
    | 0x0004 => [(1, 1, 30), (2, 1, 30)]
    | 0x0005 => [(3080, 8, 2 ^ 41)]
    | 0x0007 => [(0, 2, 3800), (2, 1, 12), (3, 1, 15), (4, 1, 20), (6, 2, 200)]
    | 0x0008 => (List.range 24).map (fun i => (i, 1, 1))
    | 0x0009 => [(0, 2, 50), (3, 1, 2), (4, 4, 10000), (8, 2, 96)]
    | 0x000A => [(0, 1, 6), (4, 4, 3600)]
    | 0x000B => [(0, 2, 1152), (2, 1, 24)]
    | 0x000E => [(257, 1, 1), (260, 4, 100)]
    | 0x000F => [(0, 1, 1), (2, 2, 120), (4, 2, 30)]
    | 0x0100 => [(0, 1, 2), (3, 1, 4), (4, 1, 3), (5, 1, 1), (6, 2, 0xFFFF)]
    | 0x0101 => [(0, 1, 16), (1, 1, 1), (2, 1, 4), (3, 1, 8), (5, 1, 1), (8, 4, 0x3BC49BA6), (12, 4, 1000)]
    | 0x0102 => [(0, 1, 2), (1, 1, 4)]
    | 0x0106 => (0, 1, 24) :: (List.range 128).flatMap (fun i => [(8 + 12 * i, 4, 0xFF7FFFFF), (12 + 12 * i, 4, 0x7F7FFFFF)])
    | 0x0107 => [(0, 1, 1), (1, 1, 4), (2, 1, 16), (3, 1, 1), (4, 2, 50), (6, 2, 1), (8, 2, 20000), (12, 4, 1000),
                 (16, 4, 86400), (20, 4, 86400)] ++ (List.range 256).map (fun i => (40 + 8 * i, 8, 0x5555555555555555))
    | 0x0109 => [(1, 1, 20), (2, 2, 20)]
    | 0x010A => [(0, 2, 32)]
    | 0x010B => (stateEvents.map (fun e => (256 + e, 1, 1))) ++ [(385, 1, 1), (388, 4, 100)]
    | 0x0103 => [(3, 1, 1), (4, 1, 254), (5, 1, 1), (6, 2, 256), (8, 2, 16), (10, 2, 512), (12, 2, 1000)]
    | 0x0104 => [(10, 1, 1)]
    | 0x0108 => [(0, 4, 100)]
    | _ => [])

/-- A record in force: the one applied last, else the factory default.
DESIGN CHOICE: log entry 15. -/
def State.rcd (s : State) (p ty inst : Nat) : RecImg :=
  match tfind s.recs (recKey p ty inst) with
  | some r => r
  | none => recDefault ty

/-- Whether a record of this type and instance has been put in force. -/
def State.hasRec (s : State) (p ty inst : Nat) : Bool := (tfind s.recs (recKey p ty inst)).isSome

/-- An n-byte little-endian field of a body. -/
def RecImg.fld (r : RecImg) (off n : Nat) : Nat := leNat (tgets r.bytes off n 0)

/-- An n-byte field of a record in force. -/
def State.fld (s : State) (p ty inst off n : Nat) : Nat := (s.rcd p ty inst).fld off n

/-- A record in force with one field changed. -/
def State.setFld (s : State) (p ty inst off n v : Nat) : State :=
  let r := s.rcd p ty inst
  { s with recs := tins s.recs (recKey p ty inst) { r with bytes := tputs r.bytes off (leBytes n v) 0 } }

/-- Partition mode record: offset and size give the field (R536, type 0x0100). -/
def State.mode (s : State) (p off n : Nat) : Nat := s.fld p Ty.partitionMode p off n

/-! ### Ownership (R61, R63) -/

/-- The partition that owns a logical cell. -/
def State.owner (s : State) (c : Nat) : Nat := s.fld 0 Ty.partition 0 c 1

/-- The logical cells of a partition, ascending. -/
def State.cellsOf (s : State) (p : Nat) : List Nat := (List.range 1024).filter (fun c => s.owner c == p)

/-- The memory ranges of a partition: base and length. -/
def State.ranges (s : State) (p : Nat) : List (Nat × Nat) :=
  let r := s.rcd 0 Ty.partition 0
  (List.range 64).map (fun i => (r.fld (3072 + p * 3072 + i * 16) 8, r.fld (3080 + p * 3072 + i * 16) 8))

/-- Whether ranges cover the n bytes from a on; fuel bounds how many ranges one span may cross. -/
def covers (rs : List (Nat × Nat)) (a n fuel : Nat) : Bool :=
  if n = 0 then true
  else match fuel with
    | 0 => false
    | k + 1 =>
      match rs.find? (fun r => r.1 ≤ a && a < r.1 + r.2) with
      | none => false
      | some r => let m := r.1 + r.2 - a
                  if n ≤ m then true else covers rs (a + m) (n - m) k

/-- Whether a partition owns the n bytes of module memory from a on (R63). -/
def State.ownsMem (s : State) (p a n : Nat) : Bool :=
  decide (a + n ≤ 2 ^ 41) && covers (s.ranges p) a n 64

/-- Members of a local barrier group of a partition (R42). -/
def State.localGroup (s : State) (p g : Nat) : List Nat :=
  let r := s.rcd 0 Ty.partition 0
  (List.range 1024).filter (fun c => bit (r.fld (1024 + p * 3072 + g * 128 + c / 8) 1) (c % 8))

/-! ### Module memory and host memory -/

/-- A byte of module memory (R11); a byte nothing has written reads zero (R443).
DESIGN CHOICE: log entry 12. -/
def State.rd8 (s : State) (a : Nat) : Byte := tget s.mem a 0

/-- n bytes of module memory. -/
def State.rdMem (s : State) (a n : Nat) : List Byte := tgets s.mem a n 0

/-- Bytes written to module memory. -/
def State.wrMem (s : State) (a : Nat) (l : List Byte) : State := { s with mem := tputs s.mem a l 0 }

/-- A little-endian value in module memory. -/
def State.rdMemN (s : State) (a n : Nat) : Nat := leNat (s.rdMem a n)

/-- n bytes of host memory.
DESIGN CHOICE: log entry 13. -/
def State.rdHost (s : State) (a n : Nat) : List Byte := tgets s.hostMem a n 0

/-- Bytes written to host memory.
DESIGN CHOICE: log entry 13. -/
def State.wrHost (s : State) (a : Nat) (l : List Byte) : State := { s with hostMem := tputs s.hostMem a l 0 }

/-- The canonical form of module memory: addresses strictly rising, and no entry that reads as an unlisted byte does.
DESIGN CHOICE: log entry 12. -/
def Memory.wf (m : List Host.Cell) : Bool := twf m 0

/-- Whether any of n bytes from a on lies in a line with an uncorrectable error (R272). -/
def State.badIn (s : State) (a n : Nat) : Option Nat :=
  (s.badMem.find? (fun l => decide (l * 64 < a + n) && decide (a < l * 64 + 64))).map (fun l => max a (l * 64))

/-! ### Cell-local memory (R32, R529) -/

/-- The identity page of a cell (R529). -/
def State.idPage (s : State) (c : Nat) : List Byte :=
  let cl := s.cell c
  leBytes 2 c ++ leBytes 2 (pidOf (s.reg c)) ++ leBytes 1 (s.owner c) ++ leBytes 1 (dieOf c) ++
    leBytes 2 s.fab.nodeId ++ leBytes 4 s.fab.epoch ++ leBytes 4 cl.progId ++
    leBytes 4 (s.part (s.owner c)).trainStep ++ leBytes 12 1 ++ leBytes 8 s.time ++ leBytes 216 0

/-- A byte of a cell's local address space. -/
def State.rdLoc8 (s : State) (c a : Nat) : Byte :=
  let cl := s.cell c
  if a < 0x200000 then tget cl.spad a 0
  else if a < 0x240000 then BitVec.ofNat 8 ((tget cl.tally ((a - 0x200000) / 4) 0).toNat / 256 ^ (a % 4))
  else if a < 0x250000 then BitVec.ofNat 8 ((tget cl.ibuf ((a - 0x240000) / 16) 0).toNat / 256 ^ (a % 16))
  else if a < 0x250100 then (s.idPage c).getD (a - 0x250000) 0
  else 0

/-- A cell with a byte of its local address space written; the identity page takes no write. -/
def Cell.wrLoc8 (cl : Cell) (a : Nat) (b : Byte) : Cell :=
  if a < 0x200000 then { cl with spad := tset cl.spad a b 0 }
  else if a < 0x240000 then
    let e := (a - 0x200000) / 4
    let w := setBits (tget cl.tally e 0).toNat (8 * (a % 4) + 7) (8 * (a % 4)) b.toNat
    { cl with tally := tset cl.tally e (BitVec.ofNat 32 w) 0 }
  else if a < 0x250000 then
    let e := (a - 0x240000) / 16
    let w := setBits (tget cl.ibuf e 0).toNat (8 * (a % 16) + 7) (8 * (a % 16)) b.toNat
    { cl with ibuf := tset cl.ibuf e (BitVec.ofNat 128 w) 0 }
  else cl

/-- Bytes written from a local address on. -/
def Cell.wrLoc (cl : Cell) (a : Nat) (l : List Byte) : Cell :=
  match l with
  | [] => cl
  | b :: r => (cl.wrLoc8 a b).wrLoc (a + 1) r

/-- n bytes of a cell's local address space. -/
def State.rdLoc (s : State) (c a n : Nat) : List Byte := (List.range n).map (fun i => s.rdLoc8 c (a + i))

/-- A little-endian value of a cell's local address space. -/
def State.rdLocN (s : State) (c a n : Nat) : Nat := leNat (s.rdLoc c a n)

/-- Logical cell whose scratchpad a device address names (R530).
DEDUCED: log entry 29. -/
def spadWindow (a : Nat) : Option (Nat × Nat) :=
  if 0x20000000000 ≤ a && a < 0x20000000000 + 1024 * 0x1000000 then
    let o := a - 0x20000000000
    if o % 0x1000000 < 0x200000 then some (o / 0x1000000, o % 0x1000000) else none
  else none

/-- Bytes at a device address: module memory or a cell's scratchpad (R530).
DEDUCED: log entry 29. -/
def State.rdDev (s : State) (a n : Nat) : List Byte :=
  match spadWindow a with
  | some (c, o) => s.rdLoc c o n
  | none => s.rdMem a n

/-- Bytes written at a device address. -/
def State.wrDev (s : State) (a : Nat) (l : List Byte) : State :=
  match spadWindow a with
  | some (c, o) => s.modCell c (fun cl => cl.wrLoc o l)
  | none => s.wrMem a l

/-- Bytes of a cell's operand: cell-local or device. -/
def State.rdOp (s : State) (c : Nat) (dev : Bool) (a n : Nat) : List Byte :=
  if dev then s.rdDev a n else s.rdLoc c a n

/-- Bytes written to a cell's operand. -/
def State.wrOp (s : State) (c : Nat) (dev : Bool) (a : Nat) (l : List Byte) : State :=
  if dev then s.wrDev a l else s.modCell c (fun cl => cl.wrLoc a l)

/-! ### Counters (R499 to R503) -/

/-- A 64-bit counter advanced. -/
def bump (t : Tbl (BitVec 64)) (k n : Nat) : Tbl (BitVec 64) := tset t k (tget t k 0 + BitVec.ofNat 64 n) 0

/-- Event ev of cell c counts n; attrs are the qualifiers that apply to it: kind and value (R501).
DEDUCED: log entry 102. -/
def State.count (s : State) (c ev n : Nat) (attrs : List (Nat × Nat) := []) : State :=
  let q := leNat (tgets (s.part (s.owner c)).selImg (2 * ev) 2 0)
  if q / 4096 == 0 || ((5, dieOf c) :: attrs).contains (q / 4096, q % 4096) then
    s.modCell c (fun cl => { cl with ctr := bump cl.ctr ev n })
  else s

/-- Event i of partition p counts n (R503). -/
def State.pcount (s : State) (p i n : Nat) : State := { s with gctr := bump s.gctr (p * 24 + i) n }

/-- Module counter i counts n, where its qualifier admits the event (R501, R503). -/
def State.gcount (s : State) (i n : Nat) (attrs : List (Nat × Nat) := []) : State :=
  let q := if i < 430 then s.fld 0 Ty.moduleCounter 0 (2 * (i - 384)) 2 else 0
  if q / 4096 == 0 || attrs.contains (q / 4096, q % 4096) then { s with gctr := bump s.gctr i n } else s

/-- A STATE event of a cell is entered: it counts 1 under MODE EDGE (R500).
DEDUCED: log entry 102. -/
def State.countEdge (s : State) (c ev : Nat) : State :=
  if tget (s.part (s.owner c)).selImg (256 + ev) 0 == 0 then s.count c ev 1 else s

/-! ### The daybook (R484) -/

/-- A daybook entry. -/
def State.logE (s : State) (e : DayEntry) : State :=
  { s with day := tins s.day (s.daySeq % 65536) { e with time := s.time, seq := s.daySeq }
           daySeq := (s.daySeq + 1) % 2 ^ 32 }

/-- An entry that names no cell.  SOURCE: 0 groom, 1 to 4 the stewards, 5 host interface, 6 fabric. -/
def State.log (s : State) (src code arg0 : Nat) (args : List Nat := []) : State :=
  s.logE { DayEntry.reset with sev := dbSeverity code, src := src, code := code, arg0 := arg0, args := args }

/-- An entry that names a partition. -/
def State.logP (s : State) (src p code arg0 : Nat) (args : List Nat := []) : State :=
  s.logE { DayEntry.reset with sev := dbSeverity code, src := src, code := code, part := p, arg0 := arg0, args := args }

/-- An entry that names a logical cell, with its physical ID and partition (R7). -/
def State.logC (s : State) (c code arg0 : Nat) (args : List Nat := []) : State :=
  s.logE { DayEntry.reset with sev := dbSeverity code, src := 1 + dieOf c, code := code, lcell := c,
                               pcell := pidOf (s.reg c), part := s.owner c, arg0 := arg0, args := args }

/-- An entry that names a physical region, and the logical cell it carries. -/
def State.logR (s : State) (r code arg0 : Nat) (args : List Nat := []) : State :=
  match s.cellOf r with
  | some c => s.logC c code arg0 args
  | none => s.logE { DayEntry.reset with sev := dbSeverity code, src := 1 + r / 272, code := code,
                                         pcell := pidOf r, arg0 := arg0, args := args }

/-! ### Completions and events (R454 to R461) -/

/-- A completion not yet placed: CID, SQ_ID, KIND, STATUS, CAUSE, PARTIAL, INFO0, INFO1, IRQ. -/
structure Cqe where
  cid : Nat
  sq : Nat
  kind : Nat
  status : Nat
  cause : Nat
  part : Bool
  info0 : Nat
  info1 : Nat
  irq : Bool
  deriving DecidableEq, Repr

/-- Plain numbers of a completion, for the list of those that wait. -/
def Cqe.toNats (e : Cqe) : List Nat := [e.cid, e.sq, e.kind, e.status, e.cause, b2n e.part, e.info0, e.info1, b2n e.irq]

/-- The completion plain numbers stand for. -/
def Cqe.ofNats (l : List Nat) : Cqe :=
  { cid := l.getD 0 0, sq := l.getD 1 0, kind := l.getD 2 0, status := l.getD 3 0, cause := l.getD 4 0,
    part := l.getD 5 0 == 1, info0 := l.getD 6 0, info1 := l.getD 7 0, irq := l.getD 8 0 == 1 }

/-- Entries of a completion ring. -/
def Queue.cqLen (q : Queue) : Nat := 2 ^ (q.cqLog + 4)

/-- Entries of a submission ring. -/
def Queue.sqLen (q : Queue) : Nat := 2 ^ (q.sqLog + 4)

/-- Whether the completion ring has no free entry: one entry stays free to tell full from empty.
DEDUCED: log entry 27. -/
def Queue.cqFull (q : Queue) : Bool := (q.cqTail + 1) % q.cqLen == q.cqHead % q.cqLen

/-- The 32 bytes of a completion entry (R458). -/
def Cqe.bytes (e : Cqe) (phase : Bool) (step : Nat) : List Byte :=
  leBytes 2 e.cid ++ leBytes 1 e.sq ++ leBytes 1 e.kind ++ leBytes 1 e.status ++ leBytes 1 e.cause ++
    leBytes 1 (b2n phase + 2 * b2n e.part) ++ leBytes 1 0 ++ leBytes 8 e.info0 ++ leBytes 8 e.info1 ++
    leBytes 4 step ++ leBytes 4 0

/-- A vector of a function fires. -/
def State.fire (s : State) (p v : Nat) : State := s.modFunc p (fun f => { f with irq := f.irq ++ [v] })

/-- An entry is written to a completion ring with room, and signalled as R461 says. -/
def State.placeCqe (s : State) (p q : Nat) (e : Cqe) : State :=
  let k := s.queue p q
  let s := s.wrHost (k.cqBase + 32 * k.cqTail) (e.bytes k.phase (s.part p).trainStep)
  let wrap := k.cqTail + 1 == k.cqLen
  let now := e.irq || e.kind != 0
  let uns := if now then 0 else k.unsig + 1
  let co := !now && k.coN ≤ uns
  let s := s.modQueue p q (fun k => { k with cqTail := if wrap then 0 else k.cqTail + 1
                                             phase := if wrap then !k.phase else k.phase
                                             unsig := if now || co then 0 else uns
                                             unsigAt := if k.unsig == 0 then s.time else k.unsigAt })
  if now || co then s.fire p k.vec else s

/-- A completion for a ring: placed, held back while the ring is full (R458), or lost where no ring exists.
DEDUCED: log entry 27. -/
def State.postCqe (s : State) (p q : Nat) (e : Cqe) : State :=
  let k := s.queue p q
  if k.st == 0 || !s.hif.up then s
  else if k.cqFull || !k.cwait.isEmpty then s.modQueue p q (fun k => { k with cwait := k.cwait ++ [e.toNats] })
  else s.placeCqe p q e

/-- Completions that waited are placed while there is room. -/
def State.drainCqe (s : State) (p q fuel : Nat) : State :=
  match fuel with
  | 0 => s
  | n + 1 =>
    let k := s.queue p q
    match k.cwait with
    | [] => s
    | e :: r => if k.cqFull then s
                else ((s.modQueue p q (fun k => { k with cwait := r })).placeCqe p q (Cqe.ofNats e)).drainCqe p q n

/-- An event of R460, on completion ring 0 of a partition. -/
def State.event (s : State) (p kind cause info0 info1 : Nat) (part : Bool := false) : State :=
  s.postCqe p 0 { cid := 0xFFFF, sq := 0, kind := kind, status := 0, cause := cause, part := part,
                  info0 := info0, info1 := info1, irq := true }

/-- A submission entry completes and leaves the queue's open entries. -/
def State.complete (s : State) (p q cid status cause info0 info1 : Nat) (irq : Bool) : State :=
  let s := s.modQueue p q (fun k => { k with open_ := k.open_.filter (fun c => c.cid != cid) })
  s.postCqe p q { cid := cid, sq := q, kind := 0, status := status, cause := cause, part := false,
                  info0 := info0, info1 := info1, irq := irq }

/-- Whether some cell of a partition still owes a command its part. -/
def State.owes (s : State) (p tok : Nat) : Bool :=
  s.cells.any (fun e => (e.2.hostStopBy.contains tok || e.2.resetBy.contains tok) && s.owner e.1 == p)

/-- A completion owed to a command named by queue × 2¹⁷ + IRQ × 2¹⁶ + CID, once no cell owes it any more. -/
def State.settle (s : State) (p tok status cause : Nat) : State :=
  if s.owes p tok then s else s.complete p (tok / 2 ^ 17) (tok % 65536) status cause 0 0 ((tok / 65536) % 2 == 1)

/-! ### Faults of a cell (R58 to R60) -/

/-- The word at a cell's program counter, as fetch sees it. -/
def Cell.word (cl : Cell) : BitVec 128 := tget cl.fbuf cl.pc 0

/-- A cell enters FAULTED: its fault record, the partition's FAULT event and the daybook's entry (R60).  A cell that is
already FAULTED keeps its first record.  unit is the unit whose queue is discarded, 8 for none; a product that has started stands in no
queue any more (R225).
DEDUCED: log entries 26, 39. -/
def State.faultAt (s : State) (c code cause pc : Nat) (w : BitVec 128) (daddr unit : Nat) : State :=
  let cl := s.cell c
  if cl.st == 4 then s
  else
    let p := s.owner c
    let s := s.setCell c { cl with
      st := 4
      fault := { code := code, cause := cause, pc := pc, time := s.time, word := w, daddr := daddr }
      wait := Wait.reset, draining := 0, startPend := false, hostStopBy := []
      flight := cl.flight.filter (fun f => f.unit != unit || f.started) }
    let s := s.count c Ev.faults 1
    let s := cl.hostStopBy.foldl (fun s t => s.settle p t 0 0) s
    let s := s.event p 5 0 (c + pidOf (s.reg c) * 65536) code
    s.logC c Db.cellFault (code + 256 * cause) [pc]

/-- A precise fault of the word at the program counter (R58).
DEDUCED: log entry 26. -/
def State.precise (s : State) (c code cause : Nat) : State :=
  s.faultAt c code cause (s.cell c).pc (s.cell c).word 0 8

/-- n is added to a flag counter; one that would pass 2³² − 1 stays there and the cell faults (R35, R36). -/
def State.addFlag (s : State) (c k n : Nat) : State :=
  if k == 0 then s
  else
    let v := tget (s.cell c).flags k 0 + n
    if v < 2 ^ 32 then s.modCell c (fun cl => { cl with flags := tset cl.flags k v 0 })
    else (s.modCell c (fun cl => { cl with flags := tset cl.flags k (2 ^ 32 - 1) 0 })).precise c Fc.flagOverflow 0

/-- Whether a region is ON (R396). -/
def State.regionOn (s : State) (c : Nat) : Bool := (s.phy (s.reg c)).rst == 0

/-- A message is sent on the fabric: TYPE, destination, sender's epoch, then its fields (R305). -/
def State.send (s : State) (ty dst : Nat) (fields : List Nat) : State :=
  s.modFab (fun f => { f with tx := f.tx ++ [ty :: dst :: f.epoch :: fields] })

/-- A message reaches this module: with a reserved field that is not zero it is dropped and counted (R297); one for another
node is passed on, and dropped where it would pass its 32nd hop (R302); else f acts.
DEDUCED: log entry 70. -/
def State.receive (s : State) (h : Hdr) (f : State → State) : Out :=
  if h.rsv != 0 then .next (s.gcount GEv.fabRsvDrop 1)
  else if h.dst != s.fab.nodeId && h.dst != 0xFFFF then .next (if 32 ≤ h.hop then s.gcount GEv.fabHopDrop 1 else s)
  else .next (f s)

/-- The groom queues a platform event for the tray controller (R474). -/
def State.platform (s : State) (id arg : Nat) : State :=
  s.modGroom (fun g => { g with events := g.events.filter (fun e => e.1 != id) ++ [(id, arg, 0)] })

/-- A module fault is in force and reported (R13): FAULT_CAUSE 1 POWER, 2 MEMORY, 3 SENSING, 4 BRIDGE, 5 DRILL. -/
def State.moduleFault (s : State) (cause unit : Nat) : State :=
  let s := s.modBoot (fun b => { b with modFault := true, faultCause := cause })
  let s := s.platform 4 cause
  s.log 0 Db.moduleFault cause [unit]

end Sys2Proof.Machine
end

