-- ==== Sys2Proof/Machine/Numerics.lean ====
section
/-! DEFINITION. Machine/Numerics: the number formats (R127 to R130), rounding (R137, R138), IEEE 754 arithmetic on exact
values (R189 to R192), the dice streams (R149, R150), CRC-32C, the control codes and SHA3-256. -/

namespace Sys2Proof.Machine

/-! ### Exact values -/

/-- A number a format can spell, held exactly: NaN, an infinity, or a value, with the sign of a zero beside it. -/
inductive Fv where
  | nan
  | inf (neg : Bool)
  | num (v : Rat) (nz : Bool)
  deriving DecidableEq, Repr

/-- Positive zero. -/
def Fv.zero : Fv := .num 0 false

/-- 2 to an integer power. -/
def pow2 (e : Int) : Rat := if 0 ≤ e then ((2 ^ e.toNat : Nat) : Rat) else mkRat 1 (2 ^ (-e).toNat)

/-- Floor of the binary logarithm of a positive rational. -/
def flog2 (v : Rat) : Int :=
  let a := v.num.natAbs
  let l : Int := (Nat.log2 a : Int) - (Nat.log2 v.den : Int)
  if pow2 l ≤ v then l else l - 1

/-- Magnitude of a rational. -/
def rabs (v : Rat) : Rat := if v < 0 then -v else v

/-- Sign of a value. -/
def Fv.neg (x : Fv) : Bool :=
  match x with
  | .nan => false
  | .inf n => n
  | .num v nz => decide (v < 0) || (decide (v = 0) && nz)

/-- Whether a value is finite. -/
def Fv.fin (x : Fv) : Bool :=
  match x with
  | .num _ _ => true
  | _ => false

/-- The rational of a finite value, 0 otherwise. -/
def Fv.rat (x : Fv) : Rat :=
  match x with
  | .num v _ => v
  | _ => 0

/-- A value with the opposite sign. -/
def Fv.opp (x : Fv) : Fv :=
  match x with
  | .nan => .nan
  | .inf n => .inf (!n)
  | .num v nz => .num (-v) (!nz)

/-! ### Rounding -/

/-- Rounding of a non-negative rational to an integer, ties to even (R137).
DESIGN CHOICE: log entry 11. -/
def rneNat (x : Rat) : Nat :=
  let f := (Rat.floor x).toNat
  let r := x - (f : Rat)
  if r < mkRat 1 2 then f else if mkRat 1 2 < r then f + 1 else if f % 2 = 0 then f else f + 1

/-- Rounding of a rational to an integer, ties to even. -/
def rneInt (x : Rat) : Int := if x < 0 then -(rneNat (-x) : Int) else (rneNat x : Int)

/-- Rounding half away from zero (R137). -/
def rhaInt (x : Rat) : Int :=
  let m := (Rat.floor (rabs x + mkRat 1 2))
  if x < 0 then -m else m

/-- Stochastic rounding of a non-negative rational to an integer with draw u (R138). -/
def srNat (x : Rat) (u : Nat) : Nat :=
  let f := (Rat.floor x).toNat
  let fr := (Rat.floor ((x - (f : Rat)) * (2 ^ 32 : Nat))).toNat
  if u < fr then f + 1 else f

/-- Rounding by the mode: RNE, or SR with a draw. -/
def rndNat (m : Option Nat) (x : Rat) : Nat :=
  match m with
  | none => rneNat x
  | some u => srNat x u

/-- Magnitude code of a non-negative rational in a binary format: mantissa bits, exponent of the smallest normal. -/
def encMag (mb : Nat) (emin : Int) (m : Option Nat) (v : Rat) : Nat :=
  if v = 0 then 0
  else
    let e := max (flog2 v) emin
    ((e - emin).toNat) * 2 ^ mb + rndNat m (v * pow2 ((mb : Int) - e))

/-- Value of a magnitude code of a binary format. -/
def decMag (mb : Nat) (emin : Int) (c : Nat) : Rat :=
  let e := c / 2 ^ mb
  let f := c % 2 ^ mb
  if e = 0 then (f : Rat) * pow2 (emin - mb) else ((2 ^ mb + f : Nat) : Rat) * pow2 (emin + e - 1 - mb)

/-- FMT codes (R129). -/
abbrev fFP4 : Nat := 1
abbrev fINT4 : Nat := 2
abbrev fE4M3 : Nat := 3
abbrev fE5M2 : Nat := 4
abbrev fINT8 : Nat := 5
abbrev fBF16 : Nat := 6
abbrev fFP32 : Nat := 7
abbrev fLAYER : Nat := 8

/-- Bits of an element of a format (R127). -/
def fmtBits (f : Nat) : Nat :=
  match f with
  | 1 => 4 | 2 => 4 | 3 => 8 | 4 => 8 | 5 => 8 | 6 => 16 | _ => 32

/-- Mantissa bits and exponent of the smallest normal of a floating format (R127). -/
def fmtMant (f : Nat) : Nat × Int :=
  match f with
  | 1 => (1, 0) | 3 => (3, -6) | 4 => (2, -14) | 6 => (7, -126) | _ => (23, -126)

/-- A signed value with its magnitude. -/
def mkNum (neg : Bool) (m : Rat) : Fv := .num (if neg then -m else m) neg

/-- An element's bits decoded, without a scale (R127, R128). -/
def decElem (f w : Nat) : Fv :=
  match f with
  | 1 => mkNum (bit w 3) (decMag 1 0 (w % 8))
  | 2 => .num (sgn 4 (w % 16) : Int) false
  | 3 => if w % 128 = 127 then .nan else mkNum (bit w 7) (decMag 3 (-6) (w % 128))
  | 4 => if w % 128 = 124 then .inf (bit w 7) else if 124 < w % 128 then .nan
         else mkNum (bit w 7) (decMag 2 (-14) (w % 128))
  | 5 => .num (sgn 8 (w % 256) : Int) false
  | 6 => let m := w % 2 ^ 15
         if m = 0x7F80 then .inf (bit w 15) else if 0x7F80 < m then .nan else mkNum (bit w 15) (decMag 7 (-126) m)
  | _ => let m := w % 2 ^ 31
         if m = 0x7F800000 then .inf (bit w 31) else if 0x7F800000 < m then .nan
         else mkNum (bit w 31) (decMag 23 (-126) m)

/-- Largest magnitude code that is finite, of a floating format. -/
def fmtMaxCode (f : Nat) : Nat :=
  match f with
  | 1 => 7 | 3 => 126 | 4 => 123 | 6 => 0x7F7F | _ => 0x7F7FFFFF

/-- Largest finite magnitude of a format as the quantiser uses it: EMAX (R132). -/
def fmtEmax (f : Nat) : Rat :=
  match f with
  | 1 => 6 | 2 => 7 | 3 => 448 | 4 => 57344 | 5 => 127
  | f => decMag (fmtMant f).1 (fmtMant f).2 (fmtMaxCode f)

/-- FP32 or BF16 bits of a value, rounded once; beyond the largest finite magnitude it becomes ±Inf (R146, R190).
A draw selects stochastic rounding (R138). -/
def encWide (f : Nat) (m : Option Nat) (x : Fv) : Nat :=
  let n := fmtBits f
  let (mb, emin) := fmtMant f
  let inf := fmtMaxCode f + 1
  let sg (b : Bool) : Nat := if b then 2 ^ (n - 1) else 0
  match x with
  | .nan => inf + 2 ^ (mb - 1)
  | .inf b => sg b + inf
  | .num v _ =>
    let c := if m.isSome && fmtEmax f < rabs v then inf else encMag mb emin m (rabs v)
    sg x.neg + min c inf

/-- FP32 bits, round to nearest even. -/
def enc32 (x : Fv) : Nat := encWide fFP32 none x
/-- The value of FP32 bits. -/
def dec32 (w : Nat) : Fv := decElem fFP32 w
/-- A value rounded to FP32. -/
def Fv.r32 (x : Fv) : Fv := dec32 (enc32 x)

/-- A finite value beyond FP32 decodes as an infinity (R555). -/
def Fv.to32 (x : Fv) : Fv :=
  match x with
  | .num v _ => if fmtEmax fFP32 < rabs v then .inf x.neg else x
  | x => x

/-- An element times its block scale, as a number (R130, R555). -/
def scaled (s : Nat) (x : Fv) : Fv :=
  if s = 0 then .zero
  else if s = 255 then .nan
  else match x with
    | .num v nz => .num (v * pow2 ((s : Int) - 127)) nz
    | x => x

/-! ### Arithmetic on exact values (R189, R190) -/

/-- Exact sum, with IEEE 754's rules for infinities and signed zeros under RNE. -/
def Fv.add (a b : Fv) : Fv :=
  match a, b with
  | .nan, _ => .nan
  | _, .nan => .nan
  | .inf x, .inf y => if x = y then .inf x else .nan
  | .inf x, _ => .inf x
  | _, .inf y => .inf y
  | .num v x, .num w y =>
    if v + w = 0 then .num 0 (if v = 0 && w = 0 then x && y else false) else .num (v + w) false

/-- Exact product. -/
def Fv.mul (a b : Fv) : Fv :=
  match a, b with
  | .nan, _ => .nan
  | _, .nan => .nan
  | .inf x, .inf y => .inf (x != y)
  | .inf x, .num v _ => if v = 0 then .nan else .inf (x != b.neg)
  | .num v _, .inf y => if v = 0 then .nan else .inf (a.neg != y)
  | .num v _, .num w _ => .num (v * w) (a.neg != b.neg)

/-- a × b + c, exact.
DESIGN CHOICE: log entry 11. -/
def Fv.fma (a b c : Fv) : Fv := (a.mul b).add c

/-- Order of two values, NaN apart: less than. -/
def Fv.lt (a b : Fv) : Bool :=
  match a, b with
  | .nan, _ => false
  | _, .nan => false
  | .inf x, .inf y => x && !y
  | .inf x, .num _ _ => x
  | .num _ _, .inf y => !y
  | .num v _, .num w _ => decide (v < w)

/-- Equality of two values, NaN apart; the zeros are equal. -/
def Fv.eqv (a b : Fv) : Bool :=
  match a, b with
  | .inf x, .inf y => x == y
  | .num v _, .num w _ => decide (v = w)
  | _, _ => false

/-- VMIN: −0 is below +0; NaN in either gives NaN (R189). -/
def Fv.min (a b : Fv) : Fv :=
  match a, b with
  | .nan, _ => .nan
  | _, .nan => .nan
  | a, b => if a.lt b then a else if b.lt a then b else if a.neg then a else b

/-- VMAX (R189). -/
def Fv.max (a b : Fv) : Fv :=
  match a, b with
  | .nan, _ => .nan
  | _, .nan => .nan
  | a, b => if a.lt b then b else if b.lt a then a else if a.neg then b else a

/-- A positive rational truncated to n significant bits. -/
def truncSig (n : Nat) (v : Rat) : Rat :=
  let e := flog2 v
  (Rat.floor (v * pow2 ((n : Int) - 1 - e)) : Rat) * pow2 (e + 1 - n)

/-- A positive rational rounded by RNE to n significant bits.
DESIGN CHOICE: log entry 11. -/
def roundSig (n : Nat) (v : Rat) : Rat :=
  let e := flog2 v
  (rneNat (v * pow2 ((n : Int) - 1 - e)) : Rat) * pow2 (e + 1 - n)

/-- Square root of a positive rational rounded by RNE to n significant bits.
DESIGN CHOICE: log entry 11. -/
def sqrtSig (n : Nat) (v : Rat) : Rat :=
  let k : Int := (flog2 v) / 2 - (n - 1 : Int)
  let y := v * pow2 (-2 * k)
  let m := Nat.sqrt (Rat.floor y).toNat
  let h := ((2 * m + 1 : Nat) : Rat)
  let up := h * h < 4 * y || (h * h = 4 * y && m % 2 = 1)
  ((if up then m + 1 else m : Nat) : Rat) * pow2 k

/-- The reciprocal seed of VMUL RCP (R191). -/
def rcpSeed (b : Fv) : Fv :=
  match b with
  | .nan => .nan
  | .inf n => .num 0 n
  | .num v _ => if v = 0 then .inf b.neg else mkNum b.neg (roundSig 12 (1 / truncSig 12 (rabs v)))

/-- The reciprocal square root seed of VMUL RSQ (R191). -/
def rsqSeed (b : Fv) : Fv :=
  match b with
  | .nan => .nan
  | .inf n => if n then .nan else .zero
  | .num v _ => if v = 0 then .inf b.neg else if v < 0 then .nan else .num (sqrtSig 12 (1 / truncSig 12 v)) false

/-- a × 2ⁿ, n being b truncated and held within ±512 (R191). -/
def ldexp (a b : Fv) : Fv :=
  match b with
  | .nan => .nan
  | .inf n => a.mul (.num (pow2 (if n then -512 else 512)) false)
  | .num v _ => let t : Int := if v < 0 then -(Rat.floor (-v)) else Rat.floor v
                a.mul (.num (pow2 (clampI (-512) 512 t)) false)

/-! ### The dice streams -/

/-- One Philox round. -/
def philoxRound (k0 k1 : Nat) (c : Nat × Nat × Nat × Nat) : Nat × Nat × Nat × Nat :=
  let p0 := 0xD2511F53 * c.1
  let p1 := 0xCD9E8D57 * c.2.2.1
  ((p1 / 2 ^ 32) ^^^ c.2.1 ^^^ k0, p1 % 2 ^ 32, (p0 / 2 ^ 32) ^^^ c.2.2.2 ^^^ k1, p0 % 2 ^ 32)

/-- Philox-4×32 with n rounds left (R149). -/
def philox (n k0 k1 : Nat) (c : Nat × Nat × Nat × Nat) : Nat × Nat × Nat × Nat :=
  match n with
  | 0 => c
  | n + 1 => philox n ((k0 + 0x9E3779B9) % 2 ^ 32) ((k1 + 0xBB67AE85) % 2 ^ 32) (philoxRound k0 k1 c)

/-- Draw n of a stream (R150). -/
def diceDraw (seed stream step mb n : Nat) : Nat :=
  let q := n / 4
  let r := philox 10 (seed % 2 ^ 32) ((seed / 2 ^ 32) % 2 ^ 32)
    (q % 2 ^ 32, (q / 2 ^ 32) % 2 ^ 32, (stream % 65536) * 65536 + mb % 65536, step % 2 ^ 32)
  match n % 4 with
  | 0 => r.1
  | 1 => r.2.1
  | 2 => r.2.2.1
  | _ => r.2.2.2

/-! ### Check words and digests -/

/-- One bit of a reflected CRC. -/
def crcBit (poly c : Nat) : Nat := if c % 2 = 1 then (c / 2) ^^^ poly else c / 2

/-- A byte taken into a CRC-32C register. -/
def crcByte (c : Nat) (b : Byte) : Nat :=
  let c := c ^^^ b.toNat
  let p := crcBit 0x82F63B78
  p (p (p (p (p (p (p (p c)))))))

/-- CRC-32C of bytes. -/
def crc32c (l : List Byte) : Nat := (l.foldl crcByte 0xFFFFFFFF) ^^^ 0xFFFFFFFF

/-- Rotation of a 64-bit lane to the left. -/
def rotl64 (x n : Nat) : Nat := ((x * 2 ^ n) % 2 ^ 64) ||| (x / 2 ^ (64 - n))

/-- Lane i of a Keccak state. -/
def lane (a : List Nat) (i : Nat) : Nat := a.getD i 0

/-- Rotation offsets of Keccak, lane x + 5y. -/
def keccakRho : List Nat :=
  [0, 1, 62, 28, 27, 36, 44, 6, 55, 20, 3, 10, 43, 25, 39, 41, 45, 15, 21, 8, 18, 2, 61, 56, 14]

/-- Round constants of Keccak-f[1600]. -/
def keccakRc : List Nat :=
  [0x1, 0x8082, 0x800000000000808A, 0x8000000080008000, 0x808B, 0x80000001, 0x8000000080008081,
   0x8000000000008009, 0x8A, 0x88, 0x80008009, 0x8000000A, 0x8000808B, 0x800000000000008B, 0x8000000000008089,
   0x8000000000008003, 0x8000000000008002, 0x8000000000000080, 0x800A, 0x800000008000000A, 0x8000000080008081,
   0x8000000000008080, 0x80000001, 0x8000000080008008]

/-- One round of Keccak-f[1600] (FIPS 202). -/
def keccakRound (a : List Nat) (rc : Nat) : List Nat :=
  let c := (List.range 5).map (fun x => lane a x ^^^ lane a (x + 5) ^^^ lane a (x + 10) ^^^ lane a (x + 15) ^^^ lane a (x + 20))
  let d := (List.range 5).map (fun x => lane c ((x + 4) % 5) ^^^ rotl64 (lane c ((x + 1) % 5)) 1)
  let a := (List.range 25).map (fun i => lane a i ^^^ lane d (i % 5))
  -- rho and pi: lane (y, 2x + 3y) takes lane (x, y) rotated
  let b := (List.range 25).map (fun i =>
    let y := i % 5
    let x := ((i / 5) + 2 * y) * 3 % 5
    rotl64 (lane a (x + 5 * y)) (lane keccakRho (x + 5 * y)))
  let e := (List.range 25).map (fun i =>
    let r := 5 * (i / 5)
    lane b i ^^^ ((2 ^ 64 - 1 - lane b (r + (i + 1) % 5)) &&& lane b (r + (i + 2) % 5)))
  (lane e 0 ^^^ rc) :: e.drop 1

/-- Keccak-f[1600]. -/
def keccakF (a : List Nat) : List Nat := keccakRc.foldl keccakRound a

/-- A 136-byte block taken into a SHA3-256 sponge. -/
def absorb (a : List Nat) (blk : List Byte) : List Nat :=
  keccakF ((List.range 25).map (fun i => lane a i ^^^ (if i < 17 then leNat ((blk.drop (8 * i)).take 8) else 0)))

/-- Whole blocks taken in; fuel bounds their number.  Returns the sponge and the bytes left over. -/
def absorbAll (fuel : Nat) (a : List Nat) (l : List Byte) : List Nat × List Byte :=
  match fuel with
  | 0 => (a, l)
  | n + 1 => if 136 ≤ l.length then absorbAll n (absorb a (l.take 136)) (l.drop 136) else (a, l)

/-- Padding and squeezing of a SHA3-256 sponge with fewer than 136 bytes left. -/
def sha3Final (a : List Nat) (rest : List Byte) : List Byte :=
  let n := rest.length
  let pad := if n = 135 then [0x86#8] else [0x06#8] ++ List.replicate (134 - n) 0#8 ++ [0x80#8]
  let a := absorb a (rest ++ pad)
  (List.range 4).flatMap (fun i => leBytes 8 (lane a i))

/-- SHA3-256 (FIPS 202). -/
def sha3 (l : List Byte) : List Byte :=
  let (a, r) := absorbAll (l.length / 136 + 1) (List.replicate 25 0) l
  sha3Final a r

end Sys2Proof.Machine
end

