-- ==== Sys2Proof/Machine/Operands.lean ====
section
/-! DEFINITION. Machine/Operands: the structures instructions name (R185, R203 to R205), streams and their elements
(R131, R185 to R188, R555), the address checks (R32, R63, R524, R530), the quantiser (R132 to R136) and the dice record
(R150 to R152). -/

namespace Sys2Proof.Machine

/-! ### The dice record (R150 to R152) -/

/-- Index of a stream ID in a partition's dice record. -/
def State.streamIx (s : State) (p id : Nat) : Option Nat :=
  let r := s.rcd p Ty.dice p
  (List.range (min (r.fld 8 1) 64)).find? (fun k => r.fld (12 + 8 * k) 2 == id)

/-- STEP of a stream, 0 for one the record does not list. -/
def State.streamStep (s : State) (p id : Nat) : Nat :=
  match s.streamIx p id with
  | some k => s.fld p Ty.dice p (16 + 8 * k) 4
  | none => 0

/-- Draw n of a partition's stream at a micro-batch. -/
def State.draw (s : State) (p id mb n : Nat) : Nat :=
  diceDraw (s.fld p Ty.dice p 0 8) id (s.streamStep p id) mb n

/-- Whether a program may draw from a stream (R151). -/
def State.mayDraw (s : State) (c id : Nat) : Bool :=
  (if (s.cell c).eval then decide (0x8000 ≤ id) && decide (id < 0xC000) else decide (id < 0x8000)) &&
    (s.streamIx (s.owner c) id).isSome

/-- STEP of every stream whose ID lies in a range advances by 1 (R152). -/
def State.advanceStreams (s : State) (p lo hi : Nat) : State :=
  (List.range (min (s.fld p Ty.dice p 8 1) 64)).foldl (fun s k =>
    let id := s.fld p Ty.dice p (12 + 8 * k) 2
    if lo ≤ id && id < hi then s.setFld p Ty.dice p (16 + 8 * k) 4 (s.fld p Ty.dice p (16 + 8 * k) 4 + 1) else s) s

/-! ### Layer precision (R155) -/

/-- Offset of a slot in the body of a layer precision record. -/
def slotOff (k : Nat) : Nat := 16 + 24 * k

/-- Element format of a slot at a level (R155). -/
def slotFmt (r : RecImg) (k level : Nat) : Nat :=
  let fam := r.fld (slotOff k) 1
  match level with
  | 0 => if fam == 0 then fFP4 else fINT4
  | 1 => if fam == 0 then (if r.fld (slotOff k + 1) 1 == 0 then fE4M3 else fE5M2) else fINT8
  | _ => fBF16

/-- Data bytes and scale bytes a slot takes at a level. -/
def slotBytes (r : RecImg) (k level : Nat) : Nat × Nat :=
  let n := r.fld (slotOff k + 4) 4
  let sc := level == 0 || (level == 1 && r.fld (slotOff k + 2) 1 == 1)
  (cdiv (n * fmtBits (slotFmt r k level)) 8, if sc then cdiv n (8 * 2 ^ r.fld (slotOff k + 3) 1) else 0)

/-- Bytes of the fallback pool that a layer's slots take at a level, and the offset of slot k among them: the slots
stand in order, data then scales, each at a 64-byte boundary. -/
def slotPool (r : RecImg) (level k : Nat) : Nat :=
  ((List.range k).map (fun j => let b := slotBytes r j level
                                cdiv b.1 64 * 64 + cdiv b.2 64 * 64)).sum

/-- FMT = LAYER resolved for a tag: format, SC, BLK, data base and scale base (R155). -/
def State.resolve (s : State) (p tag : Nat) : Option (Nat × Bool × Nat × Nat × Nat) :=
  let l := tag / 16
  let k := tag % 16
  if s.hasRec p Ty.layerPrecision l then
    let r := s.rcd p Ty.layerPrecision l
    let level := r.fld 0 1
    let f := slotFmt r k level
    let sc := level == 0 || (level == 1 && r.fld (slotOff k + 2) 1 == 1)
    let blk := r.fld (slotOff k + 3) 1
    if level == r.fld 1 1 then some (f, sc, blk, r.fld (slotOff k + 8) 8, r.fld (slotOff k + 16) 8)
    else
      let base := s.mode p 8 8 + (tget (s.part p).layers l LayerSt.reset).poolOff + slotPool r level k
      some (f, sc, blk, base, base + cdiv (slotBytes r k level).1 64 * 64)
  else none

/-- Scale window of a tag's layer; 0x01 and 0xFE where no record is in force (R132). -/
def State.scaleWin (s : State) (p tag : Nat) : Nat × Nat :=
  if s.hasRec p Ty.layerPrecision (tag / 16) then
    (s.fld p Ty.layerPrecision (tag / 16) 3 1, s.fld p Ty.layerPrecision (tag / 16) 4 1)
  else (1, 0xFE)

/-! ### Descriptors -/

/-- Causes of R129 in the format fields: RESERVED 4, ENCODING 5. -/
def fmtIll (fmt : Nat) (sc : Bool) (blk : Nat) : List Nat :=
  if fmt = 8 then (if sc || blk != 0 then [4] else [])
  else if fmt = 0 || 8 < fmt then [5]
  else if sc then (if fmt = 6 || fmt = 7 || blk = 0 || 4 < blk then [5] else [])
  else if fmt = 1 || fmt = 2 then [5] else []

/-- Elements of a block of a BLK code. -/
def blkLen (b : Nat) : Nat := 8 * 2 ^ b

/-- Block length of a descriptor, 1 where it is unscaled. -/
def Desc.blkN (d : Desc) : Nat := if d.sc then blkLen d.blk else 1

/-- Bytes of one full block of elements. -/
def Desc.blkBytes (d : Desc) : Nat := blkLen d.blk * fmtBits d.fmt / 8

/-- Fields of a descriptor resolved under FMT = LAYER, with the causes found. -/
def State.resolveDesc (s : State) (p : Nat) (d : Desc) (tag : Nat) (ill : List Nat) : Desc × List Nat :=
  if d.fmt = 8 then
    let r4 := if d.dev || d.base != 0 || d.scaleBase != 0 then [4] else []
    match s.resolve p tag with
    | some (f, sc, blk, b, sb) =>
      ({ d with fmt := f, sc := sc, blk := blk, base := b, scaleBase := sb, dev := true, tag := tag }, ill ++ r4)
    | none => (d, ill ++ r4 ++ [6])
  else (d, ill ++ (if tag != 0 then [4] else []) ++ (if !d.sc && d.scaleBase != 0 then [4] else []))

/-- The stream descriptor a reference names (R185, R187), with the illegal causes found in it. -/
def State.streamDesc (s : State) (c ref : Nat) : Desc × List Nat :=
  let f (o n : Nat) := s.rdLocN c (ref * 32 + o) n
  let form := f 0x0E 2
  let fmt := bits form 3 0
  let sc := bit form 4
  let blk := bits form 7 5
  let d : Desc := { Desc.reset with base := f 0 6, scaleBase := f 8 6, fmt := fmt, sc := sc, blk := blk, dev := bit form 8,
                                    inner := f 0x10 4, innerStride := sgn 32 (f 0x14 4), outer := f 0x18 4,
                                    outerStride := sgn 32 (f 0x1C 4) }
  let (d, ill) := s.resolveDesc (s.owner c) d (f 6 2) (fmtIll fmt sc blk ++ (if bits form 15 9 != 0 then [4] else []))
  let walk := (d.sc || d.fmt == 1 || d.fmt == 2) &&
    (d.innerStride != 1 || (d.fmt < 8 && d.outerStride % (max d.blkBytes 1 : Nat) != 0))
  (d, ill ++ (if walk then [5] else []))

/-- The matrix descriptor a reference names (R204): INNER the columns, OUTER the rows, OUTER_STRIDE the row stride. -/
def State.matDesc (s : State) (c ref : Nat) : Desc × List Nat :=
  let f (o n : Nat) := s.rdLocN c (ref * 32 + o) n
  let form := f 0x0E 2
  let fmt := bits form 3 0
  let sc := bit form 4
  let blk := bits form 7 5
  let lay := bit form 9
  let sax := bit form 10
  let rs := f 0x18 4
  let d : Desc := { Desc.reset with base := f 0 6, scaleBase := f 8 6, fmt := fmt, sc := sc, blk := blk, dev := bit form 8,
                                    inner := f 0x14 4, innerStride := 1, outer := f 0x10 4, outerStride := sgn 32 rs,
                                    blocked := lay, saxis := sax }
  let (d, ill) := s.resolveDesc (s.owner c) d (f 6 2) (fmtIll fmt sc blk ++ (if bits form 15 11 != 0 || f 0x1C 4 != 0 then [4] else []))
  (d, ill ++ (if lay && rs != 0 then [4] else []) ++ (if !lay && rs == 0 then [5] else []) ++
    (if !lay && sax then [5] else []) ++ (if d.inner == 0 || d.outer == 0 then [5] else []))

/-- The parameter block a reference names (R205). -/
def State.paramBlk (s : State) (c ref : Nat) : ParamBlk × List Nat :=
  let f (o n : Nat) := s.rdLocN c (ref * 32 + o) n
  ({ maskIn := f 0 4, maskOut := f 4 4, sigma := f 8 4, stream := f 0xC 2, qtag := f 0xE 2, posBase := f 0x10 4,
     e0 := f 0x14 2, estride := f 0x16 2, scale := f 0x18 4 }, if f 0x1C 4 != 0 then [4] else [])

/-- Master ranges: base and length (R338). -/
def State.masters (s : State) (p : Nat) : List (Nat × Nat) :=
  ((List.range 256).map (fun k => (s.fld p Ty.snapshot p (2096 + 24 * k) 8, s.fld p Ty.snapshot p (2104 + 24 * k) 8))).filter (fun r => r.2 != 0)

/-! ### Spans and address checks -/

/-- Elements of a stream. -/
def Desc.count (d : Desc) : Nat := d.inner * d.outer

/-- Bytes of one row from its first element on, when its elements are contiguous. -/
def Desc.rowBytes (d : Desc) : Nat := cdiv (d.inner * fmtBits d.fmt) 8

/-- First byte and end of the data of a stream or matrix with elements; the blocked layout is padded to whole 64 × 64
blocks (R172). -/
def Desc.span (d : Desc) : Int × Int :=
  if d.blocked then
    ((d.base : Int), ((d.base + cdiv d.outer 64 * cdiv d.inner 64 * (512 * fmtBits d.fmt) : Nat) : Int))
  else
  let o : Int := ((d.outer : Int) - 1) * d.outerStride
  if fmtBits d.fmt = 4 || d.innerStride = 1 then
    ((d.base : Int) + min 0 o, (d.base : Int) + max 0 o + (d.rowBytes : Int))
  else
    let e : Int := ((fmtBits d.fmt / 8 : Nat) : Int)
    let i : Int := ((d.inner : Int) - 1) * d.innerStride * e
    ((d.base : Int) + min 0 o + min 0 i, (d.base : Int) + max 0 o + max 0 i + e)

/-- Rows from one scale row to the next, in scale bytes (R131). -/
def Desc.scaleStep (d : Desc) : Int := d.outerStride / (max d.blkBytes 1 : Nat)

/-- First byte and end of the scale bytes of a block-scaled stream. -/
def Desc.scaleSpan (d : Desc) : Int × Int :=
  if d.blocked then
    let n := d.blkN
    let tiles := cdiv d.outer 64 * cdiv d.inner 64
    let firsts := if d.saxis then cdiv d.outer 128 * cdiv d.inner 64 else cdiv d.outer 64 * cdiv d.inner 128
    ((d.scaleBase : Int), ((d.scaleBase + (if n ≤ 64 then tiles * (4096 / n) else firsts * 64) : Nat) : Int))
  else
  let o : Int := ((d.outer : Int) - 1) * d.scaleStep
  ((d.scaleBase : Int) + min 0 o, (d.scaleBase : Int) + max 0 o + (cdiv d.inner d.blkN : Nat))

/-- Address-fault cause of a cell-local range for a unit: 0 RANGE, 3 ACCESS (R32).
DEDUCED: log entry 17. -/
def localCause (unit : Nat) (wr : Bool) (lo hi : Int) : Option Nat :=
  if lo < 0 || hi ≤ lo then some 0
  else if hi ≤ 0x200000 then none
  else if 0x200000 ≤ lo && hi ≤ 0x240000 then (if unit = 0 || unit = 5 then none else some 3)
  else if 0x240000 ≤ lo && hi ≤ 0x250000 then (if unit = 0 then none else some 3)
  else if 0x250000 ≤ lo && hi ≤ 0x250100 then (if wr then some 3 else none)
  else some 0

/-- Address-fault cause of a device range: 0 RANGE, 2 OWNERSHIP, 3 ACCESS (R63, R530).  A cell's scratchpad window may
be named by any operand of a cell of the same partition (R34, R166; DEDUCED).
DEDUCED: log entry 17. -/
def State.devCause (s : State) (c : Nat) (lo hi : Int) : Option Nat :=
  if lo < 0 then some 0
  else
    let a := lo.toNat
    let n := (hi - lo).toNat
    if a + n ≤ 2 ^ 41 then (if s.ownsMem (s.owner c) a n then none else some 2)
    else match spadWindow a with
      | some (k, o) => if 0x200000 < o + n then some 0
                       else if s.owner k == s.owner c then none else some 2
      | none => if 0x21000000000 ≤ a && a < 0x21000001000 then some 3 else some 0

/-- Address-fault cause of a range in either space. -/
def State.rangeCause (s : State) (c unit : Nat) (wr dev : Bool) (sp : Int × Int) : Option Nat :=
  if dev then s.devCause c sp.1 sp.2 else localCause unit wr sp.1 sp.2

/-- Address faults of a stream operand and of its scale bytes. -/
def State.streamFlt (s : State) (c unit : Nat) (wr : Bool) (d : Desc) : List (Nat × Nat) :=
  if d.count = 0 then []
  else ((s.rangeCause c unit wr d.dev d.span).toList ++
    (if d.sc then (s.rangeCause c unit wr d.dev d.scaleSpan).toList else [])).map (fun x => (2, x))

/-- The cell-local byte ranges of a stream operand (R33). -/
def Desc.ranges (d : Desc) : List (Nat × Nat) :=
  if d.dev || d.count = 0 then []
  else (d.span.1.toNat, d.span.2.toNat) :: (if d.sc then [(d.scaleSpan.1.toNat, d.scaleSpan.2.toNat)] else [])

/-- Whether two byte ranges meet. -/
def rngMeet (a b : Nat × Nat) : Bool := decide (a.1 < b.2) && decide (b.1 < a.2)

/-- Whether a destination overlaps a source otherwise than in place (R166, R188). -/
def Desc.overlaps (d src : Desc) : Bool :=
  if d.count = 0 || src.count = 0 || d.dev != src.dev then false
  else if d.base = src.base && d.innerStride = src.innerStride && d.outerStride = src.outerStride &&
          d.inner = src.inner && d.outer = src.outer && fmtBits d.fmt = fmtBits src.fmt then false
  else decide (d.span.1 < src.span.2) && decide (src.span.1 < d.span.2)

/-! ### Elements -/

/-- Bytes of one 64 × 64 block of the blocked layout (R172). -/
def Desc.tileBytes (d : Desc) : Nat := 512 * fmtBits d.fmt

/-- Place of the 64 × 64 block that holds element (r, i), in the order of R172. -/
def Desc.tile (d : Desc) (r i : Nat) : Nat := r / 64 * cdiv d.inner 64 + i / 64

/-- Byte address of element i of row r, in the row layout of R131 or the blocked layout of R172. -/
def Desc.addr (d : Desc) (r i : Nat) : Nat :=
  if d.blocked then d.base + d.tile r i * d.tileBytes + (r % 64 * 64 + i % 64) * fmtBits d.fmt / 8
  else
    ((d.base : Int) + (r : Int) * d.outerStride +
      (if fmtBits d.fmt = 4 then ((i / 2 : Nat) : Int) else (i : Int) * d.innerStride * ((fmtBits d.fmt / 8 : Nat) : Int))).toNat

/-- Byte address of the scale of block b of row r in the row layout (R131). -/
def Desc.scaleAddr (d : Desc) (r b : Nat) : Nat := ((d.scaleBase : Int) + (r : Int) * d.scaleStep + (b : Int)).toNat

/-- Byte address of the scale of element (r, i) (R131, R172).  In the blocked layout each 64 × 64 block owns its scale
bytes line by line along the scale axis; with BLK 128 the first block of a pair owns one byte per line and the second
none.
DEDUCED: log entry 24. -/
def Desc.scaleAt (d : Desc) (r i : Nat) : Nat :=
  if d.blocked then
    let n := d.blkN
    let line := if d.saxis then i % 64 else r % 64
    let along := if d.saxis then r % 64 else i % 64
    if n ≤ 64 then d.scaleBase + d.tile r i * (4096 / n) + line * (64 / n) + along / n
    else
      let firsts := if d.saxis then r / 128 * cdiv d.inner 64 + i / 64 else r / 64 * cdiv (cdiv d.inner 64) 2 + i / 128
      d.scaleBase + firsts * 64 + line
  else d.scaleAddr r (i / d.blkN)

/-- Raw bits of an element. -/
def State.rawElem (s : State) (c : Nat) (d : Desc) (r i : Nat) : Nat :=
  let n := fmtBits d.fmt
  if n = 4 then
    let b := leNat (s.rdOp c d.dev (d.addr r i) 1)
    if i % 2 = 0 then b % 16 else b / 16
  else leNat (s.rdOp c d.dev (d.addr r i) (n / 8))

/-- Scale byte of an element; 127 where the stream is unscaled. -/
def State.scaleOf (s : State) (c : Nat) (d : Desc) (r i : Nat) : Nat :=
  if d.sc then leNat (s.rdOp c d.dev (d.scaleAt r i) 1) else 127

/-- An element as a number, exactly (R127, R130). -/
def State.elemX (s : State) (c : Nat) (d : Desc) (r i : Nat) : Fv :=
  let x := decElem d.fmt (s.rawElem c d r i)
  if d.sc then scaled (s.scaleOf c d r i) x else x

/-- An element decoded to FP32 (R187, R555). -/
def State.elem (s : State) (c : Nat) (d : Desc) (r i : Nat) : Fv := (s.elemX c d r i).to32

/-- Positions of a stream, row by row. -/
def Desc.pos (d : Desc) : List (Nat × Nat) :=
  (List.range d.outer).flatMap (fun r => (List.range d.inner).map (fun i => (r, i)))

/-- The elements of a row decoded to FP32. -/
def State.rowOf (s : State) (c : Nat) (d : Desc) (r : Nat) : List Fv := (List.range d.inner).map (fun i => s.elem c d r i)

/-- The elements of a stream decoded to FP32, row by row. -/
def State.streamOf (s : State) (c : Nat) (d : Desc) : List Fv := (List.range d.outer).flatMap (fun r => s.rowOf c d r)

/-- Raw bits written at an element. -/
def State.wrElem (s : State) (c : Nat) (d : Desc) (r i w : Nat) : State :=
  let n := fmtBits d.fmt
  let a := d.addr r i
  if n = 4 then
    let b := leNat (s.rdOp c d.dev a 1)
    s.wrOp c d.dev a (leBytes 1 (if i % 2 = 0 then setBits b 3 0 w else setBits b 7 4 w))
  else s.wrOp c d.dev a (leBytes (n / 8) w)

/-- Values written to a wide stream, rounded once by RNE, from position list on. -/
def State.wrWideAt (s : State) (c : Nat) (d : Desc) (ps : List (Nat × Nat)) (vs : List Fv) : State :=
  match ps, vs with
  | (r, i) :: ps, v :: vs => (s.wrElem c d r i (encWide d.fmt none v)).wrWideAt c d ps vs
  | _, _ => s

/-- Values written to a whole FP32 or BF16 stream; each value is an FP32 result (R190). -/
def State.wrWide (s : State) (c : Nat) (d : Desc) (vs : List Fv) : State := s.wrWideAt c d d.pos vs

/-! ### The quantiser (R128, R132 to R136) -/

/-- Bits of an element rounded to a narrow format and saturated (R133, R134). -/
def quantElem (f : Nat) (m : Option Nat) (v : Rat) : Nat :=
  if f = 2 || f = 5 then
    let e : Nat := if f = 2 then 7 else 127
    let n := if (e : Rat) ≤ rabs v then e else min (rndNat m (rabs v)) e
    unsgn (fmtBits f) (if v < 0 then -(n : Int) else n)
  else
    let k := if fmtEmax f ≤ rabs v then fmtMaxCode f else min (encMag (fmtMant f).1 (fmtMant f).2 m (rabs v)) (fmtMaxCode f)
    if k = 0 then 0 else if v < 0 then 2 ^ (fmtBits f - 1) + k else k

/-- Smallest scale byte from lo to hi that holds amax, hi where none does (R132). -/
def scaleFor (f lo hi : Nat) (amax : Rat) : Nat :=
  if amax = 0 then lo
  else
    let e := fmtEmax f
    -- 2^(S−127) ≥ amax / EMAX
    let q := amax / e
    let l := flog2 q
    let l := if pow2 l = q then l else l + 1
    (clampI lo hi (l + 127)).toNat

/-- Largest magnitude among the finite elements. -/
def amaxOf (l : List Fv) : Rat := l.foldl (fun m x => let r := rabs x.rat; if m < r then r else m) 0

/-- Element bits at a scale. -/
def quantAt (f S : Nat) (ds : List (Option Nat)) (l : List Fv) : List Nat :=
  (List.zip l ds).map (fun x => quantElem f x.2 (x.1.rat * pow2 (127 - (S : Int))))

/-- What the block table of R135 says of a block: 0 nothing, 1 zero, 2 underflow, 3 clamped, 4 non-finite. -/
def blockKind (f lo hi : Nat) (ds : List (Option Nat)) (l : List Fv) : Nat :=
  if l.any (fun x => !x.fin) then 4
  else
    let a := amaxOf l
    if a = 0 then 1
    else if (quantAt f lo ds l).all (fun k => k == 0) then 2
    else if fmtEmax f * pow2 ((hi : Int) - 127) < a then 3
    else 0

/-- A block quantised: scale byte, element bits, and what it counts as.  ds are the draws of its elements. -/
def quantBlock (f lo hi : Nat) (ds : List (Option Nat)) (l : List Fv) : Nat × List Nat × Nat :=
  let k := blockKind f lo hi ds l
  let z := l.map (fun _ => 0)
  if k = 4 then (255, z, 4)
  else if k = 1 || k = 2 then (0, z, k)
  else
    let S := scaleFor f lo hi (amaxOf l)
    (S, quantAt f S ds l, k)

/-- A block written at a scale shared with other blocks (R234). -/
def quantShared (f lo hi : Nat) (S : Nat) (spanAmax : Rat) (spanUnder : Bool) (ds : List (Option Nat)) (l : List Fv) :
    Nat × List Nat × Nat :=
  let k := blockKind f lo hi ds l
  let z := l.map (fun _ => 0)
  if k = 4 then (255, z, 4)
  else if spanAmax = 0 || spanUnder then (0, z, k)
  else (S, quantAt f S ds l, k)

/-- An unscaled narrow element (R134): bits, and whether a non-finite element was written to INT8. -/
def quantPlain (f : Nat) (m : Option Nat) (x : Fv) : Nat × Bool :=
  match x with
  | .num v _ => (quantElem f m v, false)
  | .nan => if f = 5 then (0, true) else if f = 3 then (0x7F, false) else (0x7E, false)
  | .inf n => if f = 5 then (0, true) else ((if n then 128 else 0) + (if f = 3 then 126 else 0x7C), false)

/-- Rows cut into lists of n. -/
def chunks {α : Type} (n fuel : Nat) (l : List α) : List (List α) :=
  match fuel with
  | 0 => []
  | k + 1 => if l.isEmpty then [] else l.take n :: chunks n k (l.drop n)

/-- Block counts of a tensor tag in the step (R136). -/
def State.tagCount (s : State) (c tag kind n : Nat) : State :=
  let s := s.modPart (s.owner c) (fun p =>
    let t := tget p.tags tag TagCount.reset
    { p with tags := tset p.tags tag { t with
        total := t.total + n
        zero := t.zero + (if kind == 1 then n else 0), under := t.under + (if kind == 2 then n else 0)
        clamp := t.clamp + (if kind == 3 then n else 0), nonfin := t.nonfin + (if kind == 4 then n else 0) } TagCount.reset })
  let q := [(2, tag / 16)]
  match kind with
  | 1 => s.count c Ev.qntZeroBlocks n q
  | 2 => s.count c Ev.qntUnderflowBlocks n q
  | 3 => s.count c Ev.qntClampedBlocks n q
  | 4 => s.count c Ev.qntNonfiniteBlocks n q
  | _ => s

/-- Position of element k of a line along the scale axis: a row, or a column under SAXIS (R204). -/
def Desc.linePos (d : Desc) (line k : Nat) : Nat × Nat := if d.saxis then (k, line) else (line, k)

/-- Write of a block: its scale byte and its element bits. -/
def State.wrBlock (s : State) (c : Nat) (d : Desc) (line b : Nat) (blk : Nat × List Nat × Nat) : State :=
  let p0 := d.linePos line (b * d.blkN)
  let s := s.wrOp c d.dev (d.scaleAt p0.1 p0.2) (leBytes 1 blk.1)
  (List.zip (List.range blk.2.1.length) blk.2.1).foldl (fun s x =>
    let p := d.linePos line (b * d.blkN + x.1)
    s.wrElem c d p.1 p.2 x.2) s

/-- One line along the scale axis written to a narrow stream or matrix under a tag.  share asks for one scale per 512 elements (R234); ds are the draws
of the row's elements. -/
def State.wrNarrowRow (s : State) (c : Nat) (d : Desc) (tag : Nat) (share : Bool) (r : Nat) (vs : List Fv)
    (ds : List (Option Nat)) : State :=
  let (lo, hi) := s.scaleWin (s.owner c) tag
  if d.sc then
    let n := d.blkN
    let cut := chunks n vs.length (List.zip vs ds)
    (List.zip (List.range cut.length) cut).foldl (fun s x =>
      let l := x.2.map (·.1)
      let u := x.2.map (·.2)
      let blk :=
        if share then
          let st := x.1 * n / 512 * 512
          let span := (vs.drop st).take 512
          let fin := span.filter (fun y => y.fin)
          let a := amaxOf fin
          let sp := (List.zip vs ds |>.drop st |>.take 512).filter (fun y => y.1.fin)
          let under := a != 0 && (quantAt d.fmt lo (sp.map (·.2)) (sp.map (·.1))).all (fun k => k == 0)
          quantShared d.fmt lo hi (scaleFor d.fmt lo hi a) a under u l
        else quantBlock d.fmt lo hi u l
      (s.wrBlock c d r x.1 blk).tagCount c tag blk.2.2 1) s
  else
    (List.zip (List.range vs.length) (List.zip vs ds)).foldl (fun s x =>
      let q := quantPlain d.fmt x.2.2 x.2.1
      let s := s.wrElem c d (d.linePos r x.1).1 (d.linePos r x.1).2 q.1
      if q.2 then s.count c Ev.qntNonfiniteElements 1 [(2, tag / 16)] else s) s

/-- Whether a format is narrow (R234). -/
def narrow (f : Nat) : Bool := 1 ≤ f && f ≤ 5

/-- Whether a format is FP32 or BF16. -/
def wide (f : Nat) : Bool := f == 6 || f == 7

/-- Bytes of a stream in stream order as stored, for DIGEST and the message paths: each row's element bytes, then
nothing else. -/
def State.rawRow (s : State) (c : Nat) (d : Desc) (r : Nat) : List Byte :=
  if fmtBits d.fmt = 4 then (List.range d.rowBytes).flatMap (fun i => s.rdOp c d.dev (d.addr r (2 * i)) 1)
  else (List.range d.inner).flatMap (fun i => s.rdOp c d.dev (d.addr r i) (fmtBits d.fmt / 8))

/-- A tally entry as a number. -/
def Cell.entry32 (cl : Cell) (e : Nat) : Fv := dec32 (tget cl.tally e 0).toNat

/-- A commit into a tally entry: the exact sum rounded once by SR with draw u, the special cases of R148 by IEEE 754
addition without a draw.  Answers the bits, whether it overflowed, and whether it drew. -/
def commit32 (old x : Fv) (u : Nat) : Nat × Bool × Bool :=
  let y := old.add x
  match y with
  | .num v _ => if fmtEmax fFP32 < rabs v then (enc32 (.inf y.neg), true, false) else (encWide fFP32 (some u) y, false, true)
  | _ => (enc32 y, false, false)

/-- An exact value is committed into tally entry e of a cell, with draw ix of a stream (R147, R148). -/
def State.tallyCommit (s : State) (c e : Nat) (x : Fv) (stream mb ix : Nat) : State :=
  let u := s.draw (s.owner c) stream mb ix
  let (w, ov, dr) := commit32 ((s.cell c).entry32 e) x u
  let s := s.modCell c (fun cl => { cl with tally := tset cl.tally e (BitVec.ofNat 32 w) 0 })
  let s := s.count c Ev.tallySrCommits 1
  let s := if ov then s.count c Ev.tallyOverflow 1 else s
  if dr then s.count c Ev.diceDraws 1 else s

/-- Tally entry of element i under E0 and ESTRIDE (R198). -/
def ParamBlk.entry (p : ParamBlk) (i : Nat) : Nat := p.e0 + i * p.estride

end Sys2Proof.Machine
end

