-- ==== Sys2Proof/Machine/Fallback.lean ====
section
/-! DEFINITION. Machine/Fallback: the policy engine's judgement of the layers at a step boundary (R156 to R161) and the
fallback pool. -/

namespace Sys2Proof.Machine

/-- The layers a partition has precision records for, ascending. -/
def State.layersOf (s : State) (p : Nat) : List Nat :=
  (s.recs.filter (fun e => decide (e.1 / 2 ^ 32 = p) && (e.1 / 65536) % 65536 == Ty.layerPrecision)).map (fun e => e.1 % 65536)

/-- What the policy engine keeps of a layer. -/
def State.layer (s : State) (p l : Nat) : LayerSt := tget (s.part p).layers l LayerSt.reset

/-- What the policy engine keeps of a layer changed. -/
def State.modLayer (s : State) (p l : Nat) (f : LayerSt → LayerSt) : State :=
  s.modPart p (fun q => { q with layers := tset q.layers l (f (tget q.layers l LayerSt.reset)) LayerSt.reset })

/-! ### The pool (R157) -/

/-- The lowest offset at which n bytes stand clear of what is used, in a pool of len bytes.
DEDUCED: log entry 25. -/
def poolPlace (used : List (Nat × Nat)) (n len : Nat) : Option Nat :=
  let free (o : Nat) := decide (o + n ≤ len) && used.all (fun u => decide (o + n ≤ u.1) || decide (u.1 + u.2 ≤ o))
  ((0 :: used.map (fun u => u.1 + u.2)).filter free).min?

/-- Pool bytes of a layer's slots at a level; none at FMT_FLOOR. -/
def State.poolNeed (s : State) (p l level : Nat) : Nat :=
  let r := s.rcd p Ty.layerPrecision l
  if level = r.fld 1 1 then 0 else slotPool r level 16

/-- A layer put at a level, its slots placed in the pool; none when the pool cannot hold them. -/
def State.placeLayer (s : State) (p l level : Nat) : Option State :=
  let n := s.poolNeed p l level
  let used := ((s.part p).layers.filter (fun e => e.1 != l && e.2.poolLen != 0)).map (fun e => (e.2.poolOff, e.2.poolLen))
  let put (o : Nat) : State :=
    (s.setFld p Ty.layerPrecision l 0 1 level).modLayer p l (fun y => { y with poolOff := o, poolLen := n })
  if n = 0 then some (put 0) else (poolPlace used n (s.mode p 16 8)).map put

/-! ### The triggers (R156) -/

/-- Whether a layer is triggered by what the step has counted so far. -/
def State.triggered (s : State) (p l : Nat) : Bool :=
  let f (o n : Nat) := s.fld p Ty.layerPrecision l o n
  let y := s.layer p l
  (List.range 16).any (fun k =>
    let t := tget (s.part p).tags (l * 16 + k) TagCount.reset
    (f 6 2 != 0 && decide (t.total * f 6 2 < t.under * 65536)) || (f 8 2 != 0 && decide (t.total * f 8 2 < t.clamp * 65536)) ||
      (f 5 1 == 1 && decide (0 < t.nonfin))) ||
  (f 10 2 != 0 && s.mode p 2 1 == 0 && decide (0 < y.resN) && decide (mkRat (f 10 2) 256 < y.resS / y.resN))

/-- The layers below their ceiling raised by one level, all or none. -/
def State.raiseAll (s : State) (p : Nat) (ls : List Nat) : Option State :=
  ls.foldl (fun t l => t.bind (fun s =>
    let v := s.fld p Ty.layerPrecision l 0 1
    if v < s.fld p Ty.layerPrecision l 2 1 then s.placeLayer p l (v + 1) else some s)) (some s)

/-- Whether every layer of the partition is triggered in the step (R159). -/
def State.allTriggered (s : State) (p : Nat) : Bool :=
  !(s.layersOf p).isEmpty && (s.layersOf p).all (fun l => s.triggered p l)

/-- Whether a global fallback would find the pool exhausted (R159). -/
def State.poolExhausted (s : State) (p : Nat) : Bool := s.allTriggered p && (s.raiseAll p (s.layersOf p)).isNone

/-! ### The judgement (R157 to R160) -/

/-- A triggered layer is raised, stays at its ceiling, or is refused. -/
def State.raiseLayer (s : State) (p l : Nat) : State :=
  let v := s.fld p Ty.layerPrecision l 0 1
  if s.fld p Ty.layerPrecision l 2 1 ≤ v then s.pcount p PEv.fallbackAtCeil 1
  else match s.placeLayer p l (v + 1) with
    | some t => t.pcount p PEv.fallbackLayer 1
    | none => ((s.pcount p PEv.fallbackRefused 1).logP 0 p Db.fallback l [0]).event p 8 0 l 0

/-- One more step since a layer's last return. -/
def LayerSt.aged (y : LayerSt) : LayerSt := { y with back := if y.back = 0 then 0 else min (y.back + 1) 100 }

/-- A layer triggered within 16 steps of a return stays up from then on (R158). -/
def LayerSt.retriggered (y : LayerSt) : LayerSt := { y with quiet := 0, stuck := y.stuck || (y.back != 0 && decide (y.back ≤ 16)) }

/-- A layer without a trigger: its quiet steps count, and it returns when they suffice (R158). -/
def State.quietLayer (s : State) (p l : Nat) : State :=
  let r := s.rcd p Ty.layerPrecision l
  let v := r.fld 0 1
  let s := s.modLayer p l LayerSt.aged
  let y := s.layer p l
  if v ≤ r.fld 1 1 then s
  else
    let n := y.quiet + 1
    if r.fld 12 2 != 0 && r.fld 12 2 ≤ n && !y.stuck then
      match s.placeLayer p l (v - 1) with
      | some t => (t.modLayer p l (fun y => { y with quiet := 0, back := 1 })).pcount p PEv.fallbackReturn 1
      | none => s
    else s.modLayer p l (fun y => { y with quiet := n })

/-- The judgement of a closing TRAIN step: global fallback, or layer by layer; a layer whose record the host committed in
the step keeps what the host gave it (R160).
DEDUCED: log entry 60. -/
def State.judge (s : State) (p : Nat) : State :=
  let ls := s.layersOf p
  let trig := ls.filter (fun l => s.triggered p l)
  let free := ls.filter (fun l => !(s.layer p l).committed)
  let global := s.allTriggered p
  let s := (ls.filter (fun l => !free.contains l)).foldl (fun s l => s.modLayer p l LayerSt.aged) s
  let s := (trig.filter free.contains).foldl (fun s l => s.modLayer p l (fun y => y.retriggered.aged)) s
  let s :=
    if global then
      let s := ((s.pcount p PEv.fallbackGlobal 1).logP 0 p Db.fallback 0xFFFF [1]).event p 8 0 0xFFFF 0
      match s.raiseAll p free with
      | none => if (s.part p).poolSkip then s else s.pcount p PEv.fallbackSkip 1
      | some t =>
        free.foldl (fun t l =>
          if s.fld p Ty.layerPrecision l 2 1 ≤ s.fld p Ty.layerPrecision l 0 1 then t.pcount p PEv.fallbackAtCeil 1
          else t.pcount p PEv.fallbackLayer 1) t
    else (trig.filter free.contains).foldl (fun s l => s.raiseLayer p l) s
  let s := (free.filter (fun l => !trig.contains l)).foldl (fun s l => s.quietLayer p l) s
  let s := ls.foldl (fun s l => s.modLayer p l (fun y => { y with resS := 0, resN := 0, committed := false })) s
  s.modPart p (fun q => { q with tags := [], poolSkip := false })

/-- The residuals of a read enter its layer's sum (R156): the layer is that of the tag of the source the program names.
DEDUCED: log entry 60. -/
def State.layerResid (s : State) (p tag : Nat) (sigma : Rat) (rs : List (Nat × Option Rat)) (div : Nat → Nat) : State :=
  let l := tag / 16
  if !s.hasRec p Ty.layerPrecision l || sigma = 0 then s
  else
    let ns := rs.filterMap (fun e => e.2.map (fun v => (v / sigma) * (v / sigma) / ((div e.1 ^ 2 + 128 : Nat) : Rat)))
    s.modLayer p l (fun y => { y with resS := y.resS + ns.sum, resN := y.resN + ns.length })

end Sys2Proof.Machine
end

