-- ==== Sys2Proof/Machine/Isa.lean ====
section
/-! DEFINITION. Machine/Isa: the instruction word (R46, R47, R202, R208, R209), the issue of an instruction (R29 to
R33), its retirement and the program counter (R45, R64, R212). -/

namespace Sys2Proof.Machine

/-- The instructions of the opcode map (R208). -/
inductive Op where
  | nop | stop | br | loop | wait | signal | fence | barrier
  | lds | sts | copy | gather | scatter | send | recv
  | amv | amvt | aread | aprog | aswap | acal
  | dmm | dconv
  | qrot | qnt | dqnt
  | vadd | vmul | vfma | vcmp | vsel | vmin | vmax
  | acc | accrd
  | cred | cbcast | cnorm | cfin
  | topk
  | tack | tcommit
  | drill | digest
  deriving DecidableEq, Repr

/-- The opcodes of a class, from OP 0x00 on (R208). -/
def classOps (cls : Nat) : List Op :=
  match cls with
  | 0 => [.nop, .stop, .br, .loop, .wait, .signal, .fence, .barrier]
  | 1 => [.lds, .sts, .copy, .gather, .scatter, .send, .recv]
  | 2 => [.amv, .amvt, .aread, .aprog, .aswap, .acal]
  | 3 => [.dmm, .dconv]
  | 4 => [.qrot, .qnt, .dqnt]
  | 5 => [.vadd, .vmul, .vfma, .vcmp, .vsel, .vmin, .vmax]
  | 6 => [.acc, .accrd]
  | 7 => [.cred, .cbcast, .cnorm, .cfin]
  | 8 => [.topk]
  | 9 => [.tack, .tcommit]
  | 10 => [.drill, .digest]
  | _ => []

/-- MOD bits an instruction defines (R208). -/
def Op.modMask (o : Op) : Nat :=
  match o with
  | .br => 1 | .wait => 1 | .signal => 3 | .fence => 1 | .barrier => 3 | .scatter => 1 | .send => 1 | .recv => 1
  | .amv => 15 | .amvt => 15 | .aread => 1 | .aprog => 3 | .acal => 1
  | .dmm => 0x7F | .dconv => 0x7E | .qrot => 1 | .qnt => 7 | .dqnt => 4
  | .vadd => 1 | .vmul => 1 | .vfma => 1 | .vcmp => 1 | .vsel => 1 | .vmin => 1 | .vmax => 1
  | .accrd => 1 | .cred => 1 | .topk => 0xB | .digest => 3
  | _ => 0

/-- The unit of a class: movement 0, array 1, matrix 2, quantise 3, vector 4, tally 5, collective 6, integrity 7,
sequencer 8 (R30, R210). -/
def classUnit (cls : Nat) : Nat :=
  match cls with
  | 1 => 0 | 2 => 1 | 3 => 2 | 4 => 3 | 5 => 4 | 6 => 5 | 7 => 6 | 8 => 1 | 10 => 7 | _ => 8

/-- Class and opcode of a word. -/
def wordOp (w : Nat) : Option Op := (classOps (bits w 123 120))[bits w 119 112]?

/-- MOD byte of a word. -/
def wordMod (w : Nat) : Nat := bits w 111 104

/-- COMP field of a word (R35). -/
def wordComp (w : Nat) : Nat := bits w 103 100

/-- Unit of a word. -/
def wordUnit (w : Nat) : Nat := classUnit (bits w 123 120)

/-- Causes in the common fields of a word, in the codes of R47: 1 VERSION to 6 OPERAND. -/
def commonIll (w : Nat) : List Nat :=
  (if bits w 127 124 != 1 then [1] else []) ++
  (if 10 < bits w 123 120 then [2] else []) ++
  (match wordOp w with
   | none => if 10 < bits w 123 120 then [] else [3]
   | some o => if wordMod w &&& (255 - o.modMask) != 0 then [4] else []) ++
  (if bits w 99 96 != 0 then [4] else [])

/-- The bits that fields [hi:lo] cover. -/
def fieldMask (l : List (Nat × Nat)) : Nat := l.foldl (fun m f => m ||| (2 ^ (f.1 + 1) - 2 ^ f.2)) 0

/-- RESERVED where a bit of [95:0] outside the defined fields is set (R46). -/
def rsvIll (w : Nat) (l : List (Nat × Nat)) : List Nat :=
  if (w % 2 ^ 96) &&& (2 ^ 96 - 1 - fieldMask l) != 0 then [4] else []

/-- A cause under a condition. -/
def cz (b : Bool) (k : Nat) : List Nat := if b then [k] else []

/-- An address fault under a condition. -/
def fz (b : Bool) (code cause : Nat) : List (Nat × Nat) := if b then [(code, cause)] else []

/-- What issue learns of a word and of the structures it names: illegal causes, precise faults, descriptors, whether it
is a zero count, and the cell-local ranges it reads and writes. -/
structure Iss where
  ill : List Nat
  flt : List (Nat × Nat)
  a : Desc
  b : Desc
  c : Desc
  d : Desc
  f : Desc
  par : ParamBlk
  zero : Bool
  rd : List (Nat × Nat)
  wr : List (Nat × Nat)
  deriving DecidableEq, Repr

/-- Nothing learnt yet. -/
def Iss.none : Iss :=
  { ill := [], flt := [], a := Desc.reset, b := Desc.reset, c := Desc.reset, d := Desc.reset, f := Desc.reset,
    par := ParamBlk.reset, zero := false, rd := [], wr := [] }

/-- First cause in the order of R47. -/
def Iss.cause (i : Iss) : Option Nat := i.ill.min?

/-! ### The sequencer -/

/-- Whether a cell's sequencer may issue: RUNNING in a region that is ON, not halted, draining or waiting, and not
stalled by an overcurrent or a power-fail hold (R27, R54, R57, R252, R392). -/
def State.issuing (s : State) (c : Nat) : Bool :=
  let cl := s.cell c
  cl.st == 2 && !cl.halt && cl.draining == 0 && (cl.wait.kind == 0 || cl.wait.kind == 5) && s.regionOn c && !s.pow.overcur &&
    !s.pow.hold && !cl.startPend

/-- The word a cell's sequencer stands at, if it may issue one and its instruction is o.
DEDUCED: log entry 6. -/
def State.atOp (s : State) (c : Nat) (o : Op) : Option Nat :=
  if s.issuing c then
    let w := (s.cell c).word.toNat
    if wordOp w == some o then some w else none
  else none

/-- The word after pc, and the loop stack: the back edge of the innermost loop that ends at pc, or the next word; a
loop whose count is used up is popped (R45, R212). -/
def nextWord (pc : Nat) (ls : List LoopLvl) : Nat × List LoopLvl :=
  match ls with
  | [] => ((pc + 1) % 4096, [])
  | l :: r =>
    if pc = l.stop then
      if 1 < l.left then (l.start, { l with left := l.left - 1 } :: r) else nextWord pc r
    else ((pc + 1) % 4096, l :: r)

/-- The cell after the word at its program counter. -/
def Cell.advance (cl : Cell) : Cell :=
  { cl with pc := (nextWord cl.pc cl.loops).1, loops := (nextWord cl.pc cl.loops).2 }

/-- Sampling of a fetched instruction (R510): whether it is tagged, counted in the cell.
DEDUCED: log entry 96.
DESIGN CHOICE: log entry 99. -/
def State.sampleTag (s : State) (c : Nat) : State × Bool :=
  let cl := s.cell c
  let k := leNat (tgets (s.part (s.owner c)).selImg 386 1 0)
  if k = 0 then (s, false)
  else
    let hit := Config.tagDraw (pidOf (s.reg c)) cl.loadAt cl.fetches % 2 ^ k == 0
    let s := s.modCell c (fun cl => { cl with fetches := cl.fetches + 1 })
    if !hit then (s, false)
    else if cl.tagOpen then (s.count c Ev.tagSkipped 1, false)
    else
      ((s.modCell c (fun cl => { cl with
          tagOpen := true, tagAt := s.time, tagWord := cl.word, tagPc := cl.pc, tagWait := cl.wait.kind, tagStatus := 255
          tagStep := (s.part (s.owner c)).trainStep
          tagT := (0xFFFFFFFF, 0xFFFFFFFF, 0xFFFFFFFF, 0xFFFFFFFF) })).count c Ev.tagSelected 1, true)

/-- The done flag of the tagged instruction counts, where hit says that it is the one (R207, R511). -/
def Cell.tagDone (cl : Cell) (hit : Bool) (now : Nat) : Cell :=
  if cl.tagOpen && hit then { cl with tagT := (cl.tagT.1, cl.tagT.2.1, cl.tagT.2.2.1, now - cl.tagAt) } else cl

/-- A latency enters the histograms of its partition that select its measure and filter (R513). -/
def State.latency (s : State) (p measure filt ns : Nat) : State :=
  let sel := (s.part p).selImg
  (List.range 8).foldl (fun s h =>
    let v := leNat (tgets sel (416 + 2 * h) 2 0)
    if v % 256 = measure && (v / 256 = filt || measure == 2 || measure == 4 || measure == 5 || measure == 6 || measure == 8) then
      let b := if ns < 2 then 0 else min (Nat.log2 ns) 31
      s.modPart p (fun q => { q with hist := bump q.hist (h * 32 + b) 1 })
    else s) s

/-- An instruction has retired: heartbeat, counters, COMP and the unit's status (R35, R64, R206).  u is the status
index: 0 the sequencer, 1 + unit otherwise. -/
def State.retired (s : State) (c u status comp : Nat) : State :=
  let s := s.modCell c (fun cl => { cl with
    heartbeat := (cl.heartbeat + 1) % 2 ^ 64
    unitStatus := tset cl.unitStatus u status 15 })
  let s := s.count c Ev.instrRetired 1
  let s := if status = 1 then s.count c Ev.zeroWork 1 else s
  s.addFlag c comp 1

/-- A control or configuration instruction retires: the program counter moves on (R31). -/
def State.retire (s : State) (c status : Nat) : State :=
  let w := (s.cell c).word.toNat
  let (s, t) := s.sampleTag c
  let s := if t then s.modCell c (fun cl => { cl with tagStatus := status, tagT := (s.time - cl.tagAt, 0xFFFFFFFF, s.time - cl.tagAt, 0xFFFFFFFF) }) else s
  let s := s.modCell c (fun cl => { cl with wait := Wait.reset }.advance)
  s.retired c 0 status (wordComp w)

/-- A wait of the sequencer begins (R65). -/
def State.hold (s : State) (c : Nat) (w : Wait) : State :=
  s.modCell c (fun cl => { cl with wait := { w with start := s.time } })

/-- Whether the scoreboard lets an instruction issue: no read meets a write in flight, no write meets a read or write in
flight, and at most 32 ranges are held (R33, R221). -/
def Cell.clear (cl : Cell) (rd wr : List (Nat × Nat)) : Bool :=
  let fr := cl.flight.flatMap (fun f => f.rd)
  let fw := cl.flight.flatMap (fun f => f.wr) ++ cl.recvs.flatMap (fun m => m.rng)
  let fr := fr ++ cl.sends.flatMap (fun m => m.rng)
  rd.all (fun x => fw.all (fun y => !rngMeet x y)) &&
    wr.all (fun x => (fw ++ fr).all (fun y => !rngMeet x y)) &&
    (decide (fr.length + fw.length + rd.length + wr.length ≤ 32) || (rd.isEmpty && wr.isEmpty))

/-- Entries a unit's queue holds. -/
def Cell.queued (cl : Cell) (u : Nat) : Nat := (cl.flight.filter (fun f => f.unit == u)).length

/-- An instruction enters its unit's queue with its status, and the program counter moves on (R29, R33, R206). -/
def State.enter (s : State) (c w : Nat) (i : Iss) : State :=
  let cl := s.cell c
  let (s, t) := s.sampleTag c
  let s := if t then s.modCell c (fun cl => { cl with tagT := (s.time - cl.tagAt, s.time - cl.tagAt, 0xFFFFFFFF, 0xFFFFFFFF) }) else s
  let fl : Flight := { Flight.reset with
    unit := wordUnit w, word := cl.word, pc := cl.pc, status := if i.zero then 1 else 0, src := i.a, dst := i.d, par := i.par
    rd := if i.zero then [] else i.rd, wr := if i.zero then [] else i.wr, tag := t, at_ := s.time, key := cl.nextKey }
  s.modCell c (fun cl => { cl with flight := cl.flight ++ [fl], nextKey := cl.nextKey + 1, wait := Wait.reset }.advance)

/-- Whether a legal word without a precise fault is accepted by its unit now: the queue has room, the unit is ready and no hazard
stands (R29, R33, R58). -/
def State.accepts (s : State) (c w : Nat) (i : Iss) (ready : Bool) : Bool :=
  i.cause.isNone && (commonIll w).length == 0 && i.flt.isEmpty && decide ((s.cell c).queued (wordUnit w) < 8) && ready &&
    (s.cell c).clear i.rd i.wr

/-- An instruction for a unit reaches issue (R29, R33, R58).  An illegal word is left to ILLEGAL_INSTRUCTION; a precise
fault is taken; a full queue, a hazard or an unready unit holds issue; else the instruction enters its unit's queue and the effect
eff is performed, unless it does no work (R48).
DEDUCED: log entry 7. -/
def State.issueUnit (s : State) (c : Nat) (w : Nat) (i : Iss) (ready : Bool) (eff : State → State) : State :=
  let u := wordUnit w
  let cl := s.cell c
  if i.cause.isSome || (commonIll w).length != 0 then s
  else match i.flt with
    | (code, cause) :: _ => s.precise c code cause
    | [] =>
      if 8 ≤ cl.queued u then
        if cl.wait.kind = 5 then s
        else (s.hold c { Wait.reset with kind := 5, sel := u }).countEdge c Ev.seqStallQueue
      else if !ready || !cl.clear i.rd i.wr then s.countEdge c Ev.seqStallHazard
      else if i.zero then s.enter c w i else eff (s.enter c w i)

/-- A change of the newest entry in flight of a cell. -/
def Cell.modLast (cl : Cell) (f : Flight → Flight) : Cell :=
  match cl.flight.reverse with
  | [] => cl
  | x :: r => { cl with flight := (f x :: r).reverse }

end Sys2Proof.Machine
end

