-- ==== Sys2Proof/Machine/Control.lean ====
section
/-! DEFINITION. Machine/Control: the control instructions (R35 to R45, R56, R210 to R214), the completion of an
instruction in its unit (R30, R35, R207) and what the sequencer does when units fall idle. -/

namespace Sys2Proof.Machine

/-! ### What the word alone decides -/

/-- Causes of a BR word (R210). -/
def brIll (w : Nat) : List Nat :=
  let k := bits w 83 80
  let flagged := 1 ≤ k && k ≤ 3
  rsvIll w (if flagged then [(95, 84), (83, 80), (79, 76), (75, 44)] else [(95, 84), (83, 80)]) ++
    cz (7 ≤ k) 5 ++ cz (flagged && bits w 79 76 == 0) 6

/-- Causes of a LOOP word (R210, R212). -/
def loopIll (cl : Cell) (w : Nat) : List Nat :=
  let e := bits w 63 52
  rsvIll w [(95, 64), (63, 52)] ++ cz (e ≤ cl.pc || cl.loops.any (fun l => decide (l.stop < e))) 6

/-- Causes of a WAIT word. -/
def waitIll (w : Nat) : List Nat :=
  rsvIll w ([(95, 92), (91, 60)] ++ if bit (wordMod w) 0 then [(59, 44)] else []) ++ cz (bits w 95 92 == 0) 6

/-- Causes of a SIGNAL word. -/
def signalIll (w : Nat) : List Nat :=
  rsvIll w ([(95, 92), (91, 76), (75, 66)] ++ if bit (wordMod w) 1 then [(61, 50)] else []) ++ cz (bits w 95 92 == 0) 6

/-- Causes of a FENCE word. -/
def fenceIll (w : Nat) : List Nat := rsvIll w [(95, 88), (87, 86)] ++ cz (bits w 87 86 == 3) 5

/-- Group a BARRIER word names. -/
def barrierGroup (w : Nat) : Nat := if bit (wordMod w) 0 then bits w 95 84 else bits w 87 84

/-- Causes of a BARRIER word (R210, R214). -/
def barrierIll (w : Nat) : List Nat :=
  rsvIll w (if bit (wordMod w) 0 then [(95, 84)] else [(87, 84)]) ++
    cz (bit (wordMod w) 1 && (bit (wordMod w) 0 || barrierGroup w != 0)) 5

/-- Causes found in a control word. -/
def controlIll (cl : Cell) (o : Op) (w : Nat) : List Nat :=
  match o with
  | .nop => rsvIll w []
  | .stop => rsvIll w []
  | .br => brIll w
  | .loop => loopIll cl w
  | .wait => waitIll w
  | .signal => signalIll w
  | .fence => fenceIll w
  | .barrier => barrierIll w
  | _ => []

/-- The word a cell stands at, if it is a legal control instruction o that may issue now.
DEDUCED: log entry 6. -/
def State.atControl (s : State) (c : Nat) (o : Op) : Option Nat :=
  match s.atOp c o with
  | some w => if (commonIll w ++ controlIll (s.cell c) o w).isEmpty then some w else none
  | none => none

/-! ### Groups (R307) -/

/-- Members of a communication group in the record a partition committed: node and logical cell, in rank order. -/
def State.members (s : State) (p g : Nat) : List (Nat × Nat) :=
  if s.hasRec p Ty.group g then
    let r := s.rcd p Ty.group g
    (List.range (r.fld 4 4)).map (fun k => (r.fld (8 + 4 * k) 2, r.fld (10 + 4 * k) 2))
  else []

/-- Rank of a cell of this module in a group, as its partition's record gives it. -/
def State.rankOf (s : State) (p g c : Nat) : Option Nat :=
  (findIdx (fun m => m.1 == s.fab.nodeId && m.2 == c) (s.members p g)).map (·.1)

/-- Whether some group that cell c belongs to also has a member on a node (R39). -/
def State.sharesGroup (s : State) (c node : Nat) : Bool :=
  let p := s.owner c
  s.recs.any (fun e => decide (e.1 / 2 ^ 32 = p) && decide ((e.1 / 65536) % 65536 = Ty.group) &&
    (let ms := s.members p (e.1 % 65536)
     ms.any (fun m => m.1 == s.fab.nodeId && m.2 == c) && ms.any (fun m => m.1 == node)))

/-! ### What waits on the units -/

/-- A SIGNAL is delivered: to a cell of this module at once, else as a message (R39). -/
def State.deliver (s : State) (c w : Nat) : State :=
  let n := bits w 91 76
  if n = 0 then s
  else if bit (wordMod w) 1 && bits w 61 50 != s.fab.nodeId then
    s.send 0x32 (bits w 61 50) [bits w 75 66, bits w 95 92, n, c]
  else s.addFlag (bits w 75 66) (bits w 95 92) n

/-- Whether every remote write of a cell has been acknowledged: no message is on the fabric (R41, SYSTEM).
DEDUCED: log entry 23. -/
def Cell.acked (cl : Cell) : Bool := cl.sends.all (fun m => !m.sent)

/-- Whether the units of a mask have nothing in flight. -/
def Cell.idle (cl : Cell) (mask : Nat) : Bool := cl.flight.all (fun f => !bit mask f.unit)

/-- Members of a communication group as a partition of this module has committed them. -/
def State.groupMembers (s : State) (g : Nat) : List (Nat × Nat) :=
  match s.recs.find? (fun e => (e.1 / 65536) % 65536 == Ty.group && e.1 % 65536 == g) with
  | some e => s.members (e.1 / 2 ^ 32) g
  | none => []

/-- A cell leaves a completed barrier. -/
def State.release (s : State) (c : Nat) : State :=
  let wt := (s.cell c).wait
  (s.latency (s.owner c) 3 (if wt.kind = 3 then 1 else 0) (s.time - wt.start)).retire c 0

/-- This module's cells that wait in the barrier of a communication group leave it (R42). -/
def State.releaseGroup (s : State) (g : Nat) : State :=
  (s.groupMembers g).foldl (fun s m =>
    let wt := (s.cell m.2).wait
    if m.1 = s.fab.nodeId && (s.cell m.2).st == 2 && wt.kind == 3 && wt.group == g && wt.arrived then s.release m.2 else s) s

/-- The barrier of an ACTIVE group whose every member has arrived completes: the root's module tells every member's node
(R307, R308). -/
def State.tryBarrier (s : State) (g : Nat) : State :=
  let gr := s.grp g
  let ms := s.groupMembers g
  match gr.colls.find? (fun k => k.op == 4) with
  | none => s
  | some k =>
    if gr.st = 1 && !ms.isEmpty && (List.range ms.length).all (fun r => k.parts.any (fun p => p.1 == r)) then
      let s := s.modGrp g (fun gr => { gr with colls := gr.colls.filter (fun k => k.op != 4) })
      let nodes := (ms.map (fun m => m.1)).foldl (fun l n => insN n l) []
      let s := (nodes.filter (fun n => n != s.fab.nodeId)).foldl (fun s n => s.send 0x41 n [g]) s
      s.releaseGroup g
    else s

/-- A member's arrival reaches the root's module. -/
def State.arriveAt (s : State) (g r : Nat) : State :=
  (s.modGrp g (fun gr =>
    match findIdx (fun k => k.op == 4) gr.colls with
    | some (i, k) =>
      if k.parts.any (fun p => p.1 == r) then gr else { gr with colls := gr.colls.set i { k with parts := k.parts ++ [(r, [])] } }
    | none => { gr with colls := gr.colls ++ [{ CollSt.reset with op := 4, parts := [(r, [])], epoch := s.fab.epoch, at_ := s.time }] })).tryBarrier g

/-- A barrier's arrival: the fence it implies is satisfied (R42).  The arrivals of a communication group go to the module
of its rank 0. -/
def State.arrive (s : State) (c : Nat) : State :=
  let cl := s.cell c
  let s := s.modCell c (fun cl => { cl with wait := { cl.wait with arrived := true } })
  if cl.wait.kind = 3 then
    match s.rankOf (s.owner c) cl.wait.group c, (s.members (s.owner c) cl.wait.group)[0]? with
    | some r, some m => if m.1 = s.fab.nodeId then s.arriveAt cl.wait.group r else s.send 0x40 m.1 [cl.wait.group, r]
    | _, _ => s
  else s

/-- The cell's sequencer looks again at what it waits for: a FENCE, a held SIGNAL, a barrier's fence, a stop that drains
(R40 to R42, R56). -/
def State.settleCell (s : State) (c : Nat) : State :=
  let cl := s.cell c
  if cl.draining = 1 || cl.draining = 2 then
    if cl.flight.isEmpty then
      let s := s.modCell c (fun cl => { cl with st := 3, stopHost := cl.draining == 2, draining := 0, wait := Wait.reset, hostStopBy := [] })
      cl.hostStopBy.foldl (fun s t => s.settle (s.owner c) t 0 0) s
    else s
  else if cl.st != 2 || cl.halt then s
  else if cl.wait.kind = 4 && cl.idle cl.wait.mask && (cl.wait.sel != 2 || cl.acked) then
    let s := if bit (wordMod cl.word.toNat) 0 then s.modCell c (fun cl => { cl with fbuf := cl.ibuf }) else s
    s.retire c 0
  else if cl.wait.kind = 8 && cl.idle 0x41 then (s.deliver c cl.word.toNat).retire c 0
  else if (cl.wait.kind = 2 || cl.wait.kind = 3) && !cl.wait.arrived && cl.idle 255 && (cl.wait.kind = 2 || cl.acked) then
    s.arrive c
  else s

/-! ### The instructions -/

/-- NOP (R210). -/
def execNop (c : Cid) (s : State) : Out :=
  match s.atControl c .nop with
  | some _ => .next (s.retire c 0)
  | none => .next s

/-- STOP: issue ends, and the cell is STOPPED once nothing is in flight (R56). -/
def execStop (c : Cid) (s : State) : Out :=
  match s.atControl c .stop with
  | some _ => .next (((s.retire c 0).modCell c (fun cl => if cl.st = 2 then { cl with draining := 1 } else cl)).settleCell c)
  | none => .next s

/-- Whether the condition of a BR holds (R211). -/
def Cell.cond (cl : Cell) (w : Nat) : Bool :=
  let v := tget cl.flags (bits w 79 76) 0
  let i := bits w 75 44
  match bits w 83 80 with
  | 0 => true
  | 1 => v == i
  | 2 => decide (v < i)
  | 3 => decide (i ≤ v)
  | 4 => cl.timedOut
  | 5 => cl.skip
  | _ => cl.rejected

/-- Loop levels kept by a branch: those from the first whose body holds the target on (R212). -/
def keepLoops (t : Nat) (l : List LoopLvl) : List LoopLvl :=
  match l with
  | [] => []
  | x :: r => if x.start ≤ t && t ≤ x.stop then x :: r else keepLoops t r

/-- BR (R211, R212). -/
def execBr (c : Cid) (s : State) : Out :=
  match s.atControl c .br with
  | some w =>
    if (s.cell c).cond w != bit (wordMod w) 0 then
      let loops := keepLoops (bits w 95 84) (s.cell c).loops
      .next ((s.retire c 0).modCell c (fun cl => { cl with pc := bits w 95 84, loops := loops }))
    else .next (s.retire c 0)
  | none => .next s

/-- LOOP: a ninth level faults; a count of 0 skips the body (R45). -/
def execLoop (c : Cid) (s : State) : Out :=
  match s.atControl c .loop with
  | some w =>
    let cl := s.cell c
    let n := bits w 95 64
    let e := bits w 63 52
    if n = 0 then
      -- the word after the body; a back edge of an enclosing level that ends with the body is made there
      .next ((s.retire c 1).modCell c (fun x => { x with pc := (nextWord e cl.loops).1, loops := (nextWord e cl.loops).2 }))
    else if 8 ≤ cl.loops.length then .next (s.precise c Fc.loopDepth 0)
    else .next ((s.retire c 0).modCell c (fun x =>
      { x with pc := (cl.pc + 1) % 4096, loops := { start := (cl.pc + 1) % 4096, stop := e, left := n } :: cl.loops }))
  | none => .next s

/-- A WAIT retires, with the timed-out flag as R211 sets it. -/
def State.waitDone (s : State) (c status : Nat) (timed : Bool) : State :=
  (if timed then s.modCell c (fun cl => { cl with timedOut := status == 2 }) else s).retire c status

/-- A WAIT takes its count and retires (R37). -/
def State.waitTake (s : State) (c k n : Nat) (timed : Bool) : State :=
  (s.modCell c (fun cl => { cl with flags := tset cl.flags k (tget cl.flags k 0 - n) 0 })).waitDone c 0 timed

/-- WAIT: at once for N = 0, for a count already there, or as a poll; else the sequencer holds (R37, R38). -/
def execWait (c : Cid) (s : State) : Out :=
  match s.atControl c .wait with
  | some w =>
    let k := bits w 95 92
    let n := bits w 91 60
    let timed := bit (wordMod w) 0
    if n = 0 then .next (s.waitDone c 1 timed)
    else if n ≤ tget (s.cell c).flags k 0 then .next (s.waitTake c k n timed)
    else if timed && bits w 59 44 == 0 then .next (s.waitDone c 2 timed)
    else .next ((s.hold c { Wait.reset with kind := 1, sel := k, count := n, timed := timed, tmo := bits w 59 44 }).countEdge c Ev.seqWait)
  | none => .next s

/-- Whether a cell's sequencer waits with a kind and may act on it now. -/
def State.waits (s : State) (c kind : Nat) : Bool :=
  let cl := s.cell c
  cl.st == 2 && !cl.halt && cl.draining == 0 && cl.wait.kind == kind && s.regionOn c

/-- WAIT_SATISFIED (R37): the pending WAIT finds its count. -/
def execWaitSatisfied (c : Cid) (s : State) : Out :=
  let wt := (s.cell c).wait
  if s.waits c 1 && wt.count ≤ tget (s.cell c).flags wt.sel 0 then
    .next ((s.latency (s.owner c) 2 0 (s.time - wt.start)).waitTake c wt.sel wt.count wt.timed)
  else .next s

/-- WAIT_TIMEOUT (R38): T has passed and the count is still short. -/
def execWaitTimeout (c : Cid) (s : State) : Out :=
  let wt := (s.cell c).wait
  if s.waits c 1 && wt.timed && tget (s.cell c).flags wt.sel 0 < wt.count && s.passed wt.start (wt.tmo * 1000) then
    .next ((s.latency (s.owner c) 2 0 (s.time - wt.start)).waitDone c 2 true)
  else .next s

/-- SIGNAL (R39, R40).
DEDUCED: log entry 19. -/
def execSignal (c : Cid) (s : State) : Out :=
  match s.atControl c .signal with
  | some w =>
    let rem := bit (wordMod w) 1
    let bad := if rem then !s.sharesGroup c (bits w 61 50) else s.owner (bits w 75 66) != s.owner c
    let st := if bits w 91 76 = 0 then 1 else 0
    if bad then .next (s.precise c Fc.signalTarget 0)
    else if bit (wordMod w) 0 && bits w 91 76 != 0 && !(s.cell c).idle 0x41 then .next (s.hold c { Wait.reset with kind := 8 })
    else .next ((s.deliver c w).retire c st)
  | none => .next s

/-- FENCE (R41, R214): at once with nothing selected, else held until the units have completed.
DEDUCED: log entry 23. -/
def execFence (c : Cid) (s : State) : Out :=
  match s.atControl c .fence with
  | some w =>
    let ib := bit (wordMod w) 0
    let mask := bits w 95 88 ||| (if ib then 1 else 0)
    if mask = 0 then .next (s.retire c 0)
    else .next (((s.hold c { Wait.reset with kind := 4, sel := bits w 87 86, mask := mask }).countEdge c Ev.seqFence).settleCell c)
  | none => .next s

/-- BARRIER (R42): membership is checked before issue; a SUSPENDED group faults (R320); the arrival follows once the fence
it implies is satisfied. -/
def execBarrier (c : Cid) (s : State) : Out :=
  match s.atControl c .barrier with
  | some w =>
    let comm := bit (wordMod w) 0
    let g := barrierGroup w
    let p := s.owner c
    let member := if comm then (s.rankOf p g c).isSome else (s.localGroup p g).contains c.val
    if !member then .next (s.precise c Fc.barrierMembership 0)
    else if comm && (s.grp g).st == 2 then .next (s.precise c Fc.barrierAbandoned 0)
    else .next (((s.hold c { Wait.reset with
        kind := if comm then 3 else 2, group := g, mask := 255, step := bit (wordMod w) 1 }).countEdge c Ev.seqBarrier).settleCell c)
  | none => .next s

/-! ### Completion in a unit -/

/-- The oldest entry of a unit. -/
def Cell.head (cl : Cell) (u : Nat) : Option Flight := cl.flight.find? (fun f => f.unit == u)

/-- Removal of the oldest entry of a unit. -/
def popUnit (u : Nat) (l : List Flight) : List Flight :=
  match l with
  | [] => []
  | f :: r => if f.unit = u then r else f :: popUnit u r

/-- The oldest instruction of a unit completes: status, COMP, heartbeat, histogram and tag; the scoreboard ranges it
held are free (R30, R33, R35, R206). -/
def State.popFlight (s : State) (c u : Nat) : State :=
  match (s.cell c).head u with
  | none => s
  | some f =>
    let w := f.word.toNat
    let s := s.modCell c (fun cl => { cl with flight := popUnit u cl.flight })
    let s := if f.tag then s.modCell c (fun cl => { cl with tagStatus := f.status, tagT := (cl.tagT.1, cl.tagT.2.1, s.time - cl.tagAt, cl.tagT.2.2.2) }) else s
    let s := s.latency (s.owner c) 1 (bits w 123 120) (s.time - f.at_)
    let s := if u = 6 then s.latency (s.owner c) 7 (bits w 119 112) (s.time - f.at_) else s
    s.retired c (u + 1) f.status (wordComp w)

end Sys2Proof.Machine
end

