-- ==== Sys2Proof/Machine/Matrix.lean ====
section
/-! DEFINITION. Machine/Matrix: the windowed accumulator (R143 to R146), the noise of R180 and R181, and DMM and DCONV
(R164 to R182, R230 to R232). -/

namespace Sys2Proof.Machine

/-! ### The windowed accumulator -/

/-- An element of an operand line along K: value without scale, scale byte, number of the block it lies in. -/
abbrev KElem := Fv × Nat × Nat

/-- Largest magnitude of an element of a narrow format (R144, R164).
DEDUCED: log entry 30. -/
def elemMax (f : Nat) : Nat :=
  match f with
  | 1 => 6 | 2 => 8 | 3 => 448 | 4 => 57344 | _ => 128

/-- G of R144: smallest integer with BLK × PMAX at or below 2^G; 2 for BF16. -/
def windowG (fa fb blk : Nat) : Nat :=
  if fa = 6 then 2 else Nat.log2 (2 * (blk * elemMax fa * elemMax fb) - 1)

/-- Largest of some exponents, if there is one. -/
def maxI (l : List Int) : Option Int := l.foldl (fun m x => match m with | none => some x | some y => some (max x y)) none

/-- Exponent an element of an operand line gives the anchor: the scale byte less 127, blocks of 0x00 and 0xFF left out;
for BF16 the unbiased exponent, zeros and non-finite elements left out (R144).
DEDUCED: log entry 30. -/
def anchorOf (f : Nat) (e : KElem) : Option Int :=
  if f = 6 then
    match e.1 with
    | .num v _ => if v = 0 then none else some (max (flog2 (rabs v)) (-126))
    | _ => none
  else if e.2.1 = 0 || e.2.1 = 255 then none else some ((e.2.1 : Int) - 127)

/-- Weight of the accumulator's least significant bit, as an exponent: T − 96 (R144). -/
def windowLsb (ea eb : Option Int) (g : Nat) : Int :=
  (match ea, eb with
   | some x, some y => x + y
   | _, _ => Config.emptyAnchor) + g - 96

/-- A value rounded by RNE to a multiple of 2^lsb, and whether that changed it (R145). -/
def toWindow (lsb : Int) (v : Rat) : Rat × Bool :=
  if v = 0 then (0, false)
  else
    let r := (rneInt (v * pow2 (-lsb)) : Rat) * pow2 lsb
    (r, decide (r ≠ v))

/-- Whether an element reads as NaN or infinity in the engine (R130, R146). -/
def KElem.bad (e : KElem) : Bool := e.2.1 == 255 || (e.2.1 != 0 && !e.1.fin)

/-- Exact value of an element with its scale. -/
def KElem.val (e : KElem) : Rat := (scaled e.2.1 e.1).rat

/-- Places along K joined into partials: those of one block of each operand; each place by itself for BF16. -/
def partials (l : List (KElem × KElem)) : List (List (KElem × KElem)) :=
  l.splitBy (fun x y => x.1.2.2 == y.1.2.2 && x.2.2.2 == y.2.2.2)

/-- One output: the accumulator's value after every partial, NaN under R146, and the partials that were rounded. -/
def dotLines (lsb : Int) (a b : List KElem) : Fv × Nat :=
  if a.any KElem.bad || b.any KElem.bad then (.nan, 0)
  else
    (partials (List.zip a b)).foldl (fun acc blk =>
      let p := toWindow lsb ((blk.map (fun x => x.1.val * x.2.val)).sum)
      (acc.1.add (.num p.1 false), acc.2 + b2n p.2)) (.zero, 0)

/-! ### Noise (R180, R181) -/

/-- z of R180 from its four draws. -/
def noiseZ (u : Nat) : Fv :=
  (((Fv.num ((u : Rat) - (2 ^ 33 : Nat)) false).r32.mul (dec32 0x3FDDB3D7)).r32.mul (.num (pow2 (-32)) false)).r32

/-- Sum of the four draws of noise position ix of a cell, in its noise stream. -/
def State.noiseSum (s : State) (c mb ix : Nat) : Nat :=
  let p := s.owner c
  let st := s.fld p Ty.arrayRead p 6 2
  ((List.range 4).map (fun k => s.draw p st mb (4 * ix + k))).sum

/-- Noise position counter of a micro-batch tag, and its advance (R181). -/
def State.noisePos (s : State) (c mb : Nat) : Nat := tget (s.cell c).npos mb 0
/-- The noise position counter of a tag moves on. -/
def State.noiseMove (s : State) (c mb n : Nat) : State :=
  s.modCell c (fun cl => { cl with npos := tset cl.npos mb (tget cl.npos mb 0 + n) 0 })

/-! ### The product -/

/-- A matrix product as the engine sees it: extents, row mask, operand lines along K, window. -/
structure MatOp where
  m : Nat
  n : Nat
  kpass : Nat
  mask : Nat → Bool
  a : Nat → List KElem
  b : Nat → List KElem
  lsb : Int
  fed : Nat → Nat

/-- Element (r, i) of a stored matrix, with its scale byte and block number. -/
def State.kElem (s : State) (c : Nat) (d : Desc) (r i blk : Nat) : KElem :=
  (decElem d.fmt (s.rawElem c d r i), s.scaleOf c d r i, blk)

/-- Blocks along K: the block length of the scaled operand, one place for BF16 (R143, R165). -/
def pairBlk (a b : Desc) : Nat := if a.fmt = 6 then 1 else if a.sc then a.blkN else if b.sc then b.blkN else 1

/-- Whether bit m of a row mask is set (R79, R175). -/
def State.maskBit (s : State) (c addr m : Nat) : Bool := bit (s.rdLoc8 c (addr + m / 8)).toNat (m % 8)

/-- Line m of A for a DMM. -/
def State.dmmA (s : State) (c : Nat) (a : Desc) (ta : Bool) (blk m : Nat) : List KElem :=
  (List.range (if ta then a.outer else a.inner)).map (fun k =>
    if ta then s.kElem c a k m (k / blk) else s.kElem c a m k (k / blk))

/-- Line n of B. -/
def State.dmmB (s : State) (c : Nat) (b : Desc) (tb : Bool) (blk n : Nat) : List KElem :=
  (List.range (if tb then b.inner else b.outer)).map (fun k =>
    if tb then s.kElem c b n k (k / blk) else s.kElem c b k n (k / blk))

/-- Row mask of an instruction with MASK, else all rows. -/
def State.rowMask (s : State) (c w : Nat) (p : ParamBlk) (m : Nat) : Bool :=
  if bit (wordMod w) 3 then s.maskBit c p.maskIn m else true

/-- The product of a DMM. -/
def State.dmmOp (s : State) (c w : Nat) (i : Iss) : MatOp :=
  let ta := bit (wordMod w) 0
  let tb := bit (wordMod w) 1
  let blk := pairBlk i.a i.b
  let m := if ta then i.a.inner else i.a.outer
  let n := if tb then i.b.outer else i.b.inner
  let k := if ta then i.a.outer else i.a.inner
  let mask := s.rowMask c w i.par
  let al := s.dmmA c i.a ta blk
  let bl := s.dmmB c i.b tb blk
  let ea := maxI (((List.range m).filter mask).flatMap (fun r => (al r).filterMap (anchorOf i.a.fmt)))
  let eb := maxI ((List.range n).flatMap (fun r => (bl r).filterMap (anchorOf i.b.fmt)))
  { m := m, n := n, kpass := cdiv k 64, mask := mask, a := al, b := bl,
    lsb := windowLsb ea eb (windowG i.a.fmt i.b.fmt blk), fed := fun _ => k }

/-- A convolution geometry block (R177, R232). -/
structure Geom where
  batch : Nat
  h : Nat
  w : Nat
  cin : Nat
  cout : Nat
  kh : Nat
  kw : Nat
  sh : Nat
  sw : Nat
  dh : Nat
  dw : Nat
  pt : Nat
  pb : Nat
  pl : Nat
  pr : Nat
  deriving DecidableEq, Repr

/-- Output extent along one axis: 0 where it lies below 1 (R176, R177). -/
def outExtent (x p q d k st : Nat) : Nat :=
  if x + p + q < d * (k - 1) + 1 then 0 else (x + p + q - d * (k - 1) - 1) / st + 1

/-- OH. -/
def Geom.oh (g : Geom) : Nat := outExtent g.h g.pt g.pb g.dh g.kh g.sh
/-- OW. -/
def Geom.ow (g : Geom) : Nat := outExtent g.w g.pl g.pr g.dw g.kw g.sw

/-- The geometry block a reference names, with the causes found in it. -/
def State.geom (s : State) (c ref : Nat) : Geom × List Nat :=
  let f (o n : Nat) := s.rdLocN c (ref * 32 + o) n
  let g : Geom := { batch := f 0 2, h := f 2 2, w := f 4 2, cin := f 8 4, cout := f 0xC 4, kh := f 0x10 1, kw := f 0x11 1,
                    sh := f 0x12 1, sw := f 0x13 1, dh := f 0x14 1, dw := f 0x15 1, pt := f 0x16 1, pb := f 0x17 1,
                    pl := f 0x18 1, pr := f 0x19 1 }
  let pos := [g.batch, g.h, g.w, g.cin, g.cout, g.kh, g.kw, g.sh, g.sw, g.dh, g.dw]
  (g, cz (f 6 2 != 0 || f 0x1A 6 != 0) 4 ++ cz (pos.any (fun x => x == 0)) 5 ++
    cz (pos.all (fun x => x != 0) && (g.oh == 0 || g.ow == 0)) 5 ++
    cz (4096 < g.batch || 65536 < g.cin || 65536 < g.cout || 16 < g.kh || 16 < g.kw || 8 < g.sh || 8 < g.sw ||
        8 < g.dh || 8 < g.dw || [g.pt, g.pb, g.pl, g.pr].any (fun x => decide (15 < x))) 6)

/-- Stored input row that tap (kh, kw) of output position m reads; none in the padding (R176, R178). -/
def Geom.tap (g : Geom) (m kh kw : Nat) : Option Nat :=
  let ow := m % g.ow
  let oh := m / g.ow % g.oh
  let bt := m / (g.ow * g.oh)
  let y := oh * g.sh + kh * g.dh
  let x := ow * g.sw + kw * g.dw
  if g.pt ≤ y && y < g.pt + g.h && g.pl ≤ x && x < g.pl + g.w then some ((bt * g.h + (y - g.pt)) * g.w + (x - g.pl)) else none

/-- Line m of the input of a DCONV: taps in the order kh, kw, then channels; each tap starts its own blocks. -/
def State.convA (s : State) (c : Nat) (a : Desc) (g : Geom) (blk m : Nat) : List KElem :=
  (List.range (g.kh * g.kw)).flatMap (fun t =>
    let base := t * (cdiv g.cin blk)
    match g.tap m (t / g.kw) (t % g.kw) with
    | some r => (List.range g.cin).map (fun i => s.kElem c a r i (base + i / blk))
    | none => (List.range g.cin).map (fun i => (Fv.zero, 127, base + i / blk)))

/-- The product of a DCONV. -/
def State.convOp (s : State) (c w : Nat) (i : Iss) (g : Geom) : MatOp :=
  let tb := bit (wordMod w) 1
  let blk := pairBlk i.a i.b
  let bl := s.dmmB c i.b tb blk
  let ea := maxI ((List.range i.a.outer).flatMap (fun r =>
    (List.range i.a.inner).filterMap (fun e => anchorOf i.a.fmt (s.kElem c i.a r e 0))))
  let eb := maxI ((List.range g.cout).flatMap (fun r => (bl r).filterMap (anchorOf i.b.fmt)))
  { m := g.batch * g.oh * g.ow, n := g.cout, kpass := g.kh * g.kw * cdiv g.cin 64, mask := s.rowMask c w i.par,
    a := s.convA c i.a g blk, b := bl, lsb := windowLsb ea eb (windowG i.a.fmt i.b.fmt blk)
    fed := fun m => ((List.range (g.kh * g.kw)).filter (fun t => (g.tap m (t / g.kw) (t % g.kw)).isSome)).length * g.cin }

/-! ### What a product counts (R167 to R170, R184) -/

/-- M_t and N_t of a shape (R167). -/
def shape (shp : Nat) : Nat × Nat :=
  match shp with
  | 0 => (64, 64) | 1 => (32, 128) | 2 => (128, 32) | 3 => (16, 256) | 4 => (256, 16) | _ => (8, 512)

/-- Passes, lanes and fills counted. -/
def State.matCount (s : State) (c w : Nat) (i : Iss) (o : MatOp) (k : Nat) : State :=
  let (mt, nt) := shape (bits w 31 28)
  let tiles := (List.range (cdiv o.m mt)).map (fun t =>
    (List.range (min mt (o.m - t * mt))).map (fun r => (o.mask (t * mt + r), o.fed (t * mt + r))))
  let per := cdiv o.n nt * o.kpass
  let run := tiles.filter (fun t => t.any (fun r => r.1))
  let rows := (run.map (fun t => t.length)).sum
  let fed := (run.map (fun t => ((t.filter (fun r => r.1)).map (fun r => r.2)).sum)).sum
  let pad := (run.map (fun t => ((t.filter (fun r => r.1)).map (fun r => k - r.2)).sum)).sum
  let s := s.count c Ev.dmmPasses (run.length * per)
  let s := s.count c Ev.dmmPassesSkipped ((tiles.length - run.length) * per)
  let s := s.count c Ev.dmmMacIssued (fed * o.n)
  let s := s.count c Ev.dmmMacIdle (run.length * per * 262144 - rows * o.n * k + pad * o.n)
  -- the stationary stripe: element bytes and scale bytes (R170)
  let df := bits w 27 26
  let d := if df = 1 then i.b else i.a
  let lines := if df = 1 then nt else mt
  let stripe := cdiv (k * lines * fmtBits d.fmt) 8 + (if d.sc then cdiv k d.blkN * lines else 0)
  let stripes := if df = 1 then cdiv o.n nt else cdiv o.m mt
  if df = 0 then s
  else if 262144 < stripe then s.count c Ev.dmmDfDemoted 1
  else s.count c Ev.dmmFillClk (cdiv stripe (if d.dev then 128 else 256) * (if 131072 < stripe then stripes else 1))

/-! ### Outputs -/

/-- Whether an instruction draws noise: NOISE set in a program without the EVAL flag (R180). -/
def State.noisy (s : State) (c w : Nat) : Bool := bit (wordMod w) 4 && !(s.cell c).eval

/-- Output (m, n) with its noise, exact, and the partials rounded. -/
def State.matOut (s : State) (c w : Nat) (i : Iss) (o : MatOp) (pos m n : Nat) : Fv × Nat :=
  let r := dotLines o.lsb (o.a m) (o.b n)
  if s.noisy c w && r.1 != .nan then
    let t := ((dec32 i.par.sigma).mul (noiseZ (s.noiseSum c (bits w 25 20) (pos + m * o.n + n)))).rat
    (r.1.add (.num (toWindow o.lsb t).1 false), r.2)
  else r

/-- A value beyond the destination's largest finite magnitude once rounded (R146).
DEDUCED: log entry 30. -/
def overflows (f : Nat) (v : Fv) : Bool := v.fin && !(decElem f (encWide f none v)).fin

/-- One row of outputs written: committed into the tally, through the quantiser, or rounded once (R146, R147, R166). -/
def State.matRow (s : State) (c w : Nat) (i : Iss) (o : MatOp) (m : Nat) (vs : List Fv) : State :=
  let mb := bits w 25 20
  if bit (wordMod w) 5 then
    (List.zip (List.range o.n) vs).foldl (fun s x =>
      let e := i.par.entry m + x.1
      s.tallyCommit c e x.2 i.par.stream mb (i.par.posBase + e)) s
  else
    let f := if wide i.d.fmt then i.d.fmt else fFP32
    let s := s.count c Ev.accOverflow ((vs.filter (overflows f)).length)
    if wide i.d.fmt then s.wrWideAt c i.d ((List.range o.n).map (fun n => (m, n))) vs
    else
      let sr := bit (wordMod w) 6
      let row := vs.map Fv.r32
      let ds := (List.range o.n).map (fun n =>
        if sr then some (s.draw (s.owner c) i.par.stream mb (i.par.posBase + m * o.n + n)) else none)
      let s := if sr then s.count c Ev.diceDraws ((row.filter (fun x => x.fin)).length) else s
      s.wrNarrowRow c i.d i.par.qtag false m row ds

/-- The effect of a matrix product. -/
def State.matEffect (s : State) (c w : Nat) (i : Iss) (o : MatOp) (k : Nat) : State :=
  let mb := bits w 25 20
  let pos := s.noisePos c mb
  let zfill := bit (wordMod w) 2
  let tally := bit (wordMod w) 5
  let t := (List.range o.m).foldl (fun t m =>
    if o.mask m then
      let out := (List.range o.n).map (s.matOut c w i o pos m)
      let t := t.count c Ev.accWindowLoss ((out.map (·.2)).sum)
      let drawn := if s.noisy c w then (out.filter (fun x => x.1 != .nan)).length else 0
      let t := (t.count c Ev.dmmNoiseDraws (4 * drawn)).count c Ev.diceDraws (4 * drawn)
      t.matRow c w i o m (out.map (·.1))
    else if zfill && !tally then
      if wide i.d.fmt then t.wrWideAt c i.d ((List.range o.n).map (fun n => (m, n))) (List.replicate o.n Fv.zero)
      else t.wrNarrowRow c i.d i.par.qtag false m (List.replicate o.n Fv.zero) (List.replicate o.n none)
    else t) s
  (t.matCount c w i o k).noiseMove c mb (o.m * o.n)

/-! ### Issue (R164 to R178, R203, R205, R230 to R232) -/

/-- Space, first byte and end of every range a descriptor names, scale bytes with it.
DEDUCED: log entry 32. -/
def Desc.spans (d : Desc) : List (Bool × Int × Int) :=
  (d.dev, d.span) :: (if d.sc then [(d.dev, d.scaleSpan)] else [])

/-- Whether two ranges of one space meet.
DEDUCED: log entry 32. -/
def spanMeet (x y : Bool × Int × Int) : Bool := x.1 == y.1 && decide (x.2.1 < y.2.2) && decide (y.2.1 < x.2.2)

/-- Address faults of a mask of n bytes: alignment and range (R205).
DEDUCED: log entry 32. -/
def maskFlt (a n : Nat) : List (Nat × Nat) := fz (a % 64 != 0) Fc.address 1 ++ fz (0x200000 < a + n) Fc.address 0

/-- What issue learns of a matrix word: shapes are those of the product, M × N × K.
DEDUCED: log entries 31, 33. -/
def State.issMat (s : State) (c w : Nat) (conv : Bool) : Iss × Geom :=
  let md := wordMod w
  let ta := bit md 0
  let tb := bit md 1
  let tally := bit md 5
  let (a, ia) := s.matDesc c (bits w 95 80)
  let (b, ib) := s.matDesc c (bits w 79 64)
  let (d, id) := if tally then (Desc.reset, []) else s.matDesc c (bits w 63 48)
  let nar := !tally && narrow d.fmt
  let (p, ip) := if bit md 3 || bit md 4 || tally || nar then s.paramBlk c (bits w 47 32) else (ParamBlk.reset, [])
  let (g, ig) := if conv then s.geom c (bits w 19 4) else ({ batch := 1, h := 1, w := 1, cin := 1, cout := 1, kh := 1, kw := 1, sh := 1, sw := 1, dh := 1, dw := 1, pt := 0, pb := 0, pl := 0, pr := 0 }, [])
  let own := s.owner c
  let m := if conv then g.batch * g.oh * g.ow else if ta then a.inner else a.outer
  let n := if conv then g.cout else if tb then b.outer else b.inner
  let k := if conv then g.kh * g.kw * g.cin else if ta then a.outer else a.inner
  let bk := if tb then b.inner else b.outer
  let bn := if tb then b.outer else b.inner
  let known := a.fmt != 8 && b.fmt != 8
  let top := p.entry (m - 1) + (n - 1)
  let mask := if bit md 3 then [(p.maskIn, p.maskIn + cdiv m 8)] else []
  let srcs := a.spans ++ b.spans ++ mask.map (fun r => (false, (r.1 : Int), (r.2 : Int)))
  let sig := dec32 p.sigma
  ({ Iss.none with
    ill := rsvIll w ([(95, 80), (79, 64), (47, 32), (31, 28), (27, 26), (25, 20)] ++ (if tally then [] else [(63, 48)]) ++
        if conv then [(19, 4)] else []) ++
      ia ++ ib ++ id ++ ip ++ ig ++ cz (5 < bits w 31 28) 5 ++ cz (bits w 27 26 == 3) 5 ++
      cz (known && (a.fmt == 7 || b.fmt == 7 || (a.fmt == 6) != (b.fmt == 6))) 5 ++
      cz (a.sc && b.sc && a.blk != b.blk) 5 ++ cz ((ta && !a.blocked) || (tb && !b.blocked)) 5 ++
      cz ((a.sc && a.saxis != ta) || (b.sc && b.saxis != !tb)) 5 ++ cz (d.sc && d.saxis) 5 ++
      cz (conv && (a.blocked || !b.blocked)) 5 ++
      cz (if conv then a.outer != g.batch * g.h * g.w || a.inner != g.cin || bk != k || bn != n
          else bk != k) 6 ++
      cz (!tally && (d.outer != m || d.inner != n)) 6 ++
      cz (bit md 4 && (!sig.fin || decide (sig.rat < 0))) 6 ++
      cz (s.noisy c w && !s.mayDraw c (s.fld own Ty.arrayRead own 6 2)) 6 ++
      cz ((tally || (nar && bit md 6)) && !s.mayDraw c p.stream) 6
    flt := s.streamFlt c 2 false a ++ s.streamFlt c 2 false b ++ (if tally then [] else s.streamFlt c 2 true d) ++
      (if bit md 3 then maskFlt p.maskIn (cdiv m 8) else []) ++ fz (tally && 65535 < top) Fc.address 0 ++
      fz (!tally && d.spans.any (fun x => srcs.any (spanMeet x))) Fc.address 4
    a := a, b := b, d := d, par := p
    rd := a.ranges ++ b.ranges ++ mask
    wr := if tally then [(0x200000 + 4 * p.e0, 0x200000 + 4 * (top + 1))] else d.ranges }, g)

/-- DMM (R164 to R175, R180 to R182, R230, R231). -/
def execDmm (c : Cid) (s : State) : Out :=
  match s.atOp c .dmm with
  | some w =>
    let i := (s.issMat c w false).1
    .next (s.issueUnit c w i true (fun t =>
      t.matEffect c w i (t.dmmOp c w i) (if bit (wordMod w) 0 then i.a.outer else i.a.inner)))
  | none => .next s

/-- DCONV (R176 to R178, R232). -/
def execDconv (c : Cid) (s : State) : Out :=
  match s.atOp c .dconv with
  | some w =>
    let i := s.issMat c w true
    .next (s.issueUnit c w i.1 true (fun t =>
      t.matEffect c w i.1 (t.convOp c w i.1 i.2) (i.2.kh * i.2.kw * i.2.cin)))
  | none => .next s

end Sys2Proof.Machine
end

