-- ==== Sys2Proof/Machine/Domain.lean ====
section
/-! DEFINITION. Machine/Domain: the snapshot domain of a partition and its leader (R330), and the end of a restore
(R351, R352). -/

namespace Sys2Proof.Machine

/-- The first occurrence of each number of a list. -/
def firsts (l : List Nat) : List Nat := l.foldl (fun r n => if r.contains n then r else r ++ [n]) []

/-- The group that gates a partition's steps: GATE_GROUP of the partition mode record, 0xFFFF for none. -/
def State.gateGroup (s : State) (p : Nat) : Nat := s.mode p 6 2

/-- Nodes of a partition's snapshot domain in rank order (R330). -/
def State.domain (s : State) (p : Nat) : List Nat := firsts ((s.members p (s.gateGroup p)).map (fun m => m.1))

/-- Whether a node belongs to the present epoch. -/
def State.survives (s : State) (n : Nat) : Bool := n == s.fab.nodeId || s.fab.members.contains n

/-- The surviving nodes of a domain in rank order. -/
def State.survivors (s : State) (p : Nat) : List Nat := (s.domain p).filter s.survives

/-- The snapshot leader of a partition: the node of the lowest-ranked surviving member (R330). -/
def State.leaderOf (s : State) (p : Nat) : Nat := (s.survivors p).headD 0xFFFF

/-- SNAP_LEADER brought up to date (R521). -/
def State.setLeader (s : State) (p : Nat) : State := s.modPart p (fun q => { q with snapLeader := s.leaderOf p })

/-- Whether a partition takes snapshots: SNAP_EN, and a GATE_GROUP that is ACTIVE (R330, R338). -/
def State.snaps (s : State) (p : Nat) : Bool :=
  s.gateGroup p != 0xFFFF && s.hasRec p Ty.group (s.gateGroup p) && (s.grp (s.gateGroup p)).st == 1 &&
    s.fld p Ty.snapshot p 0 1 == 1

/-- The other nodes of a domain. -/
def State.others (s : State) (p : Nat) : List Nat := (s.survivors p).filter (fun n => n != s.fab.nodeId)

/-- Recovery ends in RECOVERY_FAILED: cause 0 IMAGE_LOST, 1 NO_SLACK, 2 STREAM, 3 REMOUNT_ERROR; the cells stay STOPPED with
contents kept (R352).
DEDUCED: log entry 67. -/
def State.failRestore (s : State) (p cause : Nat) : State :=
  if (s.part p).snap = 2 && (s.part p).restore != 5 then
    (s.logP 0 p Db.recoveryFailed cause).modPart p (fun q => { q with
      snap := 0, restore := 5, fetchWant := [], fetched := [], readyFrom := [] })
  else s

/-- RESUME reaches a partition (R351): SNAP returns to RUNNING, and the next snapshot takes place at the first step boundary. -/
def State.resumeDomain (s : State) (p step : Nat) : State :=
  s.modPart p (fun q => { q with
    snap := 0, restore := 0, readyFrom := [], placed := [], lostCells := [], segs := [], proposed := [], restoreFrom := []
    lastSecured := q.restoreStep, plan := some step })

/-- The leader hears that a member is ready, or that it failed; when every survivor is ready it floods RESUME (R351).
DEDUCED: log entry 67. -/
def State.memberReady (s : State) (p node : Nat) (ok : Bool) (cause : Nat) : State :=
  let q := s.part p
  if q.snap != 2 then s
  else if !ok then
    let s := (s.others p).foldl (fun s n => s.send 0x5D n [p, q.restoreStep, 1 + cause]) s
    s.failRestore p cause
  else
    let s := s.modPart p (fun q => { q with readyFrom := insN node q.readyFrom })
    if (s.survivors p).all (fun n => (s.part p).readyFrom.contains n) then
      let t := s.time + s.fld p Ty.snapshot p 12 4 * 1000
      let s := (s.others p).foldl (fun s n => s.send 0x5E n [p, q.dataPos, t]) s
      s.resumeDomain p q.dataPos
    else s

/-- The leader is told: by message, or at once where this module is the leader. -/
def State.tellReady (s : State) (p : Nat) (ok : Bool) (cause : Nat) : State :=
  if s.leaderOf p = s.fab.nodeId then s.memberReady p s.fab.nodeId ok cause
  else
    let s := s.send 0x5D (s.leaderOf p) [p, (s.part p).restoreStep, if ok then 0 else 1 + cause]
    if ok then s else s.failRestore p cause

/-- Whether a partition's restore has done all R351 asks: the plan is with the host, every restore write has ended, every
group record the module proposes is committed, and the recompiled image is in the cells. -/
def State.restored (s : State) (p : Nat) : Bool :=
  let q := s.part p
  let cs := s.cellsOf p
  q.snap == 2 && q.restore == 3 && cs.all (fun c => (s.cell c).wq.all (fun j => !j.restore)) &&
    q.proposed.all (fun g => (s.grp g.1).st != 2) && cs.all (fun c => decide ((s.cell c).st ≤ 1)) &&
    cs.any (fun c => (s.cell c).st == 1)

/-- A survivor that is ready says so (R351). -/
def State.tryReady (s : State) (p : Nat) : State :=
  if s.restored p then (s.modPart p (fun q => { q with restore := 4 })).tellReady p true 0 else s

end Sys2Proof.Machine
end

