-- ==== Sys2Proof/Machine/Movement.lean ====
section
/-! DEFINITION. Machine/Movement: LDS, STS, COPY, GATHER, SCATTER, SEND and RECV (R215 to R222, R275 to R279), the
posting of a shard record (R265, R266, R531), and the landing of a message. -/

namespace Sys2Proof.Machine

/-! ### Copies (R216) -/

/-- FORM of a descriptor as stored, without SPACE. -/
def State.rawForm (s : State) (c ref : Nat) : Nat := setBits (s.rdLocN c (ref * 32 + 0x0E) 2) 8 8 0

/-- Whether a cell-local destination meets the 4 KiB page of the instruction buffer that holds the program counter
(R53). -/
def Cell.selfOverwrite (cl : Cell) (d : Desc) : Bool :=
  let lo : Int := ((0x240000 + cl.pc / 256 * 4096 : Nat) : Int)
  !d.dev && d.count != 0 && decide (d.span.1 < lo + 4096) && decide (lo < d.span.2)

/-- Whether a destination is the shard outbox window, and whether the STS that names it is the one form R530 allows.
DEDUCED: log entry 22. -/
def outboxForm (a d : Desc) (eval : Bool) : Bool × Bool :=
  let inn := d.dev && decide (0x21000000000 ≤ d.span.1) && decide (d.span.1 < 0x21000001000)
  (inn, a.fmt == 7 && d.fmt == 7 && d.count == 8 && d.span.2 - d.span.1 == 32 && d.span.1 % 32 == 0 && !eval)

/-- What issue learns of LDS, STS and COPY. -/
def State.issCopy (s : State) (c : Nat) (o : Op) (w : Nat) : Iss :=
  let sr := bits w 95 80
  let dr := bits w 79 64
  let (a, ia) := s.streamDesc c sr
  let (d, id) := s.streamDesc c dr
  let tallyDst := !d.dev && 0x200000 ≤ d.base && d.base < 0x240000
  let (ob, obOk) := outboxForm a d (s.cell c).eval
  let space := (o == .lds && (!a.dev || d.dev)) || (o == .sts && (a.dev || !d.dev))
  let zero := a.count == 0
  { Iss.none with
    ill := rsvIll w [(95, 80), (79, 64)] ++ ia ++ id ++ cz (s.rawForm c sr != s.rawForm c dr) 5 ++
      cz (tallyDst && d.fmt != 7) 5 ++ cz (a.inner != d.inner || a.outer != d.outer) 6
    flt := if zero then [] else fz space Fc.address 0 ++ s.streamFlt c 0 false a ++
      (if o == .sts && ob then fz (!obOk) Fc.address 3 else s.streamFlt c 0 true d) ++
      fz ((s.cell c).selfOverwrite d) Fc.selfOverwrite 0
    a := a, d := d, zero := zero, rd := a.ranges, wr := d.ranges }

/-- Raw element bits of a stream, row by row. -/
def State.rawAll (s : State) (c : Nat) (d : Desc) : List Nat := d.pos.map (fun x => s.rawElem c d x.1 x.2)

/-- Row and block of every scale byte of a stream, in block order. -/
def Desc.blocks (d : Desc) : List (Nat × Nat) :=
  if d.sc then (List.range d.outer).flatMap (fun r => (List.range (cdiv d.inner d.blkN)).map (fun b => (r, b))) else []

/-- Scale bytes of a stream in block order. -/
def State.rawScales (s : State) (c : Nat) (d : Desc) : List Nat :=
  d.blocks.map (fun x => leNat (s.rdOp c d.dev (d.scaleAddr x.1 x.2) 1))

/-- Elements and scale bytes written into a stream from element off on; those beyond its end are dropped. -/
def State.landElems (s : State) (c : Nat) (d : Desc) (off : Nat) (es ss : List Nat) : State :=
  let s := (List.zip (d.pos.drop off) es).foldl (fun s x => s.wrElem c d x.1.1 x.1.2 x.2) s
  (List.zip d.blocks ss).foldl (fun s x => s.wrOp c d.dev (d.scaleAddr x.1.1 x.1.2) (leBytes 1 x.2)) s

/-- The copy of one stream to another, elements and scale bytes unchanged. -/
def State.copyStream (s : State) (c : Nat) (a d : Desc) : State := s.landElems c d 0 (s.rawAll c a) (s.rawScales c a)

/-! ### The shard outbox (R265, R266, R531) -/

/-- The record that 32 bytes spell, if no reserved byte is set. -/
def shardOf (l : List Byte) (step : Nat) : Option ShardRec :=
  let f (o n : Nat) := leNat ((l.drop o).take n)
  if f 6 2 != 0 || f 0x11 1 != 0 || f 0x14 8 != 0 || f 0x1C 4 != 0 || 1 < f 0xC 1 || (f 0xD 1 != 6 && f 0xD 1 != 7) then none
  else some { addr := f 0 6, len := f 8 4, kind := f 0xC 1, fmt := f 0xD 1, cell := f 0xE 2, xbar := f 0x10 1,
              tag := f 0x12 2, step := step, released := false }

/-- A record is posted: refused, held, released at once, or discarded, as the step's gate stands (R266). -/
def State.postShard (s : State) (p : Nat) (l : List Byte) : State :=
  let pt := s.part p
  match shardOf l pt.trainStep with
  | none => s.pcount p PEv.shardRefused 1
  | some r =>
    if !s.ownsMem p r.addr r.len then s.pcount p PEv.shardRefused 1
    else if pt.gateDone && pt.stepSkip then s.pcount p PEv.shardDiscarded 1
    else
      let rel := pt.gateDone
      let s := s.modPart p (fun q => { q with outbox := q.outbox ++ [{ r with released := rel }], released := q.released || rel })
      if rel then s.pcount p PEv.shardReleased 1 else s

/-- Whether a partition's outbox is full (R265).
DEDUCED: log entry 22. -/
def State.outboxFull (s : State) (p : Nat) : Bool := decide (4096 ≤ (s.part p).outbox.length)

/-- LDS (R216). -/
def execLds (c : Cid) (s : State) : Out :=
  match s.atOp c .lds with
  | some w => let i := s.issCopy c .lds w
              .next (s.issueUnit c w i true (fun t => t.copyStream c i.a i.d))
  | none => .next s

/-- STS (R216), and the posting of a shard record (R265).
DEDUCED: log entry 22. -/
def execSts (c : Cid) (s : State) : Out :=
  match s.atOp c .sts with
  | some w =>
    let i := s.issCopy c .sts w
    let p := s.owner c
    if (outboxForm i.a i.d (s.cell c).eval).1 then
      .next (s.issueUnit c w i (!s.outboxFull p) (fun t =>
        t.postShard p (leBytes 32 ((s.rawAll c i.a).foldr (fun x n => x + 2 ^ 32 * n) 0))))
    else .next (s.issueUnit c w i true (fun t => t.copyStream c i.a i.d))
  | none => .next s

/-- COPY (R216). -/
def execCopy (c : Cid) (s : State) : Out :=
  match s.atOp c .copy with
  | some w => let i := s.issCopy c .copy w
              .next (s.issueUnit c w i true (fun t => t.copyStream c i.a i.d))
  | none => .next s

/-! ### Tables (R217 to R219, R275 to R279) -/

/-- n list entries of 32 bits at a list reference. -/
def State.idxList (s : State) (c ref n : Nat) : List Nat := (List.range n).map (fun k => s.rdLocN c (ref * 32 + 4 * k) 4)

/-- Address fault of a list read by a unit. -/
def listFlt (unit : Nat) (wr : Bool) (ref n : Nat) : List (Nat × Nat) :=
  if n = 0 then []
  else ((localCause unit wr ((ref * 32 : Nat) : Int) ((ref * 32 + n : Nat) : Int)).toList).map (fun x => (2, x))

/-- What issue learns of GATHER. -/
def State.issGather (s : State) (c w : Nat) : Iss :=
  let (t, it) := s.streamDesc c (bits w 95 80)
  let (d, id) := s.streamDesc c (bits w 79 64)
  let n := bits w 47 32
  let bag := bits w 31 24
  let zero := n == 0 || t.inner == 0
  { Iss.none with
    ill := rsvIll w [(95, 80), (79, 64), (63, 48), (47, 32), (31, 24), (23, 22)] ++ it ++ id ++ cz (bag == 0) 5 ++
      cz (bits w 23 22 == 3) 5 ++ cz (!wide d.fmt && d.fmt < 8) 5 ++
      cz (n != 0 && (bag != 0 && (n % bag != 0 || d.outer != n / bag) || d.inner != t.inner)) 6
    flt := if zero then [] else s.streamFlt c 0 false t ++ s.streamFlt c 0 true d ++ listFlt 0 false (bits w 63 48) (4 * n) ++
      fz ((s.cell c).selfOverwrite d) Fc.selfOverwrite 0
    a := t, d := d, zero := zero
    rd := t.ranges ++ [(bits w 63 48 * 32, bits w 63 48 * 32 + 4 * n)], wr := d.ranges }

/-- One bag pooled: 0 SUM, 1 MEAN, 2 MAX, over the rows used; +0.0 where there is none (R217, R218). -/
def poolRows (pool inner : Nat) (rows : List (List Fv)) : List Fv :=
  match rows with
  | [] => List.replicate inner .zero
  | r :: rest =>
    let acc := rest.foldl (fun a x => (List.zip a x).map (fun y => if pool = 2 then y.1.max y.2 else (y.1.add y.2).r32)) r
    if pool = 1 then
      let k := (Fv.num (1 / ((rows.length : Nat) : Rat)) false).r32
      acc.map (fun x => (x.mul k).r32)
    else acc

/-- GATHER (R217, R218). -/
def execGather (c : Cid) (s : State) : Out :=
  match s.atOp c .gather with
  | some w =>
    let i := s.issGather c w
    .next (s.issueUnit c w i true (fun t =>
      let bags := chunks (bits w 31 24) (bits w 47 32) (s.idxList c (bits w 63 48) (bits w 47 32))
      (List.zip (List.range bags.length) bags).foldl (fun t x =>
        let used := x.2.filter (fun k => decide (k < i.a.outer))
        let skipped := (x.2.filter (fun k => !decide (k < i.a.outer) && k != 0xFFFFFFFF)).length
        let t := if skipped != 0 then t.count c Ev.movIndexRange skipped else t
        let t := if used.isEmpty then t.count c Ev.movEmptyBag 1 else t
        let row := poolRows (bits w 23 22) i.a.inner (used.map (fun k => s.rowOf c i.a k))
        t.wrWideAt c i.d ((List.range i.d.inner).map (fun e => (x.1, e))) row) t))
  | none => .next s

/-- What issue learns of SCATTER.
DEDUCED: log entry 20. -/
def State.issScatter (s : State) (c w : Nat) : Iss :=
  let tally := bit (wordMod w) 0
  let (t, it) := if tally then (Desc.reset, []) else s.streamDesc c (bits w 95 80)
  let (a, ia) := s.streamDesc c (bits w 79 64)
  let (p, ip) := s.paramBlk c (bits w 31 16)
  let n := bits w 47 32
  let zero := n == 0 || a.inner == 0
  { Iss.none with
    ill := rsvIll w ([(79, 64), (63, 48), (47, 32), (31, 16), (15, 10)] ++ if tally then [] else [(95, 80)]) ++ it ++ ia ++ ip ++
      cz (!wide a.fmt && a.fmt < 8) 5 ++ cz (n != 0 && (a.outer != n || (!tally && a.inner != t.inner))) 6 ++
      cz (!s.mayDraw c p.stream) 6
    flt := if zero then [] else (if tally then [] else s.streamFlt c 0 true t) ++ s.streamFlt c 0 false a ++
      listFlt 0 false (bits w 63 48) (4 * n) ++ fz (!tally && (s.cell c).selfOverwrite t) Fc.selfOverwrite 0
    a := a, d := t, par := p, zero := zero
    rd := a.ranges ++ [(bits w 63 48 * 32, bits w 63 48 * 32 + 4 * n)] ++ if tally then [] else t.ranges
    wr := if tally then [(0x200000, 0x240000)] else t.ranges }

/-- One gradient row added into a table row: each sum in FP32, rounded back by SR, a block's scale taken again (R219).
DEDUCED: log entry 21. -/
def State.scatterRow (s : State) (c : Nat) (t : Desc) (p : ParamBlk) (mb k : Nat) (g : List Fv) : State :=
  let sums := (List.zip (s.rowOf c t k) g).map (fun x => (x.1.add x.2).r32)
  let ds := (List.range t.inner).map (fun e => some (s.draw (s.owner c) p.stream mb (p.posBase + k * t.inner + e)))
  let s := s.count c Ev.diceDraws ((sums.filter (fun x => x.fin)).length)
  if t.sc then
    let cut := chunks t.blkN t.inner (List.zip sums ds)
    (List.zip (List.range cut.length) cut).foldl (fun s x =>
      s.wrBlock c t k x.1 (quantBlock t.fmt 1 0xFE (x.2.map (·.2)) (x.2.map (·.1)))) s
  else
    (List.zip (List.range t.inner) (List.zip sums ds)).foldl (fun s x =>
      s.wrElem c t k x.1 (if wide t.fmt then encWide t.fmt x.2.2 x.2.1 else (quantPlain t.fmt x.2.2 x.2.1).1)) s

/-- SCATTER (R219). -/
def execScatter (c : Cid) (s : State) : Out :=
  match s.atOp c .scatter with
  | some w =>
    let i := s.issScatter c w
    let tally := bit (wordMod w) 0
    let mb := bits w 15 10
    .next (s.issueUnit c w i true (fun t =>
      let ix := s.idxList c (bits w 63 48) (bits w 47 32)
      (List.zip (List.range ix.length) ix).foldl (fun t x =>
        let k := x.2
        let g := s.rowOf c i.a x.1
        if k = 0xFFFFFFFF then t
        else if tally then
          (List.zip (List.range i.a.inner) g).foldl (fun t y =>
            let e := i.par.entry k + y.1
            if 65535 < e then t.count c Ev.movIndexRange 1
            else t.tallyCommit c e y.2 i.par.stream mb (i.par.posBase + k * i.a.inner + y.1)) t
        else if i.d.outer ≤ k then t.count c Ev.movIndexRange 1
        else t.scatterRow c i.d i.par mb k g) t))
  | none => .next s

/-! ### Messages (R220 to R222) -/

/-- What issue learns of SEND and RECV.
DEDUCED: log entries 18, 19. -/
def State.issMsg (s : State) (c w : Nat) (recv : Bool) : Iss :=
  let (d, id) := s.streamDesc c (bits w 95 80)
  let remote := bit (wordMod w) 0
  let zero := d.count == 0
  let partner := if remote then s.sharesGroup c (bits w 75 64) else s.owner (bits w 63 54) == s.owner c
  { Iss.none with
    ill := rsvIll w ([(95, 80), (63, 54), (53, 50), (49, 44), (43, 40)] ++ if remote then [(75, 64)] else []) ++ id ++
      cz (bits w 43 40 == 0) 6
    flt := if zero then [] else fz (!partner) Fc.address 2 ++ s.streamFlt c 0 recv d ++
      fz (recv && (s.cell c).selfOverwrite d) Fc.selfOverwrite 0
    a := d, d := d, zero := zero, rd := if recv then [] else d.ranges, wr := if recv then d.ranges else [] }

/-- The message an SEND or RECV word names. -/
def State.msgOf (s : State) (c w : Nat) (d : Desc) : Msg :=
  { Msg.reset with
    node := if bit (wordMod w) 0 then bits w 75 64 else s.fab.nodeId
    cell := bits w 63 54, chan := bits w 53 50, mb := bits w 49 44, done := bits w 43 40, buf := d, rng := d.ranges, at_ := s.time
    word := (s.cell c).word, pc := (s.cell c).pc }

/-- SEND: accepted into the send table, which holds 16 messages (R220). -/
def execSend (c : Cid) (s : State) : Out :=
  match s.atOp c .send with
  | some w =>
    let i := s.issMsg c w false
    .next (s.issueUnit c w i (decide ((s.cell c).sends.length < 16)) (fun t =>
      t.modCell c (fun cl => { cl with sends := cl.sends ++ [s.msgOf c w i.a] })))
  | none => .next s

/-- RECV: posted on its partner and channel, at most 64 at once (R220). -/
def execRecv (c : Cid) (s : State) : Out :=
  match s.atOp c .recv with
  | some w =>
    let i := s.issMsg c w true
    let m := s.msgOf c w i.d
    let n := ((s.cell c).recvs.filter (fun x => x.node == m.node && x.cell == m.cell && x.chan == m.chan)).length
    .next (s.issueUnit c w i (decide (n < 64)) (fun t => t.modCell c (fun cl => { cl with recvs := cl.recvs ++ [m] })))
  | none => .next s

/-- Message status word (R522): outcome 0 OK, 1 MISMATCH, 2 PARTNER_LOSS. -/
def msgWord (m : Msg) (res : Nat) : Nat := res + m.mb * 4 + m.chan * 256 + m.cell * 4096

/-- FORM of a resolved descriptor without SPACE. -/
def Desc.form (d : Desc) : Nat := d.fmt + b2n d.sc * 16 + (if d.sc then d.blk * 32 else 0)

/-- A message has ended at one of its ends: status word, mismatch count, done flag, tag stage (R207, R222). -/
def State.msgEnd (s : State) (c : Nat) (m : Msg) (bad : Bool) : State :=
  let s := s.modCell c (fun cl => { cl with msgStatus := msgWord m (b2n bad) })
  let s := if bad then s.count c Ev.movMsgMismatch 1 else s
  let s := s.modCell c (fun cl => cl.tagDone (cl.tagWord == m.word && cl.tagPc == m.pc) s.time)
  s.addFlag c m.done 1

/-- MESSAGE_LANDS: the i-th message of a cell's send table meets the oldest RECV posted on its channel with its tag; the
data is copied and both done flags count.  A message for another module is put on the fabric (R220 to R222, R304). -/
def execMessageLands (c : Cid) (i : Nat) (s : State) : Out :=
  match (s.cell c).sends[i]? with
  | none => .next s
  | some m =>
    if m.node != s.fab.nodeId then
      if m.sent then .next s
      else
        let flow := (c.val * 4096 + m.node) * 16384 + m.cell * 16 + m.chan
        let seq := tget s.fab.seqTx flow 0
        let s := s.modCell c (fun cl => { cl with sends := cl.sends.set i { m with sent := true, sentAt := s.time, seq := seq } })
        let s := s.modFab (fun f => { f with seqTx := tset f.seqTx flow ((seq + 1) % 2 ^ 32) 0 })
        .next (s.send 0x30 m.node ([c.val, m.cell, m.chan, m.mb, seq, m.buf.form, m.buf.count] ++ s.rawAll c m.buf ++ s.rawScales c m.buf))
    else
      match findIdx (fun r : Msg => r.node == s.fab.nodeId && r.cell == c.val && r.chan == m.chan && r.mb == m.mb) (s.cell m.cell).recvs with
      | none => .next s
      | some (j, r) =>
        let same := m.buf.form == r.buf.form
        let bad := !same || m.buf.count != r.buf.count
        let es := s.rawAll c m.buf
        let ss := s.rawScales c m.buf
        let s := if same then s.landElems m.cell r.buf 0 es ss else s
        let s := s.modCell c (fun cl => { cl with sends := cl.sends.eraseIdx i })
        let s := s.modCell m.cell (fun cl => { cl with recvs := cl.recvs.eraseIdx j })
        let s := (s.msgEnd m.cell r bad).msgEnd c m bad
        .next ((s.latency (s.owner c) 4 0 (s.time - m.at_)).settleCell c)

end Sys2Proof.Machine
end

