-- ==== Sys2Proof/Machine/Service.lean ====
section
/-! DEFINITION. Machine/Service: a cell stopped by the host or the module (R56), a step sent to replay (R273), a spare
taking a logical number (R16 to R20), quarantine (R360), a failed crossbar (R124, R125) and the calibration queue
(R434). -/

namespace Sys2Proof.Machine

/-! ### Planes (R108) -/

/-- Base address of plane P of set k of a logical cell: the plane record, else the default plane table (R108). -/
def State.planeBase (s : State) (c k pl : Nat) : Nat :=
  if s.hasRec 0 Ty.plane c then s.fld 0 Ty.plane c (24 * k + 8 * pl) 8
  else dieOf c * 0x8000000000 + 0x7F80000000 + c % 256 * 0x800000 + k * 0xC0000 + pl * 0x40000

/-- Physical crossbar bound to a logical crossbar; 8 names the relay. -/
def Cell.phys (cl : Cell) (lx : Nat) : Nat := tget cl.xbind lx lx
/-- Plane set bound to a logical crossbar; 8 names the shadow set. -/
def Cell.set (cl : Cell) (lx : Nat) : Nat := tget cl.pbind lx lx

/-- Logical crossbar a physical crossbar is bound to; 8 where it is the relay. -/
def Cell.logical (cl : Cell) (x : Nat) : Nat := ((List.range 9).find? (fun b => cl.phys b == x)).getD 8

/-! ### Stopping (R56) -/

/-- A RUNNING cell is told to stop by the host or the module; toks are the commands its drain completes. -/
def State.stopCell (s : State) (c : Nat) (toks : List Nat := []) : State :=
  let cl := s.cell c
  if cl.st = 2 && cl.resetLevel = 0 then
    (s.setCell c { cl with
      draining := if cl.draining == 1 then 1 else 2
      hostStopBy := cl.hostStopBy ++ toks }).settleCell c
  else s

/-! ### Replay (R272, R273) -/

/-- Whether a partition has joined a communication group. -/
def State.joined (s : State) (p : Nat) : Bool :=
  s.recs.any (fun e => decide (e.1 / 2 ^ 32 = p) && decide ((e.1 / 65536) % 65536 = Ty.group))

/-- Step 3 of R273: the partition's step undone.  daddr is the error's device address. -/
def State.replayState (s : State) (p daddr : Nat) : State :=
  let s := s.pcount p PEv.shardDiscarded (s.part p).outbox.length
  let s := s.modPart p (fun q => { q with
    outbox := [], tags := [], gateDone := false, released := false, skipSent := false, stepSkip := false, applied := false })
  let s := eachN s (s.cellsOf p) (fun s c => s.modCell c (fun cl => { cl with npos := [] }))
  s.event p 4 0 daddr 0

/-- Steps 2 and 3 of R273: the notice to every group joined, then the step undone. -/
def State.replayStep (s : State) (p daddr : Nat) : State :=
  (if s.joined p then s.send 0x16 0xFFFF [s.fab.nodeId, p, (s.part p).trainStep] else s).replayState p daddr

/-! ### Spares (R14 to R20) -/

/-- Regions held for a substitution in progress. -/
def State.heldSpares (s : State) : List Nat := s.cells.filterMap (fun e => if e.2.subst = 0 then none else some (e.2.subst - 1))

/-- The spare a die gives next: the first region of row 16 that carries no number, is not held, not quarantined, has a
working regulator pair and no FAILED crossbar.
DEDUCED: log entry 41. -/
def State.spareOf (s : State) (d : Nat) : Option Nat :=
  ((List.range 16).map (fun i => d * 272 + 256 + i)).find? (fun r =>
    (s.cellOf r).isNone && !s.heldSpares.contains r && !(s.phy r).quar && !((s.phy r).regA && (s.phy r).regB) &&
      (s.phy r).xb.all (fun e => e.2.st != 3))

/-- A change this module has to bring before the membership: reason, node, argument (R311). -/
def State.reportChange (s : State) (reason arg : Nat) : State :=
  if s.fab.inSystem && !s.fab.pendChg.contains (reason, s.fab.nodeId, arg) then
    s.modFab (fun f => { f with pendChg := f.pendChg ++ [(reason, f.nodeId, arg)] })
  else s

/-- The repair map's entry of a region brought up to date, and its write to the tack store asked for (R15, R16). -/
def State.syncRepair (s : State) (r : Nat) : State :=
  let e := match s.cellOf r with
    | some c => c + (if (s.cell c).mapDark then 0x4000 else 0)
    | none => 0x2000
  s.setFld 0 Ty.repairMap 0 (2 * r) 2 (e + if (s.phy r).repairMark then 0x8000 else 0)

/-- The groom is asked to write a record in force to the tack store, as it stands now (R480, R539); a partition's record adds
65,536 × partition to its type. -/
def State.askWrite (s : State) (ty inst : Nat) : State :=
  s.modGroom (fun g => { g with writeQ := g.writeQ ++ [(ty, inst, s.rcd (ty / 65536) (ty % 65536) inst)] })

/-- No spare is left (R19): the logical cell is marked dark and a capacity loss is reported. -/
def State.capacityLoss (s : State) (c : Nat) : State :=
  let s := s.modCell c (fun cl => { cl with mapDark := true })
  let s := (s.syncRepair (s.reg c)).askWrite Ty.repairMap 0
  (s.logC c Db.capacityLoss c).reportChange 1 c

/-- A cell must leave service: a spare of its die is taken and its region asked to switch on, or R19 applies (R16).
DEDUCED: log entry 41. -/
def State.substitute (s : State) (c : Nat) (dark : Bool) : State :=
  let cl := s.cell c
  if cl.subst != 0 then s.modCell c (fun cl => { cl with substDark := cl.substDark || dark })
  else if cl.mapDark then s
  else match s.spareOf (dieOf c) with
    | none => s.capacityLoss c
    | some r =>
      (s.modCell c (fun cl => { cl with subst := r + 1, substStage := 1, substDark := dark })).modPhy r (fun p =>
        { p with want := 0, swAt := s.time })

/-- The logical number moves to the spare, at one boundary (R16, R17, R20, R312).  The spare's own cell starts EMPTY
(R396); the heartbeat and the counters go on (R64, R499), and the planes stay with their logical crossbars (R108).
DEDUCED: log entry 41. -/
def State.spareMove (s : State) (c : Nat) : State :=
  let cl := s.cell c
  if cl.subst = 0 then s
  else
    let old := s.reg c
    let new := cl.subst - 1
    let s := s.logC c Db.spareMove (pidOf old) [b2n cl.substDark]
    let s := s.modPhy old (fun p => { p with rst := 2, want := 3, swStage := 0, repairMark := p.quar })
    let s := { s with repair := if new = defaultRegion c then tdel s.repair c else tins s.repair c new }
    let s := s.setCell c { Cell.reset with
      heartbeat := cl.heartbeat, ctr := cl.ctr, pbind := cl.pbind, drillCount := cl.drillCount, nextKey := cl.nextKey
      resetLevel := cl.resetLevel, resetBy := cl.resetBy, resetAt := cl.resetAt }
    ((s.syncRepair old).syncRepair new).askWrite Ty.repairMap 0

/-- A number moves at once on a module outside every system, with the event of R20. -/
def State.moveAlone (s : State) (c : Nat) : State :=
  let dark := (s.cell c).substDark
  (s.spareMove c).event (s.owner c) 6 0 0xFFFFFFFF (if dark then 4 else 16)

/-- A cell has gone dark (R18): the cell-loss fault, a spare, and the step sent to replay from step 2 of R273.
DEDUCED: log entry 41. -/
def State.cellLoss (s : State) (c : Nat) : State :=
  let s := s.modPhy (s.reg c) (fun p => { p with rst := 2, want := 3, swStage := 0 })
  let s := s.modCell c (fun cl => { cl with dark := true, flight := [] })
  let s := s.logC c Db.cellLoss 0
  let s := if (s.cell c).st = 0 then s else s.faultAt c Fc.cellLoss 0 (s.cell c).pc (s.cell c).word 0 8
  let s := s.substitute c true
  if (s.cell c).eval then s else s.replayStep (s.owner c) 0

/-- A cell proved wrong is taken out of service (R360): cause 0 range arbitration, 1 drill conviction. -/
def State.quarantine (s : State) (r cause engine : Nat) : State :=
  if (s.phy r).quar then s
  else
    let s := s.modPhy r (fun p => { p with quar := true })
    let s := s.logR r Db.quarantine cause [engine]
    match s.cellOf r with
    | none => s
    | some c => (s.event (s.owner c) 9 0 c 0).substitute c false

/-! ### The calibration queue (R434) -/

/-- A calibration request: class, region, crossbar, excess over CAL_DELTA in 1/64 °C.  One for a crossbar already queued
or running joins it. -/
def State.requestCal (s : State) (cls r x excess : Nat) : State :=
  let d := s.die (r / 272)
  if d.calQ.any (fun q => q.2.1 == r && q.2.2.1 == x) || d.calRun.contains (r, x) then s
  else s.modDie (r / 272) (fun d => { d with calQ := d.calQ ++ [(cls, r, x, excess)] })

/-! ### The write engine's jobs (R115, R118) -/

/-- Write status word (R522). -/
def writeWord (j : WriteJob) (res depth : Nat) (busy : Bool) : Nat :=
  j.lx + res * 16 + (if busy then 64 else 0) + (if j.relay then 128 else 0) + min depth 7 * 256

/-- The ASWAP at the head of the array unit that waits for a relay write of its crossbar learns that the write failed or
was discarded (R116). -/
def Cell.swapLost (cl : Cell) (lx : Nat) : Cell :=
  match cl.head 1 with
  | some h =>
    if wordOp h.word.toNat == some .aswap && bits h.word.toNat 95 92 == lx then
      { cl with flight := cl.flight.map (fun f => if f.key = h.key then { f with vec := 1 } else f) }
    else cl
  | none => cl

/-- A write job ends: 0 COMPLETE, 1 FAILED, 2 DISCARDED.  Its slot is free, the next job asks for one, its WDONE counts and
the write status word records it (R115, R120). -/
def State.endWrite (s : State) (c : Nat) (j : WriteJob) (res : Nat) : State :=
  let s := if j.running then s.modDie (dieOf c) (fun d => { d with slots := d.slots - 1 }) else s
  let s := s.modCell c (fun cl => { cl with wq := match cl.wq with
    | [] => []
    | h :: r => (if h.running then h else { h with slotWaitFrom := s.time }) :: r })
  if j.repair || j.spare || j.restore then s
  else
    let s := if j.relay && res != 0 then s.modCell c (fun cl => cl.swapLost j.lx) else s
    (s.modCell c (fun cl => { cl.tagDone (cl.tagWord == j.word && cl.tagPc == j.pc) s.time with
      wrStatus := writeWord j res cl.wq.length false })).addFlag c j.wdone 1

/-- The relay's image, null or complete, is discarded (R118); a completed image counts. -/
def State.dropRelay (s : State) (c : Nat) : State :=
  let cl := s.cell c
  let s := if 1 ≤ cl.relayImg && cl.relayImg ≤ 8 then s.count c Ev.wrRelayDiscard 1 [(1, cl.phys 8)] else s
  s.modCell c (fun cl => { cl with relayImg := 0 })

/-- A physical crossbar has FAILED (R124): logged, and handled as R125 says.  cause 0 row write, 1 recalibration,
2 converter self-calibration, 3 wear limit. -/
def State.failXbar (s : State) (r x cause : Nat) : State :=
  if (s.xbar r x).st = 3 then s
  else
    let s := s.modXbar r x (fun b => { b with st := 3, slice := 0 })
    let s := s.logR r Db.xbarFailed x [cause]
    match s.cellOf r with
    | none => s
    | some c =>
      let cl := s.cell c
      -- a write under way on the crossbar ends FAILED
      let bad := cl.wq.filter (fun j => j.running && !j.spare && j.phys == x)
      let s := s.modCell c (fun cl => { cl with wq := cl.wq.filter (fun j => !(j.running && !j.spare && j.phys == x)) })
      let relay := cl.phys 8
      let s := bad.foldl (fun s j =>
        (if x = relay && !j.repair then s.count c Ev.wrRelayDiscard 1 [(1, x)] else s).endWrite c j 1) s
      if x = relay then
        if cl.relayRepair then s.substitute c false else s.dropRelay c
      else if cl.relayRepair || (s.xbar r relay).st = 3 then s.substitute c false
      else
        let s := s.dropRelay c
        -- a pending relay image is discarded with its write
        let run := cl.wq.filter (fun j => j.running && !j.spare && j.phys == relay)
        let s := s.modCell c (fun cl => { cl with wq := cl.wq.filter (fun j => !(j.running && !j.spare && j.phys == relay)) })
        let s := run.foldl (fun s j => (s.count c Ev.wrRelayDiscard 1 [(1, relay)]).endWrite c j 2) s
        s.modCell c (fun cl => { cl with
          relayRepair := true
          wq := { WriteJob.reset with lx := cl.logical x, phys := relay, load := true, relay := true, repair := true,
                                      rowsArg := 512, slotWaitFrom := s.time } :: cl.wq })

end Sys2Proof.Machine
end

