-- ==== Sys2Proof/Machine/Analogue.lean ====
section
/-! DEFINITION. Machine/Analogue: AMV and AMVT, the reading of a crossbar and its confidence procedure (R67 to R104), the
digital product (R89, R179 to R181), range checks and arbitration (R354 to R360), and what the steward and the policy
engine do with the readings. -/

namespace Sys2Proof.Machine

/-! ### The input stage (R71, R72, R78, R82, R224) -/

/-- What drives a crossbar: codes and the exponent of s_in, nothing (R78, zero), or NaN (R78, 0xFF). -/
inductive Drive where
  | zero
  | nan
  | codes (x : List Int) (e : Int)
  deriving DecidableEq, Repr

/-- The input stage: one scale for the vector, elements rounded by RNE to the drive width (R71).
DEDUCED: log entry 34. -/
def inputStage (dw8 : Bool) (vs : List Fv) : Drive :=
  if vs.any (fun v => !v.fin) then .nan
  else
    let f := if dw8 then fINT8 else fINT4
    let S := scaleFor f 1 0xFE (amaxOf vs)
    let x := vs.map (fun v => sgn (fmtBits f) (quantElem f none (v.rat * pow2 (127 - (S : Int)))))
    if x.all (fun k => k == 0) then .zero else .codes x ((S : Int) - 127)

/-- Scale bytes of a row of a block-scaled stream. -/
def State.rowScales (s : State) (c : Nat) (d : Desc) (r : Nat) : List Nat :=
  (List.range (cdiv d.inner d.blkN)).map (fun b => leNat (s.rdOp c d.dev (d.scaleAddr r b) 1))

/-- The drive of row r of a source for AMV and TOPK SCAN (R71, R224).
DEDUCED: log entry 34. -/
def State.driveOf (s : State) (c : Nat) (d : Desc) (dw8 : Bool) (r : Nat) : Drive :=
  let ss := if d.sc then s.rowScales c d r else []
  let S := ss.headD 0
  if d.sc && ss.all (fun x => x == S) && (d.fmt == fINT4 || dw8) then
    if S = 0 then .zero
    else if S = 255 then .nan
    else .codes ((List.range d.inner).map (fun i => sgn (fmtBits d.fmt) (s.rawElem c d r i))) ((S : Int) - 127)
  else inputStage dw8 ((List.range d.inner).map (fun i => s.elemX c d r i))

/-- BF16 scale of a column group, as a number. -/
def Xbar.groupScale (b : Xbar) (g : Nat) : Fv := decElem fBF16 (tget b.scale g 0).toNat

/-- The drive of row r of a source for AMVT: each element times the scale of its group first (R82). -/
def State.driveT (s : State) (c : Nat) (b : Xbar) (d : Desc) (dw8 : Bool) (r : Nat) : Drive :=
  inputStage dw8 ((List.range d.inner).map (fun j => (s.elemX c d r j).mul (b.groupScale (j / 32))))

/-- Drive codes with masked lines at zero (R79). -/
def maskCodes (m : Nat → Bool) (x : List Int) : List Int :=
  (List.zip (List.range x.length) x).map (fun e => if m e.1 then e.2 else 0)

/-! ### One analogue read (R72 to R77, R81) -/

/-- Phase weights (R72). -/
def phaseWeights (dw8 : Bool) : List Int := if dw8 then [1, 2, 4, 8, 16, 32, 64, -128] else [1, 2, 4, -8]

/-- Conversion codes of phase p of read k of vector v: 516 to a phase, 8 phases to a read, 16 reads to a vector, the
first 8 for the confidence procedure and the others for an arbitration. -/
def convs (codes : List Int) (v k p : Nat) : List Int :=
  ((codes.drop (((v * 16 + k) * 8 + p) * 516)).take 516).map (clampI (-128) 127)

/-- Converter range of a group in code units (R68). -/
def Xbar.range (b : Xbar) (g : Nat) : Nat := 7680 / 2 ^ tget b.rng g 2

/-- Widest range among groups (R69, R81). -/
def Xbar.widest (b : Xbar) (gs : List Nat) : Nat := gs.foldl (fun m g => max m (b.range g)) 0

/-- Range of column col: that of its group, or of the groups a check column covers. -/
def Xbar.colRange (b : Xbar) (col : Nat) : Nat :=
  if col < 512 then b.range (col / 32) else b.widest ((List.range 4).map (fun k => (col - 512) * 4 + k))

/-- Temperature factor of R76; t is in 1/64 °C. -/
def Xbar.tempFactor (b : Xbar) (t : Int) : Rat := 1 + (b.tc : Rat) * ((t - b.tCal : Int) : Rat) / 64000000

/-- A rational held with 8 fractional bits (R77).
DEDUCED: log entry 35. -/
def fix8 (v : Rat) : Rat := mkRat (rneInt (v * 256)) 256

/-- Corrected sum of a column or, transposed, of a row, from the weighted sum of its conversion codes (R76, R82, R122).
DEDUCED: log entry 35. -/
def Xbar.corrected (b : Xbar) (t : Int) (trans dw8 : Bool) (col : Nat) (wk : Int) : Rat :=
  let w : Int := (phaseWeights dw8).sum
  let k : Rat := (b.k : Rat) / 32768
  if trans then
    (wk : Rat) * ((tget b.rowf col 32768 : Nat) : Rat) / 32768 * b.tempFactor t * ((b.widest (List.range 16) : Nat) : Rat) / 128 * k
  else
    ((wk : Rat) - (w : Rat) * ((tget b.off col 0 : Int) : Rat) / 4) * ((tget b.gain col 32768 : Nat) : Rat) / 32768 *
      b.tempFactor t * ((b.colRange col : Nat) : Rat) / 128 * k

/-- The corrected sums of one read: 516 columns, or 512 rows. -/
def Xbar.readSums (b : Xbar) (t : Int) (trans dw8 : Bool) (codes : List Int) (v k : Nat) : List Rat :=
  let ws := phaseWeights dw8
  let ps := (List.range ws.length).map (fun p => (ws.getD p 0, convs codes v k p))
  (List.range (if trans then 512 else 516)).map (fun col =>
    fix8 (b.corrected t trans dw8 col ((ps.map (fun p => p.1 * p.2.getD col 0)).sum)))

/-- The mean of n reads from read k0 on: sums in fixed point, then an exact shift (R88).
DEDUCED: log entry 35. -/
def Xbar.meanSums (b : Xbar) (t : Int) (trans dw8 : Bool) (codes : List Int) (v k0 n : Nat) : List Rat :=
  let rs := (List.range n).map (fun k => b.readSums t trans dw8 codes v (k0 + k))
  (List.range (if trans then 512 else 516)).map (fun col => (rs.map (fun r => r.getD col 0)).sum / (n : Rat))

/-- Saturated conversions of a read, per line: those at −128 or +127 (R74). -/
def saturated (trans dw8 : Bool) (codes : List Int) (v k : Nat) (mask : Nat → Bool) : List Nat :=
  let ps := (List.range (phaseWeights dw8).length).map (fun p => convs codes v k p)
  (List.range (if trans then 512 else 516)).map (fun col =>
    if 512 ≤ col || mask col then (ps.filter (fun p => let x := p.getD col 0; x == -128 || x == 127)).length else 0)

/-! ### The check (R83 to R86) -/

/-- Check divisor of a check column. -/
def Xbar.div (b : Xbar) (k : Nat) : Nat := tget b.dv k 1

/-- Residual of check column k of an AMV (R84), none where it is not evaluated (R80, R119). -/
def Xbar.residual (b : Xbar) (x : List Int) (y : List Rat) (mask : Nat → Bool) (k : Nat) : Option Rat :=
  if b.susp.contains k || (List.range 128).any (fun j => !mask (128 * k + j)) then none
  else
    some (((b.div k : Nat) : Rat) * y.getD (512 + k) 0 - (((y.drop (128 * k)).take 128).sum) +
      (((List.zip (List.range x.length) x).map (fun e => e.2 * tget b.rem (e.1 * 4 + k) 0)).sum : Int))

/-- Residual of row group k of an AMVT (R85). -/
def Xbar.residualT (b : Xbar) (x : List Int) (y : List Rat) (mask : Nat → Bool) (k : Nat) : Option Rat :=
  if (List.range 128).any (fun i => !mask (128 * k + i)) then none
  else
    some ((((y.drop (128 * k)).take 128).sum) -
      (((List.zip (List.range x.length) x).map (fun e => e.2 * tget b.tot (e.1 * 4 + k) 0)).sum : Int))

/-- σ of a crossbar in code units (R86): NOISE_SIGMA × 15,360. -/
def sigmaUnits (n : Nat) : Rat := mkRat ((n * 15360 : Nat) : Int) 100000

/-- Square of the bound of a residual (R86): CONF_BOUND counts quarters. -/
def Xbar.bound2 (b : Xbar) (cb : Nat) (trans dw8 : Bool) (k : Nat) : Rat :=
  let sg := sigmaUnits (if trans then b.sigmaT else b.sigma)
  (mkRat cb 4) ^ 2 * sg ^ 2 * ((if trans then 128 else b.div k ^ 2 + 128 : Nat) : Rat) * (if dw8 then 257 else 1)

/-- The residuals of a mean of reads. -/
def Xbar.residuals (b : Xbar) (trans : Bool) (x : List Int) (y : List Rat) (mask : Nat → Bool) : List (Nat × Option Rat) :=
  (List.range 4).map (fun k => (k, if trans then b.residualT x y mask k else b.residual x y mask k))

/-- Whether every evaluated residual lies within its bound. -/
def Xbar.passes (b : Xbar) (cb : Nat) (trans dw8 : Bool) (rs : List (Nat × Option Rat)) : Bool :=
  rs.all (fun r => match r.2 with
    | none => true
    | some v => decide (v * v ≤ b.bound2 cb trans dw8 r.1))

/-! ### One vector of a product instruction -/

/-- A vector of a product: the flight's key, crossbar, row of the source, kind, drive width, masks. -/
structure Vect where
  key : Nat
  lx : Nat
  row : Nat
  trans : Bool
  scan : Bool
  dw8 : Bool
  inM : Nat → Bool
  outM : Nat → Bool

/-- Whether a flight is a product instruction: AMV, AMVT or TOPK SCAN (R225). -/
def Flight.isProduct (f : Flight) : Bool :=
  let w := f.word.toNat
  match wordOp w with
  | some .amv => true
  | some .amvt => true
  | some .topk => bits w 30 29 == 0
  | _ => false

/-- Whether a product is a TOPK SCAN. -/
def Flight.isScan (f : Flight) : Bool := wordOp f.word.toNat == some .topk
/-- Whether a product is an AMVT. -/
def Flight.isT (f : Flight) : Bool := wordOp f.word.toNat == some .amvt

/-- Vectors of a product: a SCAN counts one per query and logical crossbar. -/
def Flight.total (f : Flight) : Nat := if f.isScan then f.src.outer * 8 else f.src.outer

/-- Logical crossbars a product reads. -/
def Flight.xbars (f : Flight) : List Nat :=
  let w := f.word.toNat
  if f.isScan then (List.range 8).filter (fun b => bit (bits w 47 40) b) else [bits w 47 44]

/-- Vector v of a product. -/
def State.vectOf (s : State) (c : Nat) (f : Flight) (v : Nat) : Vect :=
  let w := f.word.toNat
  let m (on : Bool) (a i : Nat) : Bool := if on then s.maskBit c a i else true
  { key := f.key, lx := if f.isScan then v % 8 else bits w 47 44, row := if f.isScan then v / 8 else v
    trans := f.isT, scan := f.isScan, dw8 := f.dw8
    inM := m (bit (wordMod w) 0) f.par.maskIn, outM := m (bit (wordMod w) 1) f.par.maskOut }

/-! ### Lists of a SCAN (R242) -/

/-- Whether list entry a comes before b: score bits and item. -/
def entryBefore (a b : Nat × Nat) : Bool :=
  let x := dec32 a.1
  let y := dec32 b.1
  y.lt x || (!x.lt y && decide (a.2 < b.2))

/-- Insertion of an entry in sorted place. -/
def insEntry (e : Nat × Nat) (l : List (Nat × Nat)) : List (Nat × Nat) :=
  match l with
  | [] => [e]
  | x :: r => if entryBefore e x then e :: x :: r else x :: insEntry e r

/-- The best k of a list of entries and further entries, NaN scores dropped. -/
def bestOf (k : Nat) (l es : List (Nat × Nat)) : List (Nat × Nat) :=
  es.foldl (fun l e => if dec32 e.1 == .nan then l else (insEntry e l).take k) l

/-- The filler entry: −Inf and 0xFFFF_FFFF. -/
def fillEntry : Nat × Nat := (0xFF800000, 0xFFFFFFFF)

/-- n list entries at a cell-local address. -/
def State.rdEntries (s : State) (c a n : Nat) : List (Nat × Nat) :=
  (List.range n).map (fun i => (s.rdLocN c (a + 8 * i) 4, s.rdLocN c (a + 8 * i + 4) 4))

/-- List entries written at a cell-local address. -/
def State.wrEntries (s : State) (c a : Nat) (l : List (Nat × Nat)) : State :=
  s.modCell c (fun cl => cl.wrLoc a (l.flatMap (fun e => leBytes 4 e.1 ++ leBytes 4 e.2)))

/-! ### Output and range check (R77, R79, R354) -/

/-- The FP32 outputs of corrected sums in code units. -/
def outputs (b : Xbar) (trans : Bool) (e : Int) (y : List Rat) : List Fv :=
  (List.range 512).map (fun j =>
    let v : Fv := .num (y.getD j 0 * pow2 e) false
    (if trans then v else v.mul (b.groupScale (j / 32))).r32)

/-- Outputs written: a row of the destination, or the scores of a query joined to its list.  A masked output is left
untouched, or written +0.0 under ZFILL (R79). -/
def State.writeOut (s : State) (c : Nat) (f : Flight) (v : Vect) (out : List Fv) : State :=
  if v.scan then
    let w := f.word.toNat
    let k := bits w 39 31
    let a := bits w 79 64 * 32 + v.row * 8 * k
    let es := (List.zip (List.range 512) out).filterMap (fun x =>
      if v.outM x.1 then some (enc32 x.2, c * 4096 + v.lx * 512 + x.1) else none)
    s.wrEntries c a (bestOf k (s.rdEntries c a k) es)
  else
    let zfill := bit (wordMod f.word.toNat) 2
    (List.zip (List.range 512) out).foldl (fun s x =>
      if v.outM x.1 then s.wrElem c f.dst v.row x.1 (encWide f.dst.fmt none x.2)
      else if zfill then s.wrElem c f.dst v.row x.1 0 else s) s

/-- Offset of a column group in a range record. -/
def rangeOff (lx g : Nat) : Nat := 4 + 12 * (lx * 16 + g)

/-- Outputs of an AMV outside the limits of their group (R354). -/
def State.outOfRange (s : State) (c : Nat) (v : Vect) (out : List Fv) : List Nat :=
  if v.scan || v.trans then []
  else
    (List.range 512).filter (fun j =>
      let o := rangeOff v.lx (j / 32)
      v.outM j && s.fld 0 Ty.range c o 1 != 0 &&
        (let x := out.getD j .zero
         x.lt (dec32 (s.fld 0 Ty.range c (o + 4) 4)) || (dec32 (s.fld 0 Ty.range c (o + 8) 4)).lt x))

/-- The next region after r on its die that may serve as a reference (R357). -/
def State.refRegion (s : State) (r : Nat) : Option Nat :=
  ((List.range 271).map (fun i => r / 272 * 272 + (r % 272 + 1 + i) % 272)).find? (fun q =>
    (s.phy q).rst == 0 && !(s.phy q).quar && !(s.phy q).suspect)

/-- A flight of a cell by its key. -/
def Cell.byKey (cl : Cell) (k : Nat) : Option Flight := cl.flight.find? (fun f => f.key == k)

/-- A flight of a cell changed. -/
def State.modFlight (s : State) (c k : Nat) (g : Flight → Flight) : State :=
  s.modCell c (fun cl => { cl with flight := cl.flight.map (fun f => if f.key = k then g f else f) })

/-- Qualifier of a physical crossbar (R501). -/
def xq (x : Nat) : List (Nat × Nat) := [(1, x)]

/-- The outputs of a vector are written and its counts taken; an output outside its limits is a range event, which a
reread (sums y8, for a vector read in the arrays) or a reference product resolves (R354, R356, R357).
DEDUCED: log entry 37. -/
def State.finishVect (s : State) (c : Nat) (f : Flight) (v : Vect) (x : List Int) (e : Int) (y : List Rat)
    (analogue : Bool) (y8 : List Rat) (npos : Nat) : State :=
  let r := s.reg c
  let px := (s.cell c).phys v.lx
  let b := s.xbar r px
  let out := outputs b v.trans e y
  let s := s.writeOut c f v out
  if (s.outOfRange c v out).isEmpty then s
  else
    let s := (s.count c Ev.rangeEvent 1 (xq px)).logR r Db.xbarEvent px [4]
    let y := if analogue then y8 else y
    let out := if analogue then outputs b v.trans e y else out
    let bad := s.outOfRange c v out
    let s := if analogue then s.writeOut c f v out else s
    if analogue && bad.isEmpty then s.count c Ev.rangeNoise 1 (xq px)
    else match s.refRegion r with
      | none => s.count c Ev.rangeUnresolved 1 (xq px)
      | some q =>
        (s.modFlight c f.key (fun f => { f with left := f.left + 1 })).modCell c (fun cl => { cl with
          arbs := cl.arbs ++ [{ key := f.key, dw8 := v.dw8, lx := v.lx, vec := v.row, x := x, scale := e
                                y := y.map some, bad := bad, analogue := analogue, npos := npos, ref := q }] })

/-! ### The digital product (R89, R180, R181) -/

/-- A code of a codes plane.
DEDUCED: log entry 38. -/
def State.codeAt (s : State) (base i j : Nat) : Int := sgn 8 (s.rd8 (base + i * 512 + j)).toNat

/-- Whether a codes plane holds a code outside −15 to +15 (R109).
DEDUCED: log entry 38. -/
def State.badCodes (s : State) (base : Nat) : Bool :=
  (List.range 262144).any (fun k => let n := (s.rd8 (base + k)).toNat; decide (15 < n) && decide (n < 241))

/-- The exact integer sums of a product from the codes plane. -/
def State.codeSums (s : State) (base : Nat) (trans : Bool) (x : List Int) : List Int :=
  let nz := (List.zip (List.range x.length) x).filter (fun e => e.2 != 0)
  (List.range 512).map (fun j => (nz.map (fun e => e.2 * (if trans then s.codeAt base j e.1 else s.codeAt base e.1 j))).sum)

/-- FP32 value of √257. -/
def sqrt257 : Fv := .num (sqrtSig 24 257) false

/-- Noise of output j of an inserted product, in code units; 0 where none is injected (R180). -/
def State.digNoise (s : State) (c mb npos : Nat) (b : Xbar) (trans dw8 : Bool) (j : Nat) : Rat :=
  let p := s.owner c
  let m := s.fld p Ty.arrayRead p 4 1
  let sg : Fv := if m = 1 then .num (mkRat ((if trans then b.sigmaT else b.sigma : Nat) : Int) 100000) false
                 else dec32 (s.fld p Ty.arrayRead p 8 4)
  let sc := (sg.mul (.num 15360 false)).r32
  let sc := if dw8 then (sc.mul sqrt257).r32 else sc
  fix8 ((sc.mul (noiseZ (s.noiseSum c mb (npos + j)))).r32).rat

/-- Whether an inserted product of a cell carries noise (R180, R285). -/
def State.injects (s : State) (c : Nat) (scan : Bool) : Bool :=
  !scan && !(s.cell c).eval && s.fld (s.owner c) Ty.arrayRead (s.owner c) 4 1 != 0

/-- The corrected sums of a digital product, noise added (R89, R180). -/
def State.digitalSums (s : State) (c lx : Nat) (trans scan dw8 : Bool) (mb npos : Nat) (x : List Int) : List Rat :=
  let cl := s.cell c
  let b := s.xbar (s.reg c) (cl.phys lx)
  let y := s.codeSums (s.planeBase c (cl.set lx) 0) trans x
  if s.injects c scan then
    (List.zip (List.range 512) y).map (fun e => (e.2 : Rat) + s.digNoise c mb npos b trans dw8 e.1)
  else y.map (fun k => (k : Rat))

/-- Micro-batch tag of a product's noise: bits [41:36] of AMV and AMVT. -/
def Flight.noiseTag (f : Flight) : Nat := bits f.word.toNat 41 36

/-! ### Paths and waits (R100, R249 to R252) -/

/-- Whether a condition of R251 sends a crossbar's products to the engine under AUTO. -/
def State.autoDigital (s : State) (r x : Nat) : Bool :=
  let b := s.xbar r x
  b.st == 2 || b.st == 3 || (s.phy r).hot || !b.calOk || b.selfCal

/-- What a product on a logical crossbar meets. -/
inductive Path where
  | arrays
  | engine
  | noWait
  | wait
  | fault (cause : Nat)
  deriving DecidableEq, Repr

/-- Path of a product on a logical crossbar (R100, R251, R252). -/
def State.pathOf (s : State) (c lx : Nat) (trans nowait : Bool) : Path :=
  let p := s.owner c
  let r := s.reg c
  let cl := s.cell c
  let x := cl.phys lx
  let b := s.xbar r x
  let fwd := s.mode p 0 1
  let auto := fwd == 2 && s.autoDigital r x
  let eng := if trans then s.mode p 1 1 == 1 || auto else fwd == 1 || auto
  if b.st = 4 then .fault 0
  else if eng then .engine
  else if b.st = 3 then .fault 1
  else if cl.wq.any (fun j => j.running && !j.spare && j.phys == x) then (if nowait then .noWait else .wait)
  else if b.selfCal || !b.calOk then .wait
  else .arrays

/-! ### Reading a vector in the arrays (R87, R88, R91, R93) -/

/-- Read counts the confidence procedure tries, in order (R87, R88): the mode in force lies between CONF_MODE and
CONF_CEIL. -/
def readCounts (floor ceil maxr conf : Nat) : List Nat :=
  match min (max floor conf) ceil with
  | 0 => [1]
  | 1 => [1, 2, 4, 8].filter (fun n => n ≤ max maxr 1)
  | m => [2 ^ (m - 1)]

/-- Event of a pass at a read count. -/
def passEvent (n : Nat) : Nat :=
  match n with
  | 1 => Ev.ardPass1
  | 2 => Ev.ardPass2
  | 4 => Ev.ardPass4
  | _ => Ev.ardPass8

/-- The residual statistics of the first read of a vector (R91, N2), and the bias event.
DEDUCED: log entry 36. -/
def State.residualStats (s : State) (r x : Nat) (rs : List (Nat × Option Rat)) : State :=
  let b := s.xbar r x
  let sg := sigmaUnits b.sigma
  let b' := rs.foldl (fun b e => match e.2 with
    | none => b
    | some v =>
      let n := v / sg
      let m := tget b.resM e.1 0
      let q := tget b.resQ e.1 1
      { b with resM := tset b.resM e.1 (m + (n - m) / 4096) 0
               resQ := tset b.resQ e.1 (q + (n * n / ((b.div e.1 ^ 2 + 128 : Nat) : Rat) - q) / 4096) 1 }) b
  let exceed := (List.range 4).any (fun k =>
    decide (((b'.div k ^ 2 + 128 : Nat) : Rat) / 4 < tget b'.resM k 0 * tget b'.resM k 0))
  let s := s.modXbar r x (fun _ => { b' with biased := exceed })
  if exceed && !b.biased then (s.logR r Db.xbarEvent x [0]).requestCal 2 r x 0 else s

/-- Sums and sums of squares of the outputs of each group, and the output-shift event over 65,536 outputs of a
baselined group (R93). -/
def State.outputStats (s : State) (r x : Nat) (mask : Nat → Bool) (out : List Fv) : State :=
  let b := s.xbar r x
  let grp (g : Nat) : List Rat :=
    ((List.range 32).filter (fun k => mask (32 * g + k))).map (fun k => (out.getD (32 * g + k) .zero).rat)
  let b := (List.range 16).foldl (fun b g =>
    { b with outS := tset b.outS g (tget b.outS g 0 + (grp g).sum) 0
             outQ := tset b.outQ g (tget b.outQ g 0 + ((grp g).map (fun v => v * v)).sum) 0 }) { b with outN := b.outN + 1 }
  if b.base.isEmpty || b.outN < 65536 then s.modXbar r x (fun _ => b)
  else
    let n : Rat := ((b.outN * 32 : Nat) : Rat)
    let shift := b.base.any (fun e =>
      let m := tget b.outS e.1 0 / n
      let v := tget b.outQ e.1 0 / n - m * m
      decide (v < e.2.2 / 4) || decide (4 * e.2.2 < v) || decide (e.2.2 / 16 < (m - e.2.1) * (m - e.2.1)))
    let s := s.modXbar r x (fun _ => { b with outN := 0, outS := [], outQ := [] })
    if shift then s.logR r Db.xbarEvent x [2] else s

/-- A product on a crossbar counted: the event, and the windows of R75, R90 and R92. -/
def State.countProduct (s : State) (c x : Nat) : State :=
  (s.count c Ev.ardProducts 1 (xq x)).modXbar (s.reg c) x (fun b => { b with prods := b.prods + 1 })

/-- A vector is handed to the matrix engine (R89, R179). -/
def State.insert (s : State) (c : Nat) (f : Flight) (v : Vect) (x : List Int) (e : Int) (redo : Bool) (npos : Nat) : State :=
  (s.modFlight c f.key (fun f => { f with left := f.left + 1 })).modCell c (fun cl => { cl with
    ins := cl.ins ++ [{ key := f.key, lx := v.lx, vec := v.row, x := x, scale := e, transposed := v.trans, dw8 := v.dw8
                        redo := redo, npos := npos, scan := v.scan }] })

/-- A vector read in the arrays under the confidence procedure (R88).
DEDUCED: log entry 10. -/
def State.readVect (s : State) (c : Nat) (f : Flight) (v : Vect) (vix : Nat) (x : List Int) (e : Int) (codes : List Int)
    (npos : Nat) : State :=
  let p := s.owner c
  let r := s.reg c
  let px := (s.cell c).phys v.lx
  let b := s.xbar r px
  let t := (s.phy r).temp
  let ar (o : Nat) := s.fld p Ty.arrayRead p o 1
  let cb := ar 0
  let ns := readCounts (ar 1) (ar 2) (ar 3) b.conf
  let mean (n : Nat) := b.meanSums t v.trans v.dw8 codes vix 0 n
  let ok (n : Nat) := b.passes cb v.trans v.dw8 (b.residuals v.trans x (mean n) v.outM)
  let done := ns.find? ok
  let reads := done.getD (ns.getLastD 1)
  let first := b.residuals v.trans x (b.readSums t v.trans v.dw8 codes vix 0) v.outM
  -- conversions, saturated ones and skipped checks are counted
  let sats := (List.range reads).map (fun k => saturated v.trans v.dw8 codes vix k v.outM)
  let line (j : Nat) := (sats.map (fun l => l.getD j 0)).sum
  let lines := if v.trans then 512 else 516
  let s := s.count c Ev.ardConvSat (((List.range lines).map line).sum) (xq px)
  let s := if v.trans then s else s.modXbar r px (fun b =>
    (List.range 16).foldl (fun b g =>
      let n := ((List.range 32).filter (fun k => v.outM (32 * g + k))).length * reads * (phaseWeights v.dw8).length
      { b with conv := tset b.conv g (tget b.conv g 0 + n) 0
               sat := tset b.sat g (tget b.sat g 0 + ((List.range 32).map (fun k => line (32 * g + k))).sum) 0 }) b)
  let skipped := (first.filter (fun q => q.2.isNone && !(b.susp.contains q.1 && !v.trans))).length
  let s := s.count c Ev.ardCheckSkipped skipped (xq px)
  let s := if v.trans then s else (s.residualStats r px first).layerResid p f.src.tag (sigmaUnits b.sigma) first b.div
  match done with
  | some n =>
    let s := (s.count c (passEvent n) 1 (xq px)).countProduct c px
    let y := mean n
    let s := if v.trans then s else s.outputStats r px v.outM (outputs b false e y)
    s.finishVect c f v x e y true (b.meanSums t v.trans v.dw8 codes vix 8 8) npos
  | none =>
    let s := (s.count c Ev.ardDigitalRedo 1 (xq px)).modXbar r px (fun b => { b with redos := b.redos + 1 })
    s.insert c f v x e true npos

/-- One vector of a product: written under R78, read in the arrays, or handed to the engine. -/
def State.startVect (s : State) (c : Nat) (f : Flight) (vix : Nat) (path : Path) (codes : List Int) : State :=
  let v := s.vectOf c f vix
  let px := (s.cell c).phys v.lx
  let b := s.xbar (s.reg c) px
  let mb := f.noiseTag
  let npos := s.noisePos c mb
  let s := if v.scan then s else s.noiseMove c mb 512
  match (if v.trans then s.driveT c b f.src v.dw8 v.row else s.driveOf c f.src v.dw8 v.row) with
  | .nan => (s.count c Ev.ardNonfinite 1 (xq px)).writeOut c f v (List.replicate 512 .nan)
  | .zero => s.finishVect c f v [] 0 [] false [] npos
  | .codes x e =>
    let x := maskCodes v.inM x
    if (List.range 512).all (fun i => !v.inM i) then s.finishVect c f v [] 0 [] false [] npos
    else match path with
      | .arrays => s.readVect c f v vix x e codes npos
      | .noWait => (s.count c Ev.ardNowaitDigital 1 (xq px)).insert c f v x e false npos
      | _ => s.insert c f v x e false npos

/-- The vectors of a product from the next one on; a fifth arbitration holds the array unit (R359). -/
def State.startVects (s : State) (fuel c key : Nat) (codes : List Int) : State :=
  match fuel with
  | 0 => s
  | n + 1 =>
    match (s.cell c).byKey key with
    | none => s
    | some f =>
      if f.total ≤ f.vec || 4 ≤ (s.cell c).arbs.length then s
      else
        let w := f.word.toNat
        let lx := (s.vectOf c f f.vec).lx
        let s := s.modFlight c key (fun f => { f with vec := f.vec + 1, started := true })
        let s := if f.xbars.contains lx then s.startVect c f f.vec (s.pathOf c lx f.isT (bit (wordMod w) 3)) codes else s
        s.startVects n c key codes

/-- The array unit's next instruction that has not started all its work, if it is a product. -/
def Cell.nextProduct (cl : Cell) : Option Flight :=
  match cl.flight.find? (fun f => f.unit == 1 && !(f.isProduct && (f.total ≤ f.vec || f.status == 1))) with
  | some f => if f.isProduct then some f else none
  | none => none

/-- PRODUCT_START (R225): the next product starts once its crossbars are free, or faults (R100).  codes are the
conversions the column converters return.
DEDUCED: log entry 10. -/
def execProductStart (c : Cid) (codes : List Int) (s : State) : Out :=
  if !s.regionOn c || s.pow.overcur then .next s
  else match (s.cell c).nextProduct with
  | none => .next s
  | some f =>
    let paths := f.xbars.map (fun lx => s.pathOf c lx f.isT (bit (wordMod f.word.toNat) 3))
    match paths.filterMap (fun p => match p with | .fault k => some k | _ => none) with
    | k :: _ =>
      if f.started then .next s
      else .next (s.faultAt c Fc.analogue k f.pc f.word 0 1)
    | [] =>
      if paths.contains .wait then .next s
      else .next (s.startVects f.total c f.key codes)

/-- A result returns to a product: nothing further where the instruction has left the unit. -/
def State.unleft (s : State) (c key : Nat) : State := s.modFlight c key (fun f => { f with left := f.left - 1 })

/-- INSERTED_PRODUCT (R89, R179): the engine runs the oldest inserted product. -/
def execInsertedProduct (c : Cid) (s : State) : Out :=
  let cl := s.cell c
  match cl.ins with
  | [] => .next s
  | j :: rest =>
    if !s.regionOn c then .next s
    else
      let t := s.modCell c (fun cl => { cl with ins := rest })
      match cl.byKey j.key with
      | none => .next t
      | some f =>
        if s.badCodes (s.planeBase c (cl.set j.lx) 0) then .next (t.faultAt c Fc.analogue 4 f.pc f.word 0 1)
        else
          let v := { t.vectOf c f (if j.scan then j.vec * 8 + j.lx else j.vec) with lx := j.lx }
          let y := s.digitalSums c j.lx j.transposed j.scan j.dw8 f.noiseTag j.npos j.x
          let t := t.count c Ev.dmmInserted 1
          let t := if s.injects c j.scan then (t.count c Ev.dmmNoiseDraws 2048).count c Ev.diceDraws 2048 else t
          let t := t.countProduct c (cl.phys j.lx)
          .next ((t.finishVect c f v j.x j.scale y false [] j.npos).unleft c j.key)

/-! ### Arbitration (R355 to R360) -/

/-- Square of the tolerance of an arbitration, in code units (R355, R356). -/
def State.arbTol2 (s : State) (c : Nat) (j : ArbJob) : Rat :=
  if j.analogue then
    let p := s.owner c
    let b := s.xbar (s.reg c) ((s.cell c).phys j.lx)
    let sg := sigmaUnits b.sigma
    let tol := mkRat (s.fld p Ty.arrayWrite p 0 1) 8
    (mkRat (s.fld 0 Ty.range c 0 1) 4) ^ 2 *
      (sg ^ 2 * (if j.dw8 then 257 else 1) / 8 + (((j.x.map (fun k => k * k)).sum : Int) : Rat) * tol ^ 2 / 3)
  else 0

/-- The limits that a result crossed are moved outward, one eighth of their distance beyond it (R358). -/
def State.widenLimits (s : State) (c lx : Nat) (bad : List Nat) (out : List Fv) : State :=
  (List.range 16).foldl (fun s g =>
    let o := rangeOff lx g
    let lo := dec32 (s.fld 0 Ty.range c (o + 4) 4)
    let hi := dec32 (s.fld 0 Ty.range c (o + 8) 4)
    let gap := ((hi.add lo.opp).mul (.num (mkRat 1 8) false))
    let vs := (bad.filter (fun j => j / 32 == g)).map (fun j => out.getD j .zero)
    let under := vs.filter (fun v => v.lt lo)
    let exceed := vs.filter (fun v => hi.lt v)
    if under.isEmpty && exceed.isEmpty then s
    else
      let nlo := if under.isEmpty then lo else (under.foldl Fv.min lo).add gap.opp
      let nhi := if exceed.isEmpty then hi else (exceed.foldl Fv.max hi).add gap
      ((s.setFld 0 Ty.range c (o + 4) 4 (enc32 nlo)).setFld 0 Ty.range c (o + 8) 4 (enc32 nhi)).logC c Db.rangeWiden
        (lx + g * 256) [enc32 lo + enc32 hi * 2 ^ 32, enc32 nlo + enc32 nhi * 2 ^ 32]) s

/-- REFERENCE_PRODUCT_RETURN (R356 to R360): the reference cell's product of the oldest arbitration returns.
DEDUCED: log entry 37. -/
def execReferenceProductReturn (c : Cid) (s : State) : Out :=
  let cl := s.cell c
  match cl.arbs with
  | [] => .next s
  | j :: rest =>
    let r := s.reg c
    let px := cl.phys j.lx
    let ok (q : Nat) : Bool := (s.phy q).rst == 0 && !(s.phy q).quar
    let drop := s.modCell c (fun cl => { cl with arbs := rest })
    match cl.byKey j.key with
    | none => .next drop
    | some f =>
      if !ok j.ref then
        -- the next qualifying cell runs the product (R374)
        match s.refRegion r with
        | some q => .next (s.modCell c (fun cl => { cl with arbs := { j with ref := q } :: rest }))
        | none => .next ((drop.count c Ev.rangeUnresolved 1 (xq px)).unleft c j.key)
      else if s.badCodes (s.planeBase c (cl.set j.lx) 0) then .next (drop.faultAt c Fc.analogue 4 f.pc f.word 0 1)
      else
        let b := s.xbar r px
        let v := { s.vectOf c f j.vec with lx := j.lx }
        let y := j.y.map (fun a => a.getD 0)
        let yr := s.digitalSums c j.lx false false j.dw8 f.noiseTag j.npos j.x
        let tol := s.arbTol2 c j
        let agree := j.bad.all (fun i => decide ((y.getD i 0 - yr.getD i 0) ^ 2 ≤ tol))
        let t := match s.cellOf j.ref with
          | some q => drop.count q Ev.dmmInserted 1
          | none => drop
        let t := if agree then (t.widenLimits c j.lx j.bad (outputs b false j.scale y)).count c Ev.rangeWiden 1 (xq px)
                 else ((t.writeOut c f v (outputs b false j.scale yr)).quarantine r 0 0).count c Ev.rangeQuarantine 1 (xq px)
        .next (t.unleft c j.key)

/-! ### What the policy engine and the steward do with the readings -/

/-- CONV_RANGE_WIDEN (R75): more than 1 in 1,000 of a group's conversions saturated over 65,536 products. -/
def execConvRangeWiden (r : Rid) (x : Xb) (g : Fin 16) (s : State) : Out :=
  let b := s.xbar r x
  let i := tget b.rng g 2
  if 65536 ≤ b.prods && tget b.conv g 0 < 1000 * tget b.sat g 0 && 0 < i then
    .next (s.modXbar r x (fun b => { b with rng := tset b.rng g (i - 1) 2, sat := tset b.sat g 0 0, conv := tset b.conv g 0 0 }))
  else .next s

/-- CROSSBAR_SUSPECT (R90): more than 16 digital redos within 65,536 products. -/
def execCrossbarSuspect (r : Rid) (x : Xb) (s : State) : Out :=
  let b := s.xbar r x
  if 16 < b.redos && b.st = 0 then .next ((s.modXbar r x (fun b => { b with st := 2 })).requestCal 2 r x 0) else .next s

/-- Nearest integer to the square root of a rational. -/
def sqrtRound (v : Rat) : Nat :=
  let m := Nat.sqrt (Rat.floor v).toNat
  if (m : Rat) + mkRat 1 2 ≤ 0 then 0 else if ((2 * m + 1 : Nat) : Rat) ^ 2 ≤ 4 * v then m + 1 else m

/-- NOISE_SIGMA_UPDATE (R92): every 65,536 products, by the root of the mean square residual.
DEDUCED: log entry 36. -/
def execNoiseSigmaUpdate (r : Rid) (x : Xb) (s : State) : Out :=
  let b := s.xbar r x
  if b.prods < 65536 then .next s
  else
    let q := ((List.range 4).map (fun k => tget b.resQ k 1)).sum / 4
    let n := sqrtRound ((b.sigma : Rat) ^ 2 * q)
    let lo := (b.sigmaCal + 1) / 2
    let hi := 2 * b.sigmaCal
    let out := n < lo || hi < n
    let t := s.modXbar r x (fun b => { b with sigma := min (max n lo) hi, prods := 0, redos := 0, sat := [], conv := [] })
    .next (if out then (t.logR r Db.xbarEvent x [1]).requestCal 2 r x 0 else t)

/-- OUTPUT_BASELINE (R93): after the first 65,536 products since programming, the groups' mean and variance. -/
def execOutputBaseline (r : Rid) (x : Xb) (s : State) : Out :=
  let b := s.xbar r x
  if b.base.isEmpty && 65536 ≤ b.outN then
    let n : Rat := ((b.outN * 32 : Nat) : Rat)
    .next (s.modXbar r x (fun b => { b with
      base := (List.range 16).map (fun g => let m := tget b.outS g 0 / n; (g, m, tget b.outQ g 0 / n - m * m))
      outN := 0, outS := [], outQ := [] }))
  else .next s

/-- K held within 0.90 to 1.10 and rounded to its field; a value outside raises the drift event (R123).
DESIGN CHOICE: log entry 44. -/
def State.setK (s : State) (r x : Nat) (k : Rat) : State :=
  let lo := mkRat 9 10
  let hi := mkRat 11 10
  let h := if k < lo then lo else if hi < k then hi else k
  let s := s.modXbar r x (fun b => { b with k := rneNat (h * 32768) })
  if h = k then s else (s.logR r Db.xbarEvent x [3]).requestCal 2 r x 0

/-- K that a reference read gives (R122, R123): the mean of E/M over the check columns that qualify; codes are the conversions of C0
to C3.  With none it follows DRIFT_SLOPE over the time since programming, by a formula the spec does not give; a corrected sum of zero
has no stated ratio.
DESIGN CHOICE: log entry 43. -/
def State.refK (s : State) (r x : Nat) (codes : List Int) : Rat :=
  let b := s.xbar r x
  let t := (s.phy r).temp
  let b1 := { b with k := 32768 }
  let ratio (k : Nat) : Option Rat :=
    let e : Int := ((List.range 512).map (fun i => tget b.qc (i * 4 + k) 0)).sum
    let code := clampI (-128) 127 (codes.getD k 0)
    let m := ((code : Rat) - ((tget b.off (512 + k) 0 : Int) : Rat) / 4) * ((tget b.gain (512 + k) 32768 : Nat) : Rat) / 32768 *
      b1.tempFactor t * ((b.colRange (512 + k) : Nat) : Rat) / 128
    if e.natAbs < 480 then none else if m = 0 then some (Config.zeroRatio e) else some ((e : Rat) / m)
  let rs := (List.range 4).filterMap ratio
  if rs.isEmpty then mkRat (Config.driftK b.slope (s.time - b.progTime)) 32768 else rs.sum / (rs.length : Rat)

/-- DRIFT_REF_READ (R122, R123): a reference read of a live crossbar, once per period. -/
def execDriftRefRead (r : Rid) (x : Xb) (codes : List Int) (s : State) : Out :=
  match s.cellOf r with
  | none => .next s
  | some c =>
    let p := s.owner c
    let b := s.xbar r x
    if s.fld p Ty.arrayRead p 5 1 = 0 || !s.regionOn c || ((s.cell c).logical x == 8) || 2 < b.st ||
        !s.passed b.refAt (s.fld p Ty.arrayRead p 12 4 * 1000000) then .next s
    else
      let k := s.refK r x codes
      .next (((s.count c Ev.driftRefReads 1 (xq x)).modXbar r x (fun b => { b with refAt := s.time })).setK r x k)

/-! ### Issue of AMV, AMVT and AREAD (R223 to R226) -/

/-- What issue learns of AMV and AMVT, and whether the drive is INT8.
DEDUCED: log entry 31. -/
def State.issAmv (s : State) (c w : Nat) : Iss × Bool :=
  let mi := bit (wordMod w) 0
  let mo := bit (wordMod w) 1
  let dw := bits w 43 42
  let (a, ia) := s.streamDesc c (bits w 95 80)
  let (d, id) := s.streamDesc c (bits w 79 64)
  let (p, ip) := if mi || mo || dw == 2 then s.paramBlk c (bits w 63 48) else (ParamBlk.reset, [])
  let own := s.owner c
  let layer := p.qtag / 16
  let zero := a.outer == 0
  let masks := (if mi then [(p.maskIn, p.maskIn + 64)] else []) ++ if mo then [(p.maskOut, p.maskOut + 64)] else []
  ({ Iss.none with
    ill := rsvIll w [(95, 80), (79, 64), (63, 48), (47, 44), (43, 42), (41, 36)] ++ ia ++ id ++ ip ++
      cz (dw == 3) 5 ++ cz (a.fmt < 8 && !(wide a.fmt || ((a.fmt == fINT4 || a.fmt == fINT8) && a.sc))) 5 ++
      cz (!wide d.fmt && d.fmt < 8) 5 ++ cz (8 ≤ bits w 47 44) 6 ++ cz (a.inner != 512) 6 ++
      cz (a.inner != d.inner || a.outer != d.outer) 6 ++ cz (dw == 2 && !s.hasRec own Ty.layerPrecision layer) 6
    flt := if zero then [] else s.streamFlt c 1 false a ++ s.streamFlt c 1 true d ++
      (if mi then maskFlt p.maskIn 64 else []) ++ if mo then maskFlt p.maskOut 64 else []
    a := a, d := d, par := p, zero := zero, rd := a.ranges ++ masks, wr := d.ranges },
   dw == 1 || (dw == 2 && s.fld own Ty.layerPrecision layer 0 1 != 0))

/-- AMV and AMVT enter the array unit. -/
def State.amvIssue (s : State) (c : Nat) (o : Op) : State :=
  match s.atOp c o with
  | some w => let i := s.issAmv c w
              s.issueUnit c w i.1 true (fun t => t.modCell c (fun cl => cl.modLast (fun f => { f with dw8 := i.2 })))
  | none => s

/-- AMV (R71 to R90, R223 to R225). -/
def execAmv (c : Cid) (s : State) : Out := .next (s.amvIssue c .amv)

/-- AMVT (R81, R82, R85). -/
def execAmvt (c : Cid) (s : State) : Out := .next (s.amvIssue c .amvt)

end Sys2Proof.Machine
end

