-- ==== Sys2Proof/Machine/Writing.lean ====
section
/-! DEFINITION. Machine/Writing: AREAD, APROG, ASWAP and the write engine (R105 to R126, R223 to R228, R257, R271). -/

namespace Sys2Proof.Machine

/-! ### Planes of the carry (R108 to R111) -/

/-- Carry of a weight in a carry plane: none for a NaN byte. -/
def State.carryAt (s : State) (base k : Nat) : Fv := decElem fE4M3 (s.rd8 (base + k)).toNat

/-- Whether a carry plane holds a NaN (R111). -/
def State.badCarry (s : State) (base : Nat) : Bool :=
  (List.range 262144).any (fun k => (s.rd8 (base + k)).toNat % 128 == 127)

/-- Achieved offset of a weight, in 1/64 level. -/
def State.achAt (s : State) (base k : Nat) : Int := sgn 8 (s.rd8 (base + k)).toNat

/-- A carry rounded stochastically with draw u, and whether it was held at ±448 (R110, R111, R138). -/
def carrySr (u : Nat) (v : Rat) : Nat × Bool :=
  if fmtEmax fE4M3 < rabs v then (if v < 0 then 0xFE else 0x7E, true) else (encWide fE4M3 (some u) (.num v false), false)

/-- The carry stream of a partition. -/
def State.carryStream (s : State) (p : Nat) : Nat := s.fld p Ty.arrayWrite p 2 2

/-- A carry stored, with its counters. -/
def State.putCarry (s : State) (c x base k : Nat) (v : Rat) : State :=
  let p := s.owner c
  let r := carrySr (s.draw p (s.carryStream p) 0 k) v
  let s := s.wrMem (base + k) [BitVec.ofNat 8 r.1]
  if r.2 then s.count c Ev.wrCarrySat 1 (xq x) else s.count c Ev.diceDraws 1

/-! ### The target of a write -/

/-- Region a write programs: the cell's own, or the spare's (R16). -/
def State.jobRegion (s : State) (c : Nat) (j : WriteJob) : Nat := if j.spare then (s.cell c).subst - 1 else s.reg c

/-- Plane set a write updates: the shadow set for a relay image, else the live set of its logical crossbar (R110). -/
def Cell.jobSet (cl : Cell) (j : WriteJob) : Nat := if j.relay && !j.repair then cl.set 8 else cl.set j.lx

/-- The running write replaced. -/
def State.setJob (s : State) (c : Nat) (j : WriteJob) : State :=
  s.modCell c (fun cl => { cl with wq := match cl.wq with | [] => [] | _ :: r => j :: r })

/-- The write at the head of the engine's queue leaves it and ends. -/
def State.dropJob (s : State) (c : Nat) (res : Nat) : State :=
  match (s.cell c).wq with
  | [] => s
  | j :: r => (s.modCell c (fun cl => { cl with wq := r })).endWrite c j res

/-! ### The check table (R83, R119) -/

/-- Sum of a row of codes over the columns a check column covers. -/
def checkSum (row : List Int) (k : Nat) : Int := ((row.drop (128 * k)).take 128).sum

/-- Check code for a sum and a divisor (R83). -/
def checkCode (sum : Int) (div : Nat) : Int := clampI (-15) 15 (rneInt (mkRat sum (max div 1)))

/-- Smallest check divisor that holds the sums within ±15 × D (R83). -/
def divisor (sums : List Int) : Nat :=
  ((List.range 8).map (fun k => 2 ^ k)).find? (fun d => sums.all (fun v => decide (v.natAbs ≤ 15 * d))) |>.getD 128

/-- A row of a codes plane. -/
def State.codeRow (s : State) (base i : Nat) : List Int := (List.range 512).map (fun j => s.codeAt base i j)

/-- The check table formed from a codes plane (R83). -/
def State.formTable (s : State) (b : Xbar) (base : Nat) : Xbar :=
  let rows := (List.range 512).map (fun i => s.codeRow base i)
  let dv := (List.range 4).map (fun k => divisor (rows.map (fun r => checkSum r k)))
  let cells := (List.zip (List.range 512) rows).flatMap (fun e => (List.range 4).map (fun k =>
    let sum := checkSum e.2 k
    let d := dv.getD k 1
    (e.1 * 4 + k, checkCode sum d, sum - (d : Int) * checkCode sum d)))
  let tots := (List.range 512).flatMap (fun j => (List.range 4).map (fun m =>
    (j * 4 + m, ((List.range 128).map (fun i => s.codeAt base (128 * m + i) j)).sum)))
  { b with
    dv := (List.range 4).foldl (fun t k => tset t k (dv.getD k 1) 1) []
    qc := cells.foldl (fun t e => tset t e.1 e.2.1 0) []
    rem := cells.foldl (fun t e => tset t e.1 e.2.2 0) []
    tot := tots.foldl (fun t e => tset t e.1 e.2 0) []
    susp := [] }

/-- The check row of an UPDATE: codes, remainders and totals of row i recomputed; a remainder beyond ±127 suspends its
check column (R119). -/
def checkRow (b : Xbar) (i : Nat) (old new : List Int) : Xbar :=
  let b := (List.range 4).foldl (fun b k =>
    let sum := checkSum new k
    let q := checkCode sum (b.div k)
    let rem := sum - (b.div k : Int) * q
    { b with
      qc := tset b.qc (i * 4 + k) q 0
      rem := tset b.rem (i * 4 + k) rem 0
      susp := if 127 < rem.natAbs then insN k b.susp else b.susp }) b
  { b with tot := (List.range 512).foldl (fun t j =>
      tset t (j * 4 + i / 128) (tget t (j * 4 + i / 128) 0 + new.getD j 0 - old.getD j 0) 0) b.tot }

/-! ### A row begins (R102, R110) -/

/-- New codes of row i of an UPDATE, and how many were clamped. -/
def State.newCodes (s : State) (carry : Nat) (i : Nat) (inQ : Bool) (old : List Int) : List (Int × Bool) :=
  (List.zip (List.range 512) old).map (fun e =>
    let d := if inQ then rhaInt (s.carryAt carry (i * 512 + e.1)).rat else 0
    let v := e.2 + d
    (clampI (-15) 15 v, decide (v < -15) || decide (15 < v)))

/-- The next row of a running write begins: its codes, check codes and remainders are in place before a conductance
changes (R102, R110).
DEDUCED: log entry 45. -/
def State.beginRow (s : State) (c : Nat) : State :=
  match (s.cell c).wq with
  | [] => s
  | j :: _ =>
    match j.rows with
    | [] => s
    | i :: _ =>
      let cl := s.cell c
      let r := s.jobRegion c j
      let live := s.planeBase c (cl.set j.lx) 0
      let dst := s.planeBase c (cl.jobSet j) 0
      if j.load then
        let row := s.codeRow dst i
        s.modXbar r j.phys (fun b => { b with qc := (List.range 4).foldl (fun t k =>
          tset t (i * 4 + k) (checkCode (checkSum row k) (b.div k)) 0) b.qc })
      else
        let old := s.codeRow live i
        let new := s.newCodes (s.planeBase c (cl.set j.lx) 1) i (j.q.contains i) old
        let s := s.count c Ev.wrClamp (new.filter (fun e => e.2)).length (xq j.phys)
        let row := new.map (fun e => e.1)
        let b := s.xbar r j.phys
        let b' := checkRow b i old row
        let s := s.count c Ev.wrCheckSuspended (b'.susp.length - b.susp.length) (xq j.phys)
        let s := (s.modXbar r j.phys (fun _ => b')).wrMem (dst + i * 512) (row.map (fun v => BitVec.ofInt 8 v))
        s.setJob c { j with old := tputs [] (i * 512) old 0 }

/-! ### WRITE_START (R110 to R113, R118, R120) -/

/-- Whether a waiting write is served before another: spare substitution first, then the order of the requests (R120). -/
def jobBefore (a b : WriteJob) : Bool :=
  if a.spare != b.spare then a.spare else decide (a.slotWaitFrom < b.slotWaitFrom)

/-- Whether the steward of a die grants a write slot to a waiting write now (R120). -/
def State.slotFor (s : State) (d : Nat) (j : WriteJob) : Bool :=
  let ahead := s.cells.filter (fun e => dieOf e.1 == d && (match e.2.wq with
    | h :: _ => !h.running && jobBefore h j
    | [] => false))
  decide ((s.die d).slots + ahead.length < 256)

/-- A pinned weight (R110). -/
def pinned (c : Int) (e : Rat) : Bool :=
  (c == 15 && decide (mkRat 1 2 ≤ e)) || (c == -15 && decide (e ≤ mkRat (-1) 2))

/-- The carry add of an UPDATE: updates U of rows FIRST on enter the live carry (R110).
DEDUCED: log entry 45. -/
def State.carryAdd (s : State) (c : Nat) (j : WriteJob) : State :=
  let cl := s.cell c
  let x := cl.phys j.lx
  let b := s.xbar (s.reg c) x
  let base := s.planeBase c (cl.set j.lx) 1
  ((List.range j.rowsArg).flatMap (fun k => (List.range 512).map (fun i => (k, i)))).foldl (fun t e =>
    let u := s.elemX c j.src e.1 e.2
    let g := b.groupScale (e.2 / 32)
    let k := (j.first + e.1) * 512 + e.2
    if u.fin && g.fin && g.rat != 0 then t.putCarry c x base k ((t.carryAt base k).rat + u.rat / g.rat)
    else t.count c Ev.wrUpdateSkipped 1 (xq x)) s

/-- The set Q of an UPDATE: rows with a carry at or beyond XFER_THRESH that is not pinned (R110). -/
def State.rowsQ (s : State) (c : Nat) (j : WriteJob) : List Nat :=
  let cl := s.cell c
  let p := s.owner c
  let th := mkRat (s.fld p Ty.arrayWrite p 1 1) 4
  let codes := s.planeBase c (cl.set j.lx) 0
  let carry := s.planeBase c (cl.set j.lx) 1
  (List.range 512).filter (fun i => (List.range 512).any (fun k =>
    let e := (s.carryAt carry (i * 512 + k)).rat
    decide (th ≤ rabs e) && !pinned (s.codeAt codes i k) e))

/-- The periphery a relay image takes over from the live crossbar under UPDATE: scales, ranges and check table (R116,
R119). -/
def Xbar.copyTable (b live : Xbar) : Xbar :=
  { b with scale := live.scale, rng := live.rng, dv := live.dv, qc := live.qc, rem := live.rem, tot := live.tot, susp := live.susp }

/-- Group scales and range indices of a load header (R227). -/
def Xbar.loadHeader (b : Xbar) (h : List Byte) : Xbar :=
  { b with
    scale := (List.range 16).foldl (fun t g => tset t g (BitVec.ofNat 16 (leNat ((h.drop (2 * g)).take 2))) 0) []
    rng := (List.range 16).foldl (fun t g => tset t g (leNat ((h.drop (32 + g)).take 1)) 2) [] }

/-- The codes a LOAD writes: those of SRC, or for the module's own write those of the codes plane (R113, R125, R348). -/
def State.loadCodes (s : State) (c : Nat) (j : WriteJob) : List Int :=
  if j.repair || j.spare || j.restore then
    let base := s.planeBase c ((s.cell c).set j.lx) 0
    (List.range 262144).map (fun k => s.codeAt base (k / 512) (k % 512))
  else (List.range 262144).map (fun k => sgn 8 (s.rawElem c j.src (k / j.src.inner) (k % j.src.inner)))

/-- A write ends in the analogue-access fault of the APROG that asked for it (R59, R109, R111). -/
def State.writeFault (s : State) (c : Nat) (j : WriteJob) (cause : Nat) : State :=
  (s.dropJob c 1).faultAt c Fc.analogue cause j.pc j.word 0 1

/-- An UPDATE starts: carry add, Q, the rows to program; an empty Q ends it (R110, R112). -/
def State.startUpdate (s : State) (c : Nat) (j : WriteJob) : State :=
  let cl := s.cell c
  if s.badCarry (s.planeBase c (cl.set j.lx) 1) || s.badCodes (s.planeBase c (cl.set j.lx) 0) then s.writeFault c j 4
  else
    let s := s.carryAdd c j
    let q := s.rowsQ c j
    let s := if j.relay then s else s.count c Ev.wrRowsDeferred (q.length - 128) (xq j.phys)
    let q := if j.relay then q else q.take 128
    if q.isEmpty then
      (s.modCell c (fun cl => { cl with relayImg := if j.relay then 9 + j.lx else cl.relayImg })).dropJob c 0
    else
      let live := s.xbar (s.reg c) (cl.phys j.lx)
      let s := if j.relay then s.modXbar (s.reg c) j.phys (fun b => b.copyTable live) else s
      (s.setJob c { j with q := q, rows := if j.relay then List.range 512 else q }).beginRow c

/-- A LOAD starts: its codes enter the codes plane, its scales, ranges and divisors the crossbar (R102, R113, R227). -/
def State.startLoad (s : State) (c : Nat) (j : WriteJob) : State :=
  let cl := s.cell c
  let own := j.repair || j.spare
  let live := s.planeBase c (cl.set j.lx) 0
  let codes := s.loadCodes c j
  if codes.any (fun k => decide (15 < k.natAbs)) then s.writeFault c j 4
  else if !j.zeroCarry && (s.badCarry (s.planeBase c (cl.set j.lx) 1) || s.badCodes live) then s.writeFault c j 4
  else
    let old := (List.range 262144).map (fun k => s.codeAt live (k / 512) (k % 512))
    let dst := s.planeBase c (cl.jobSet j) 0
    let s := s.wrMem dst (codes.map (fun v => BitVec.ofInt 8 v))
    let from_ := s.xbar (s.reg c) (cl.phys j.lx)
    let dv := (List.range 4).map (fun k => divisor ((List.range 512).map (fun i => checkSum (s.codeRow dst i) k)))
    let s := s.modXbar (s.jobRegion c j) j.phys (fun b =>
      let b := if own then { b with scale := from_.scale, rng := from_.rng } else if j.hdr.isEmpty then b else b.loadHeader j.hdr
      { b with dv := (List.range 4).foldl (fun t k => tset t k (dv.getD k 1) 1) [] })
    (s.setJob c { j with rows := List.range 512, old := if j.zeroCarry then [] else tputs [] 0 old 0 }).beginRow c

/-- A logical crossbar's planes have changed since its last secured image (R332). -/
def State.markDirty (s : State) (c lx : Nat) : State :=
  s.modPart (s.owner c) (fun q => { q with dirty := insN (c * 8 + lx) q.dirty })

/-- WRITE_START (R110, R118, R120): the write at the head of the engine's queue gets its slot.
DEDUCED: log entry 45. -/
def execWriteStart (c : Cid) (s : State) : Out :=
  let cl := s.cell c
  match cl.wq with
  | [] => .next s
  | j :: _ =>
    if j.running || s.pow.hold || !s.regionOn c || !s.slotFor (dieOf c) j then .next s
    else
      let rx := s.xbar (s.reg c) (cl.phys 8)
      let absent := j.relay && !j.repair && (cl.relayRepair || rx.st == 3)
      let t := if absent then s.count c Ev.wrRelayAbsent 1 (xq (cl.phys 8)) else s
      let relay := j.relay && !absent
      let phys := if j.spare then j.lx else if relay then cl.phys 8 else cl.phys j.lx
      let t := (t.count c Ev.wrSlotWaitNs (s.time - j.slotWaitFrom) (xq phys)).modDie (dieOf c) (fun d => { d with slots := d.slots + 1 })
      let t := if relay && !j.repair then t.dropRelay c else t
      let j := { j with running := true, relay := relay, phys := phys }
      let t := (t.setJob c j).modCell c (fun cl => { cl with wrStatus := writeWord j ((cl.wrStatus / 16) % 4) (cl.wq.length - 1) true })
      if (t.xbar (t.jobRegion c j) phys).st = 3 then .next (t.dropJob c 1)
      else if j.load then .next ((if relay || j.spare then t else t.markDirty c j.lx).startLoad c j)
      else .next ((t.markDirty c j.lx).startUpdate c j)

/-! ### ROW_WRITE_DONE (R106, R110, R113, R121, R124, R257) -/

/-- A row has been programmed: its wear counter, where a device was pulsed (R121).
DEDUCED: log entry 46. -/
def State.wearRow (s : State) (r x i : Nat) : State :=
  let b := s.xbar r x
  let n := tget b.wear i 0 + 1
  let s := s.modXbar r x (fun b => { b with wear := tset b.wear i n 0 })
  if 500000 ≤ n && !b.wearWarned then
    (s.modXbar r x (fun b => { b with wearWarned := true })).logR r Db.wearWarning x [n]
  else s

/-- The achieved values of a row enter the planes (R110, R113, R257). -/
def State.landRow (s : State) (c : Nat) (j : WriteJob) (i : Nat) (levels : List Int) : State :=
  let cl := s.cell c
  let p := s.owner c
  let live := cl.set j.lx
  let dst := cl.jobSet j
  let codes := s.codeRow (s.planeBase c dst 0) i
  let repro := s.mode p 2 1 == 1
  let carryL := s.planeBase c live 1
  let achL := s.planeBase c live 2
  let carryD := s.planeBase c dst 1
  let achD := s.planeBase c dst 2
  (List.range 512).foldl (fun s k =>
    let n := i * 512 + k
    let cn := codes.getD k 0
    let on : Int := if repro then 0 else levels.getD k 0 - 64 * cn
    let e := (s.carryAt carryL n).rat + ((tget j.old n 0 - cn : Int) : Rat) + mkRat (s.achAt achL n - on) 64
    let s := s.wrMem (achD + n) [BitVec.ofInt 8 on]
    if j.zeroCarry then s.wrMem (carryD + n) [BitVec.ofNat 8 (encWide fE4M3 none (.num (mkRat (-on) 64) false))]
    else s.putCarry c j.phys carryD n e) s

/-- Whether achieved values lie where a verified row can stand: both devices of each pair within WR_TOL (R106).
DEDUCED: log entry 46. -/
def verified (tol : Nat) (target levels : List Int) : Bool :=
  decide (levels.length = 516) && (List.zip target levels).all (fun e => decide ((e.2 - 64 * e.1).natAbs ≤ 16 * tol))

/-- The spare under programming is given up for another.
DEDUCED: log entry 47. -/
def State.nextSpare (s : State) (c : Nat) : State :=
  let cl := s.cell c
  let s := s.modCell c (fun cl => { cl with subst := 0, substStage := 0, wq := cl.wq.filter (fun j => !j.spare) })
  s.substitute c cl.substDark

/-- The crossbar of a running write has failed (R124, R125). -/
def State.failWrite (s : State) (c : Nat) (j : WriteJob) (cause : Nat) : State :=
  if j.spare then (((s.failXbar (s.jobRegion c j) j.phys cause).dropJob c 1)).nextSpare c
  else s.failXbar (s.jobRegion c j) j.phys cause

/-- ROW_WRITE_DONE (R106, R124): PROGRAM_ROW returns for the row under way.  rounds is the number of pulse-verify rounds,
levels the achieved values of the 516 columns in 1/64 level.
DEDUCED: log entry 46. -/
def execRowWriteDone (c : Cid) (ok : Bool) (rounds : Nat) (levels : List Int) (s : State) : Out :=
  match (s.cell c).wq with
  | [] => .next s
  | j :: _ =>
    match j.rows with
    | [] => .next s
    | i :: rest =>
      let r := s.jobRegion c j
      let b := s.xbar r j.phys
      let p := s.owner c
      let target := s.codeRow (s.planeBase c ((s.cell c).jobSet j) 0) i ++ (List.range 4).map (fun k => tget b.qc (i * 4 + k) 0)
      if !j.running || (s.pow.hold && j.paused) || 80 < rounds ||
          (ok && !verified (s.fld p Ty.arrayWrite p 0 1) target levels) then .next s
      else if 0 < rounds && !j.retried && 1000000 ≤ tget b.wear i 0 then .next (s.failWrite c j 3)
      else
        let t := s.count c Ev.wrRounds rounds (xq j.phys)
        if !ok then
          let t := t.count c Ev.wrRowFail 1 (xq j.phys)
          if j.retried then .next ((t.wearRow r j.phys i).failWrite c j 0)
          else .next (t.setJob c { j with retried := true })
        else
          let t := t.count c Ev.wrRows 1 (xq j.phys)
          let t := if 0 < rounds || j.retried then t.wearRow r j.phys i else t
          let t := t.modXbar r j.phys (fun b => { b with cond := tputs b.cond (i * 516) levels 0 })
          let t := t.landRow c j i levels
          .next ((t.setJob c { j with rows := rest, retried := false, paused := s.pow.hold }).beginRow c)

/-! ### WRITE_COMPLETE (R83, R113 to R116, R123, R125, R16, R20) -/

/-- A crossbar after its programming: statistics start afresh (R93), PROG_TIME is set (R113, R123). -/
def Xbar.programmed (b : Xbar) (now : Nat) : Xbar := { b with progTime := now, base := [], outN := 0, outS := [], outQ := [] }

/-- A relay repair is done: the binding moves (R125).
DEDUCED: log entry 47. -/
def Cell.repaired (cl : Cell) (lx : Nat) : Cell :=
  { cl with xbind := tset (tset cl.xbind lx (cl.phys 8) lx) 8 (cl.phys lx) 8 }

/-- The last of a spare's eight crossbars is written: the number moves, or waits for the epoch (R16, R20). -/
def State.spareWritten (s : State) (c : Nat) : State :=
  if (s.cell c).wq.any (fun j => j.spare) then s
  else
    let s := s.modCell c (fun cl => { cl with substStage := 4 })
    if s.fab.inSystem then s.reportChange (if (s.cell c).substDark then 2 else 4) c else s.moveAlone c

/-- WRITE_COMPLETE (R83, R115): the write whose last row stands.
DEDUCED: log entry 47. -/
def execWriteComplete (c : Cid) (s : State) : Out :=
  let cl := s.cell c
  match cl.wq with
  | [] => .next s
  | j :: _ =>
    -- a repair's binding moves at an array-unit boundary
    let busy := j.repair && cl.flight.any (fun f => f.unit == 1 && f.started && f.isProduct && decide (f.vec < f.total))
    if !j.running || j.cut || !j.rows.isEmpty || busy then .next s
    else
      let r := s.jobRegion c j
      let t := if j.load then
          let base := s.planeBase c (cl.jobSet j) 0
          s.modXbar r j.phys (fun b => (s.formTable b base).programmed s.time)
        else s
      let t :=
        if j.repair then
          ((t.modXbar r j.phys (fun b => { b with st := 0 })).modCell c (fun cl => cl.repaired j.lx))
        else if j.relay then
          (t.modXbar r j.phys (fun b => { b with st := 1 })).modCell c (fun cl => { cl with relayImg := 1 + j.lx })
        else t.modXbar r j.phys (fun b => { b with st := if b.st = 4 then 0 else b.st })
      let t := t.dropJob c 0
      .next (if j.spare then t.spareWritten c else if j.restore then t.tryReady (t.owner c) else t)

/-! ### Acceptance of APROG (R113 to R119, R223, R227, R271) -/

/-- Whether the relay holds, or an accepted relay write will leave it, an image of a logical crossbar (R118). -/
def Cell.holdsImage (cl : Cell) (lx : Nat) : Bool :=
  cl.relayImg == 1 + lx || cl.wq.any (fun j => j.relay && !j.repair && j.lx == lx)

/-- What issue learns of an APROG.
DEDUCED: log entry 45. -/
def State.issAprog (s : State) (c w : Nat) : Iss :=
  let form := bits w 91 90
  let load := form == 1
  let first := bits w 89 81
  let rows := bits w 80 71
  let (a, ia) := s.streamDesc c (bits w 70 55)
  let h := bits w 54 39 * 32
  let cz0 := bit (wordMod w) 1
  let ev := (s.cell c).eval
  let zero := rows == 0
  let fmtBad := if load then a.fmt < 8 && (a.fmt != fINT8 || a.sc) else a.fmt < 8 && a.fmt != fBF16
  let cntBad := if load then a.inner * a.outer != 262144 else a.inner != 512 || a.outer != rows
  { Iss.none with
    ill := rsvIll w ([(95, 92), (91, 90), (89, 81), (80, 71), (70, 55), (38, 35)] ++ if load then [(54, 39)] else []) ++
      cz (1 < form) 5 ++ cz (!load && cz0) 4 ++ cz (8 ≤ bits w 95 92) 6 ++ cz (bits w 38 35 == 0) 6 ++
      cz (if load then first != 0 || (rows != 0 && rows != 512) else 512 < first + rows) 6 ++ ia ++
      cz fmtBad 5 ++ cz (!zero && cntBad) 6 ++
      cz (ev && (!load || !cz0)) 6 ++
      cz (load && (List.range 16).any (fun g => decide (3 < s.rdLocN c (h + 32 + g) 1))) 5
    flt := if zero then [] else s.streamFlt c 1 false a ++
      (if load then ((localCause 1 false (h : Int) ((h + 64 : Nat) : Int)).toList).map (fun x => (2, x)) else [])
    a := a, zero := zero, rd := a.ranges ++ if load then [(h, h + 64)] else [] }

/-- An APROG is accepted by the write engine, or raises its analogue-access fault. -/
def State.acceptAprog (s : State) (c w : Nat) (word : BitVec 128) (pc : Nat) (i : Iss) : State :=
  let cl := s.cell c
  let lx := bits w 95 92
  let load := bits w 91 90 == 1
  let inplace := bit (wordMod w) 0
  let hdr := if load then s.rdLoc c (bits w 54 39 * 32) 64 else []
  let fault (k : Nat) := s.faultAt c Fc.analogue k pc word 0 1
  if !load && (s.xbar (s.reg c) (cl.phys lx)).st == 4 then fault 0
  else if (!load || inplace) && cl.holdsImage lx then fault 2
  else if load && (List.range 16).any (fun g => !(decElem fBF16 (leNat ((hdr.drop (2 * g)).take 2))).fin) then fault 5
  else
    let s := if load then s else s.modPart (s.owner c) (fun p => { p with applied := true })
    s.modCell c (fun cl => { cl with wq := cl.wq ++ [{ WriteJob.reset with
      lx := lx, load := load, relay := !inplace, zeroCarry := load && bit (wordMod w) 1, wdone := bits w 38 35
      first := bits w 89 81, rowsArg := bits w 80 71, src := i.a, hdr := hdr, word := word, pc := pc, slotWaitFrom := s.time }] })

/-- APROG reaches the array unit: it starts once every earlier array-unit instruction has completed, and holds while four
writes wait behind the running one (R118, R225). -/
def State.aprogIssue (s : State) (c : Nat) (form : Nat → Bool) : State :=
  match s.atOp c .aprog with
  | some w =>
    if form (bits w 91 90) then
      let cl := s.cell c
      let i := s.issAprog c w
      s.issueUnit c w i (cl.queued 1 == 0 && decide (cl.wq.length < 5)) (fun t => t.acceptAprog c w cl.word cl.pc i)
    else s
  | none => s

/-- APROG UPDATE (R110 to R119). -/
def execAprogUpdate (c : Cid) (s : State) : Out := .next (s.aprogIssue c (fun f => f == 0))

/-- APROG LOAD (R113, R114, R118, R227). -/
def execAprogLoad (c : Cid) (s : State) : Out := .next (s.aprogIssue c (fun f => f == 1))

/-! ### AREAD (R226) -/

/-- What issue learns of an AREAD. -/
def State.issAread (s : State) (c w : Nat) : Iss :=
  let relay := bit (wordMod w) 0
  let (d, id) := s.streamDesc c (bits w 95 80)
  let rows := bits w 66 57
  { Iss.none with
    ill := rsvIll w ([(95, 80), (75, 67), (66, 57)] ++ if relay then [] else [(79, 76)]) ++ id ++
      cz (d.fmt < 8 && d.fmt != fFP32) 5 ++ cz (!relay && 8 ≤ bits w 79 76) 6 ++
      cz (512 < bits w 75 67 + rows || 512 < rows) 6 ++ cz (rows != 0 && (d.inner != 516 || d.outer != rows)) 6
    flt := if rows = 0 then [] else s.streamFlt c 1 true d
    d := d, zero := rows == 0, wr := if rows = 0 then [] else d.ranges }

/-- AREAD (R62, R226).  levels are the values of a verify read, 516 to a row, in 1/64 level.
DEDUCED: log entry 48. -/
def execAread (c : Cid) (levels : List Int) (s : State) : Out :=
  match s.atOp c .aread with
  | some w =>
    let cl := s.cell c
    let i := s.issAread c w
    let x := if bit (wordMod w) 0 then cl.phys 8 else cl.phys (bits w 79 76)
    let ready := cl.queued 1 == 0 && cl.wq.all (fun j => !j.running) && decide ((s.die (dieOf c)).slots < 256)
    .next (s.issueUnit c w i ready (fun t =>
      let b := t.xbar (t.reg c) x
      if b.st = 4 then t.faultAt c Fc.analogue 0 cl.pc cl.word 0 1
      else if b.st = 3 then t.faultAt c Fc.analogue 1 cl.pc cl.word 0 1
      else (List.range (i.d.outer * 516)).foldl (fun t k =>
        t.wrElem c i.d (k / 516) (k % 516) (enc32 (.num (mkRat (levels.getD k 0) 64) false))) t))
  | none => .next s

/-! ### ASWAP (R116, R117, R228) -/

/-- ASWAP enters the array unit; the exchange follows at its boundary. -/
def execAswap (c : Cid) (s : State) : Out :=
  match s.atOp c .aswap with
  | some w =>
    let i := { Iss.none with ill := rsvIll w [(95, 92)] ++ cz (8 ≤ bits w 95 92) 6 }
    .next (s.issueUnit c w i true (fun t => t.modCell c (fun cl => cl.modLast (fun f => { f with left := 1, lx := bits w 95 92 }))))
  | none => .next s

/-- The exchange of b with the relay (R116, R123): binding, plane sets, states. -/
def State.exchange (s : State) (c lx : Nat) : State :=
  let cl := s.cell c
  let r := s.reg c
  let old := cl.phys lx
  let new := cl.phys 8
  let s := s.setCell c { cl with
    xbind := tset (tset cl.xbind lx new lx) 8 old 8
    pbind := tset (tset cl.pbind lx (cl.set 8) lx) 8 (cl.set lx) 8
    relayImg := 0 }
  ((s.markDirty c lx).modXbar r new (fun b => { b.programmed s.time with st := 0 })).modXbar r old (fun b => { b with st := if b.st = 3 then 3 else 1 })

/-- ASWAP_EXCHANGE (R116, R117, N26): the ASWAP at the head of the array unit takes effect, or retires with none.
DEDUCED: log entry 47. -/
def execAswapExchange (c : Cid) (s : State) : Out :=
  let cl := s.cell c
  match cl.head 1 with
  | none => .next s
  | some f =>
    if wordOp f.word.toNat != some .aswap || f.left = 0 || !s.regionOn c || cl.halt || s.pow.overcur || s.pow.hold then .next s
    else
      let x := cl.phys 8
      let done := s.modFlight c f.key (fun f => { f with left := 0 })
      let none_ := done.count c Ev.wrSwapNoRelay 1 (xq x)
      if cl.relayRepair || (s.xbar (s.reg c) x).st == 3 then .next none_
      else if cl.wq.any (fun j => j.relay && !j.repair && j.lx == f.lx) then .next s
      else if cl.relayImg = 9 + f.lx then .next (none_.modCell c (fun cl => { cl with relayImg := 0 }))
      else if cl.relayImg = 1 + f.lx then .next (done.exchange c f.lx)
      else if f.vec = 1 then .next none_
      else .next (s.faultAt c Fc.analogue 3 f.pc f.word 0 1)

end Sys2Proof.Machine
end

