-- ==== Sys2Proof/Machine/Calibration.lean ====
section
/-! DEFINITION. Machine/Calibration: ACAL, the steward's calibration queue, recalibration slices, the self-calibration of
the column converters and the calibration record (R229, R426 to R436). -/

namespace Sys2Proof.Machine

/-! ### ACAL (R223, R229) -/

/-- Calibration status word (R522): logical crossbar, result, in progress, relay. -/
def calWord (lx res : Nat) (busy : Bool) : Nat := lx % 8 + res * 16 + (if busy then 64 else 0) + if lx = 8 then 128 else 0

/-- ACAL: its request joins the steward's queue, and it completes at acceptance (R207, R229). -/
def execAcal (c : Cid) (s : State) : Out :=
  match s.atOp c .acal with
  | some w =>
    let relay := bit (wordMod w) 0
    let i := { Iss.none with
      ill := rsvIll w ((91, 88) :: if relay then [] else [(95, 92)]) ++ cz (!relay && 8 ≤ bits w 95 92) 6 ++ cz (bits w 91 88 == 0) 6 }
    let cl := s.cell c
    let lx := if relay then 8 else bits w 95 92
    .next (s.issueUnit c w i (cl.queued 1 == 0) (fun t =>
      (t.modCell c (fun cl => { cl with
        calDone := cl.calDone ++ [(cl.phys lx, bits w 91 88)], calStatus := calWord lx 0 true })).requestCal 3 (t.reg c) (cl.phys lx) 0))
  | none => .next s

/-- A recalibration of a cell's crossbar ends: 0 COMPLETE, 1 FAILED, 2 ABORTED.  CDONE of each ACAL that asked for it
counts (R229). -/
def State.calEnds (s : State) (r x res : Nat) : State :=
  match s.cellOf r with
  | none => s
  | some c =>
    let cl := s.cell c
    let due := cl.calDone.filter (fun e => e.1 == x)
    let w := cl.tagWord.toNat
    let hit := !due.isEmpty && wordOp w == some .acal && cl.phys (if bit (wordMod w) 0 then 8 else bits w 95 92) == x
    let s := s.modCell c (fun cl => { cl.tagDone hit s.time with
      calDone := cl.calDone.filter (fun e => e.1 != x), calStatus := calWord (cl.logical x) res false })
    due.foldl (fun s e => s.addFlag c e.2 1) s

/-! ### The steward's queue (R434) -/

/-- A run: class, region, crossbar, excess. -/
abbrev CalReq : Type := Nat × Nat × Nat × Nat

/-- Whether a request is served before another: class, largest excess, ascending physical ID (R434).
DEDUCED: log entry 49. -/
def calBefore (a b : CalReq) : Bool :=
  decide (a.1 < b.1) || (a.1 == b.1 && (decide (b.2.2.2 < a.2.2.2) || (a.2.2.2 == b.2.2.2 &&
    decide (a.2.1 * 16 + a.2.2.1 < b.2.1 * 16 + b.2.2.1))))

/-- The request that a list of requests serves first.
DEDUCED: log entry 49. -/
def firstCal (l : List CalReq) : Option CalReq :=
  l.foldl (fun b q => match b with
    | none => some q
    | some p => if calBefore q p then some q else some p) none

/-- CALIBRATION_START (R427, R434): the steward of a die starts the first request that may run. -/
def execCalibrationStart (d : DieN) (s : State) : Out :=
  let di := s.die d
  if s.boot.refin || 64 ≤ di.calRun.length then .next s
  else
    match firstCal (di.calQ.filter (fun q => di.calRun.all (fun e => e.1 != q.2.1) && (s.phy q.2.1).rst == 0)) with
    | none => .next s
    | some q =>
      let t := s.modDie d (fun di => { di with calQ := di.calQ.filter (fun p => p != q), calRun := di.calRun ++ [(q.2.1, q.2.2.1)] })
      .next (t.modXbar q.2.1 q.2.2.1 (fun b => { b with
        slice := 1, calCause := q.1, calZ := [], calM := [], calE := [], calT := [], calRow := [] }))

/-- A run leaves the steward's list. -/
def State.calLeaves (s : State) (r x : Nat) : State :=
  (s.modXbar r x (fun b => { b with slice := 0 })).modDie (r / 272) (fun d => { d with calRun := d.calRun.filter (fun e => e != (r, x)) })

/-- A run is abandoned with its old factors in force (R427, R437); again queues it anew. -/
def State.calAbort (s : State) (r x : Nat) (again : Bool) : State :=
  let cause := (s.xbar r x).calCause
  let s := s.calLeaves r x
  let s := match s.cellOf r with
    | some c => s.count c Ev.calAborted 1 (xq x)
    | none => s
  let s := s.calEnds r x 2
  if again then s.requestCal cause r x 0 else s

/-! ### One slice (R431) -/

/-- Stored value of column j, row i, as a recalibration takes it: c + o/64 in 1/64 level; a check column takes its check
code, since the planes hold no offset of it. -/
def State.storedAt (s : State) (b : Xbar) (codes ach i j : Nat) : Int :=
  if j < 512 then 64 * s.codeAt codes i j + s.achAt ach (i * 512 + j) else 64 * tget b.qc (i * 4 + (j - 512)) 0

/-- Offset trim and residue of a column whose offset, in quarter steps times 2, is q: the trim in 1/8 step within ±4
steps, and OFF in 1/4 step (R76, R426). -/
def offsetOf (steps : Rat) : Int × Int :=
  let t := clampI (-32) 31 (rneInt (steps * 8))
  (t, rneInt ((steps - mkRat t 8) * 4))

/-- New factors of a run (R431): gain and offset of each column, none where the run fails. -/
def Xbar.newFactors (b : Xbar) : Option (List (Nat × Int × Int)) :=
  let fs := (List.range 516).map (fun j =>
    let e := tget b.calE j 0
    let z := tget b.calZ j 0
    let old := tget b.gain j 32768
    let g := if 480 ≤ rabs e then rneInt (32768 * e / (tget b.calM j 0 - 8 * z)) else (old : Int)
    let o := offsetOf (z * 128 / ((b.colRange j : Nat) : Rat) + mkRat (tget b.trim j 0) 8)
    (g, o.1, o.2))
  if fs.all (fun f => decide (16384 ≤ f.1) && decide (f.1 ≤ 65535) && decide (-128 ≤ f.2.2) && decide (f.2.2 ≤ 127)) then
    some (fs.map (fun f => (f.1.toNat, f.2.1, f.2.2)))
  else none

/-- The mean temperature of a run, and TC as R431 sets it. -/
def Xbar.newTc (b : Xbar) (fs : List (Nat × Int × Int)) : Int × Int :=
  let t := rneInt (mkRat b.calT.sum b.calT.length)
  let dt := t - b.tCal
  if dt.natAbs < 128 then (t, b.tc)
  else
    let m := ((List.zip (List.range 516) fs).map (fun e =>
      ((e.2.1 : Nat) : Rat) / ((tget b.gain e.1 32768 : Nat) : Rat) - 1)).sum / 516
    (t, clampI (-2000) 2000 (rneInt (m * 64000000 / (dt : Rat))))

/-- The commit of a run (R431, R90, R435): GAIN, OFF, TC, T_CAL and K together, with the noise the run measured.
DEDUCED: log entry 48. -/
def State.calCommit (s : State) (r x : Nat) (fs : List (Nat × Int × Int)) (sg sgT : Nat) : State :=
  let b := s.xbar r x
  let tt := b.newTc fs
  let ix := List.zip (List.range 516) fs
  let s := s.modXbar r x (fun b => { b with
    gain := ix.foldl (fun t e => tset t e.1 e.2.1 32768) []
    trim := ix.foldl (fun t e => tset t e.1 e.2.2.1 0) []
    off := ix.foldl (fun t e => tset t e.1 e.2.2.2 0) []
    rowf := b.calRow
    tc := tt.2, tCal := tt.1, k := 32768, calOk := true, sigma := sg, sigmaCal := sg, sigmaT := min sgT (115 * sg / 100)
    redos := 0, prods := 0, biased := false, resM := [], resQ := []
    st := if b.st = 2 then (match s.cellOf r with
      | some c => if (s.cell c).phys 8 = x then 1 else 0
      | none => 0) else b.st })
  let s := s.modPhy r (fun p => { p with
    calCount := p.calCount + 1, calTime := s.time, calTemp := tt.1, calCause := b.calCause, calDirty := true })
  let s := match s.cellOf r with
    | some c => s.count c Ev.calRuns 1 (xq x)
    | none => s
  let s := s.calLeaves r x
  -- a crossbar convicted by a drill is drilled again (R365)
  let s := if b.drillMark then s.modPhy r (fun p => { p with prio := true }) else s
  s.calEnds r x 0

/-- RECAL_SLICE (R118, R427, R431): the next slice of 64 rows of a run.  z are the means of the conversions with no row
driven (used by slice 0) and m those with the slice driven at 1, both in code units at the column's range; rows the
transposed factors of its 64 rows; sg and sgT the noise measured, used by the last slice. -/
def execRecalSlice (r : Rid) (x : Xb) (z m : List Rat) (rows : List Nat) (sg sgT : Nat) (s : State) : Out :=
  match s.cellOf r with
  | none => .next s
  | some c =>
    let b := s.xbar r x
    let cl := s.cell c
    let lx := cl.logical x
    let busy := cl.wq.any (fun j => j.running && !j.spare && j.phys == x)
    let mid := b.slice == 8 && cl.flight.any (fun f => f.isProduct && f.started && decide (f.vec < f.total))
    if b.slice = 0 || (s.phy r).rst != 0 || busy || mid then .next s
    else if s.boot.refin then .next (s.calAbort r x true)
    else
      let n := b.slice - 1
      let codes := s.planeBase c (cl.set lx) 0
      let ach := s.planeBase c (cl.set lx) 2
      let e (j : Nat) : Rat := mkRat (((List.range 64).map (fun i => s.storedAt b codes ach (64 * n + i) j)).sum) 64
      let b := { b with
        slice := b.slice + 1
        calZ := if n = 0 then tputs [] 0 (z.take 516) 0 else b.calZ
        calM := (List.range 516).foldl (fun t j => tset t j (tget t j 0 + m.getD j 0) 0) b.calM
        calE := (List.range 516).foldl (fun t j => tset t j (tget t j 0 + e j) 0) b.calE
        calT := b.calT ++ [(s.phy r).temp]
        calRow := (List.range 64).foldl (fun t i => tset t (64 * n + i) (rows.getD i 32768) 32768) b.calRow }
      let t := s.modXbar r x (fun _ => b)
      if n < 7 then .next t
      else
        match b.newFactors with
        | some fs => .next (t.calCommit r x fs sg sgT)
        | none =>
          let t := t.count c Ev.calFailed 1 (xq x)
          .next (((t.calLeaves r x).failXbar r x 1).calEnds r x 1)

/-! ### Column converters (R70, R429) -/

/-- The periphery of a region rebuilt from the codes planes: check tables of its crossbars that are not STALE (R70). -/
def State.rebuild (s : State) (c : Nat) : State :=
  let cl := s.cell c
  (List.range 8).foldl (fun s lx =>
    let x := cl.phys lx
    if (s.xbar (s.reg c) x).st = 4 then s
    else let base := s.planeBase c (cl.set lx) 0
         s.modXbar (s.reg c) x (fun b => s.formTable b base)) s

/-- The eight writes that bring a spare's crossbars to a logical cell's planes (R16, R125). -/
def State.spareWrites (s : State) (c : Nat) : State :=
  s.modCell c (fun cl => { cl with
    substStage := 3
    wq := cl.wq ++ (List.range 8).map (fun lx => { WriteJob.reset with
      lx := lx, phys := lx, load := true, spare := true, rowsArg := 512, slotWaitFrom := s.time }) })

/-- COLUMN_SELF_CAL (R124, R429, R445): the column converters of a region have self-calibrated; bad are the crossbars whose
converters failed. -/
def execColumnSelfCal (r : Rid) (bad : List Nat) (s : State) : Out :=
  if (s.phy r).rst != 0 || s.boot.refin then .next s
  else
    let bad := bad.filter (fun x => decide (x < 9))
    let t := (List.range 9).foldl (fun t x => t.modXbar r x (fun b => { b with selfCal := false })) s
    let t := bad.foldl (fun t x => t.failXbar r x 2) t
    match s.cells.find? (fun e => e.2.subst == r.val + 1 && e.2.substStage == 2) with
    | some e => .next (if bad.isEmpty then t.spareWrites e.1 else t.nextSpare e.1)
    | none => .next t

/-! ### The calibration record (R436) -/

/-- The calibration record of a cell region, as its factors stand. -/
def State.calImage (s : State) (r : Nat) : RecImg :=
  mkImg (recSize Ty.calibration) ((List.range 9).flatMap (fun x =>
    let b := s.xbar r x
    let o := 3092 * x
    (List.range 516).flatMap (fun j =>
      [(o + 2 * j, 2, tget b.gain j 32768), (o + 1032 + j, 1, unsgn 8 (tget b.off j 0)), (o + 1548 + j, 1, unsgn 8 (tget b.trim j 0))]) ++
    (List.range 512).map (fun i => (o + 2064 + 2 * i, 2, tget b.rowf i 32768)) ++
    [(o + 3088, 2, unsgn 16 b.tc), (o + 3090, 2, unsgn 16 b.tCal)]))

/-- CAL_RECORD_STORE (R436, R480): the groom asks for the write of a region's factors. -/
def execCalRecordStore (r : Rid) (s : State) : Out :=
  let p := s.phy r
  if p.calDirty && (!p.calEver || s.passed p.calStored (s.fld 0 Ty.calibrationPolicy 0 4 4 * 1000000000)) then
    let t := { s with recs := tins s.recs (recKey 0 Ty.calibration r) (s.calImage r) }
    .next ((t.modPhy r (fun p => { p with calDirty := false, calEver := true, calStored := s.time })).askWrite Ty.calibration r)
  else .next s

end Sys2Proof.Machine
end

