-- ==== Sys2Proof/Machine/Vector.lean ====
section
/-! DEFINITION. Machine/Vector: the vector operations and folds (R186 to R192, R236) and the tally's ACC and ACCRD
(R198, R199, R237). -/

namespace Sys2Proof.Machine

/-- What issue learns of a vector word (R186 to R188, R236). -/
def State.issVec (s : State) (c : Nat) (o : Op) (w : Nat) : Iss :=
  let three := o == .vfma || o == .vsel
  let nodst := bit (wordMod w) 0
  let fold := bits w 11 10
  let hasSub := o == .vcmp || o == .vmul
  let (a, ia) := s.streamDesc c (bits w 95 80)
  let (b, ib) := s.streamDesc c (bits w 79 64)
  let (k, ik) := if three then s.streamDesc c (bits w 63 48) else (a, [])
  let (d, id) := if nodst then (a, []) else s.streamDesc c (bits w 47 32)
  let (f, if_) := if fold == 0 then (Desc.reset, []) else s.streamDesc c (bits w 31 16)
  let same (x : Desc) : Bool := x.inner == a.inner && x.outer == a.outer
  let zero := a.inner == 0 || a.outer == 0
  let srcs := [a, b] ++ if three then [k] else []
  let dsts := (if nodst then [] else [d]) ++ if fold == 0 then [] else [f]
  { Iss.none with
    ill := rsvIll w ([(95, 80), (79, 64), (11, 10)] ++ (if three then [(63, 48)] else []) ++
        (if nodst then [] else [(47, 32)]) ++ (if fold == 0 then [] else [(31, 16)]) ++ if hasSub then [(15, 12)] else []) ++
      ia ++ ib ++ ik ++ id ++ if_ ++
      cz (o == .vcmp && 8 ≤ bits w 15 12) 5 ++ cz (o == .vmul && 4 ≤ bits w 15 12) 5 ++ cz (nodst && fold == 0) 5 ++
      cz (!nodst && !wide d.fmt && d.fmt < 8) 5 ++ cz (fold != 0 && !wide f.fmt && f.fmt < 8) 5 ++
      cz (!same b || !same k || !same d) 6 ++ cz (fold != 0 && (f.inner != 1 || f.outer != a.outer)) 6
    flt := if zero then [] else srcs.flatMap (fun x => s.streamFlt c 4 false x) ++ dsts.flatMap (fun x => s.streamFlt c 4 true x) ++
      fz (dsts.any (fun x => srcs.any (fun y => x.overlaps y))) Fc.address 4
    a := a, b := b, c := k, d := d, f := f, zero := zero
    rd := srcs.flatMap (fun x => x.ranges), wr := dsts.flatMap (fun x => x.ranges) }

/-- A comparison of VCMP by its SUB code (R189). -/
def vcmpHolds (sub : Nat) (a b : Fv) : Bool :=
  let un := a == .nan || b == .nan
  match sub with
  | 0 => a.lt b
  | 1 => a.lt b || a.eqv b
  | 2 => a.eqv b
  | 3 => un || !a.eqv b
  | 4 => b.lt a || a.eqv b
  | 5 => b.lt a
  | 6 => !un
  | _ => un

/-- One lane of a vector operation: the FP32 result (R189 to R191). -/
def vecLane (o : Op) (sub : Nat) (a b k : Fv) : Fv :=
  match o with
  | .vadd => (a.add b).r32
  | .vmul => (match sub with
    | 0 => a.mul b
    | 1 => ldexp a b
    | 2 => a.mul (rcpSeed b)
    | _ => a.mul (rsqSeed b)).r32
  | .vfma => (a.fma b k).r32
  | .vcmp => if vcmpHolds sub a b then .num 1 false else .zero
  | .vsel => if k.eqv .zero then b else a
  | .vmin => a.min b
  | .vmax => a.max b
  | _ => .nan

/-- Halves added until one value is left: element i to element i + h (R192). -/
def treeSum (n : Nat) (l : List Fv) : Fv :=
  match n with
  | 0 => l.headD .zero
  | k + 1 => treeSum k ((List.zip (l.take (2 ^ k)) (l.drop (2 ^ k))).map (fun x => (x.1.add x.2).r32))

/-- Fold SUM of a row: chunks of 256 padded with +0, each by a tree, the chunk values in order (R192). -/
def foldSum (l : List Fv) : Fv :=
  match (chunks 256 l.length l).map (fun k => treeSum 8 (k ++ List.replicate (256 - k.length) .zero)) with
  | [] => .zero
  | x :: r => r.foldl (fun a b => (a.add b).r32) x

/-- A fold of a row: 1 SUM, 2 MIN, 3 MAX; a row of one element folds to itself (R192). -/
def foldRow (k : Nat) (l : List Fv) : Fv :=
  match l with
  | [] => .zero
  | [x] => x
  | x :: r => if k = 1 then foldSum l else if k = 2 then r.foldl Fv.min x else r.foldl Fv.max x

/-- The results of a vector instruction, row by row. -/
def State.vecRows (s : State) (c : Nat) (o : Op) (w : Nat) (i : Iss) : List (List Fv) :=
  (List.range i.a.outer).map (fun r =>
    (List.zip (s.rowOf c i.a r) (List.zip (s.rowOf c i.b r) (s.rowOf c i.c r))).map (fun x =>
      vecLane o (bits w 15 12) x.1 x.2.1 x.2.2))

/-- The effect of a vector instruction: the results, and one folded element per row (R189, R192). -/
def State.vecEffect (s : State) (c : Nat) (o : Op) (w : Nat) (i : Iss) : State :=
  let rows := s.vecRows c o w i
  let s := if bit (wordMod w) 0 then s else s.wrWide c i.d rows.flatten
  let s := if bits w 11 10 = 0 then s
           else (s.wrWide c i.f (rows.map (foldRow (bits w 11 10)))).count c Ev.vecFolds i.a.outer
  s.count c Ev.vecGroups (cdiv i.a.count 256)

/-- A vector instruction reaches issue. -/
def State.vecIssue (s : State) (c : Nat) (o : Op) : State :=
  match s.atOp c o with
  | some w => let i := s.issVec c o w
              s.issueUnit c w i true (fun t => t.vecEffect c o w i)
  | none => s

/-- Whether a VADD that would issue updates a master copy: its destination meets a master range (R264, R272).
DEDUCED: log entry 63. -/
def State.masterUpdate (s : State) (c : Nat) : Bool :=
  match s.atOp c .vadd with
  | none => false
  | some w =>
    let d := (s.issVec c .vadd w).d
    d.dev && d.count != 0 && (s.masters (s.owner c)).any (fun r =>
      decide (d.span.1 < ((r.1 + r.2 : Nat) : Int)) && decide ((r.1 : Int) < d.span.2))

/-- VADD (R189); an accepted update of a master copy belongs to the apply phase (R272). -/
def execVadd (c : Cid) (s : State) : Out :=
  let t := s.vecIssue c .vadd
  .next (if s.masterUpdate c && (t.cell c).nextKey != (s.cell c).nextKey then t.modPart (t.owner c) (fun q => { q with applied := true }) else t)
/-- VMUL (R189, R191). -/
def execVmul (c : Cid) (s : State) : Out := .next (s.vecIssue c .vmul)
/-- VFMA (R189). -/
def execVfma (c : Cid) (s : State) : Out := .next (s.vecIssue c .vfma)
/-- VCMP (R189). -/
def execVcmp (c : Cid) (s : State) : Out := .next (s.vecIssue c .vcmp)
/-- VSEL (R189). -/
def execVsel (c : Cid) (s : State) : Out := .next (s.vecIssue c .vsel)
/-- VMIN (R189). -/
def execVmin (c : Cid) (s : State) : Out := .next (s.vecIssue c .vmin)
/-- VMAX (R189). -/
def execVmax (c : Cid) (s : State) : Out := .next (s.vecIssue c .vmax)

/-! ### The tally -/

/-- The tally bytes that entries 0 to n − 1 of a parameter block span, and whether one lies beyond 65,535 (R198). -/
def ParamBlk.tallySpan (p : ParamBlk) (n : Nat) : (Nat × Nat) × Bool :=
  ((0x200000 + 4 * p.e0, 0x200000 + 4 * (p.entry (n - 1) + 1)), decide (65535 < p.entry (n - 1)))

/-- What issue learns of ACC (R198, R237). -/
def State.issAcc (s : State) (c w : Nat) : Iss :=
  let (a, ia) := s.streamDesc c (bits w 95 80)
  let (p, ip) := s.paramBlk c (bits w 79 64)
  let zero := a.count == 0
  let (sp, out) := p.tallySpan a.count
  { Iss.none with
    ill := rsvIll w [(95, 80), (79, 64), (63, 58)] ++ ia ++ ip ++ cz (!wide a.fmt && a.fmt < 8) 5 ++ cz (!s.mayDraw c p.stream) 6
    flt := if zero then [] else s.streamFlt c 5 false a ++ fz out Fc.address 0
    a := a, par := p, zero := zero, rd := a.ranges, wr := [sp] }

/-- ACC: every element is committed into its entry, in stream order (R147, R148, R198). -/
def execAcc (c : Cid) (s : State) : Out :=
  match s.atOp c .acc with
  | some w =>
    let i := s.issAcc c w
    .next (s.issueUnit c w i true (fun t =>
      let xs := s.streamOf c i.a
      (List.zip (List.range xs.length) xs).foldl (fun t x =>
        t.tallyCommit c (i.par.entry x.1) x.2 i.par.stream (bits w 63 58) (i.par.posBase + i.par.entry x.1)) t))
  | none => .next s

/-- What issue learns of ACCRD (R199, R237). -/
def State.issAccrd (s : State) (c w : Nat) : Iss :=
  let (d, id) := s.streamDesc c (bits w 95 80)
  let (p, ip) := s.paramBlk c (bits w 79 64)
  let zero := d.count == 0
  let (sp, out) := p.tallySpan d.count
  { Iss.none with
    ill := rsvIll w [(95, 80), (79, 64)] ++ id ++ ip ++ cz (!wide d.fmt && d.fmt < 8) 5
    flt := if zero then [] else s.streamFlt c 5 true d ++ fz out Fc.address 0
    d := d, par := p, zero := zero
    rd := [sp], wr := d.ranges ++ if bit (wordMod w) 0 then [sp] else [] }

/-- One entry read by ACCRD, with CLEAR made +0.0. -/
def State.accrdOne (s : State) (c : Nat) (i : Iss) (clear : Bool) (k r e : Nat) : State :=
  let n := i.par.entry k
  let v := ((s.cell c).entry32 n).mul (dec32 i.par.scale)
  let s := if clear then s.modCell c (fun cl => { cl with tally := tset cl.tally n 0 0 }) else s
  s.wrElem c i.d r e (encWide i.d.fmt none v)

/-- ACCRD: entries times SCALE, rounded once by RNE (R199). -/
def execAccrd (c : Cid) (s : State) : Out :=
  match s.atOp c .accrd with
  | some w =>
    let i := s.issAccrd c w
    .next (s.issueUnit c w i true (fun t =>
      ((List.zip (List.range i.d.count) i.d.pos).foldl (fun t x =>
        t.accrdOne c i (bit (wordMod w) 0) x.1 x.2.1 x.2.2) t).count c Ev.accrdEntries i.d.count))
  | none => .next s

end Sys2Proof.Machine
end

