-- ==== Sys2Proof/Machine/Collective.lean ====
section
/-! DEFINITION. Machine/Collective: CRED, CBCAST, CNORM and CFIN, the messages of barriers and collectives, and their
timeout (R238 to R240, R307 to R310).  Every member's contribution travels to every member's module, and each module
forms the fixed combination of R308, which depends on the values and the rank order alone. -/

namespace Sys2Proof.Machine

/-- Code of a collective in messages. -/
def Op.collCode (o : Op) : Nat :=
  match o with
  | .cbcast => 1 | .cnorm => 2 | .cfin => 3 | _ => 0

/-- The collective of a flight of the collective unit: its group and code. -/
def Flight.coll (f : Flight) : Nat × Nat :=
  (bits f.word.toNat 63 52, match wordOp f.word.toNat with | some o => o.collCode | none => 0)

/-! ### The combinations (R239, R308) -/

/-- Chunk length of a reduce-scatter. -/
def chunkLen (n g : Nat) : Nat := cdiv n (max g 1)

/-- One combining operation: SUM, MIN, MAX.
DEDUCED: log entry 50. -/
def combine (k : Nat) (a b : Fv) : Fv := if k = 0 then (a.add b).r32 else if k = 1 then a.min b else a.max b

/-- Element i of a CRED: its chunk's chain starts at the rank after the chunk's number (R308).  vals are the members'
contributions by rank. -/
def credElem (k n : Nat) (vals : List (List Nat)) (i : Nat) : Fv :=
  let g := vals.length
  let c := i / max (chunkLen n g) 1
  let at_ (r : Nat) : Fv := dec32 ((vals.getD (r % g) []).getD i 0)
  (List.range (g - 1)).foldl (fun acc j => combine k acc (at_ (c + 2 + j))) (at_ (c + 1))

/-- A combination over the binary tree of ranks: own value, left child's, right child's (R308). -/
def treeFold {α : Type} (op : α → α → α) (vals : List α) (fuel r : Nat) : Option α :=
  match fuel with
  | 0 => none
  | n + 1 =>
    match vals[r]? with
    | none => none
    | some v =>
      let a := match treeFold op vals n (2 * r + 1) with | some x => op v x | none => v
      some (match treeFold op vals n (2 * r + 2) with | some x => op a x | none => a)

/-- Square root in FP32 by RNE (R239). -/
def sqrt32 (x : Fv) : Fv :=
  match x with
  | .num v _ => if v < 0 then .nan else if v = 0 then x else .num (sqrtSig 24 v) false
  | .inf neg => if neg then .nan else x
  | .nan => .nan

/-- Contributions by rank. -/
def CollSt.byRank (k : CollSt) (g : Nat) : List (List Nat) :=
  (List.range g).map (fun r => match k.parts.find? (fun p => p.1 == r) with | some p => p.2 | none => [])

/-! ### Landing -/

/-- The result of a completed collective enters one member: DST is written, or CFIN's outcome is kept until the
instruction completes.
DEDUCED: log entry 50. -/
def State.landColl (s : State) (c : Nat) (f : Flight) (r : Nat) (vals : List (List Nat)) : State :=
  let w := f.word.toNat
  let g := vals.length
  let code := f.coll.2
  let s := s.modCell c (fun cl => { cl with flight := cl.flight.map (fun x => if x.key = f.key then { x with left := 0 } else x) })
  if code = 0 then
    let n := f.src.count
    let pat := bits w 49 48
    let k := bits w 51 50
    let len := chunkLen n g
    if pat = 0 then s.wrWide c f.dst ((List.range n).map (credElem k n vals))
    else if pat = 1 then s.wrWide c f.dst (((List.range n).drop (r * len)).take len |>.map (credElem k n vals))
    else if r = bits w 47 32 then s.wrWide c f.dst ((List.range n).map (credElem k n vals))
    else s
  else if code = 1 then
    if r = bits w 47 32 then s
    else
      let data := vals.getD (bits w 47 32) []
      s.landElems c f.dst 0 (data.take f.dst.count) (data.drop f.dst.count)
  else if code = 2 then
    let t := (treeFold (fun a b => (a.add b).r32) (vals.map (fun v => dec32 (v.headD 0))) 18 0).getD .zero
    s.wrWide c f.dst [sqrt32 t]
  else
    let t := vals.any (fun v => v.headD 0 != 0)
    s.modCell c (fun cl => { cl with flight := cl.flight.map (fun x => if x.key = f.key then { x with vec := b2n t } else x) })

/-- Whether a collective has every member's contribution, with equal counts. -/
def CollSt.full (k : CollSt) (g : Nat) : Bool :=
  decide (0 < g) && !k.bad && (List.range g).all (fun r => k.parts.any (fun p => p.1 == r))

/-- The oldest entry of a cell's collective unit that waits for a collective. -/
def Cell.waitingColl (cl : Cell) (g code : Nat) : Option Flight :=
  cl.flight.find? (fun f => f.unit == 6 && f.left == 1 && f.coll == (g, code))

/-- Collectives of an ACTIVE group that every member has joined complete, oldest first. -/
def State.tryColls (s : State) (g fuel : Nat) : State :=
  match fuel with
  | 0 => s
  | n + 1 =>
    let gr := s.grp g
    let ms := s.groupMembers g
    if gr.st != 1 then s
    else match findIdx (fun k => decide (k.op < 4) && k.full ms.length) gr.colls with
      | none => s
      | some (i, k) =>
        let s := s.modGrp g (fun gr => { gr with colls := gr.colls.eraseIdx i })
        let vals := k.byRank ms.length
        let s := (List.zip (List.range ms.length) ms).foldl (fun s e =>
          if e.2.1 = s.fab.nodeId then
            match (s.cell e.2.2).waitingColl g k.op with
            | some f => s.landColl e.2.2 f e.1 vals
            | none => s
          else s) s
        s.tryColls g n

/-! ### Contributions -/

/-- A contribution joins the first collective of its kind in the group that lacks its rank, or begins one (R240). -/
def joinColl (l : List CollSt) (m : CollMsg) (epoch now : Nat) : List CollSt :=
  match findIdx (fun k : CollSt => k.op == m.op && k.parts.all (fun p => p.1 != m.rank) && !k.zeros.contains m.rank) l with
  | some (i, k) =>
    let first := k.parts.isEmpty
    l.set i (if m.count = 0 then { k with zeros := insN m.rank k.zeros }
             else { k with parts := k.parts ++ [(m.rank, m.data)], count := if first then m.count else k.count
                           at_ := if first then now else k.at_
                           bad := k.bad || (!first && k.count != m.count) })
  | none =>
    l ++ [if m.count = 0 then { CollSt.reset with op := m.op, zeros := [m.rank], epoch := epoch, at_ := now }
          else { CollSt.reset with op := m.op, count := m.count, mode := m.mode, root := m.root
                                   parts := [(m.rank, m.data)], epoch := epoch, at_ := now }]

/-- A member's contribution is taken up by this module. -/
def State.contribute (s : State) (g : Nat) (m : CollMsg) : State :=
  let n := (s.groupMembers g).length
  let s := s.modGrp g (fun gr => { gr with
    colls := (joinColl gr.colls m s.fab.epoch s.time).filter (fun k => !(decide (k.op < 4) && k.parts.isEmpty && decide (n ≤ k.zeros.length))) })
  s.tryColls g (s.grp g).colls.length

/-- A contribution of this module's member: taken up here and sent to every other node of the group.
DEDUCED: log entry 50. -/
def State.offer (s : State) (g : Nat) (m : CollMsg) : State :=
  let nodes := ((s.groupMembers g).map (fun e => e.1)).foldl (fun l n => insN n l) []
  let s := (nodes.filter (fun n => n != s.fab.nodeId)).foldl (fun s n =>
    if m.count = 0 then s.send 0x43 n [g, m.rank, 0] else s.send 0x42 n ([g, m.rank, m.op, m.count, m.mode, m.root] ++ m.data)) s
  s.contribute g m

/-! ### Issue -/

/-- What issue learns of a collective instruction (R238, R239).
DEDUCED: log entry 51. -/
def State.issColl (s : State) (c : Nat) (o : Op) (w : Nat) : Iss :=
  let p := s.owner c
  let g := bits w 63 52
  let ms := s.members p g
  let rank := s.rankOf p g c
  let pre := o == .cred && bit (wordMod w) 0
  let pat := bits w 49 48
  let root := bits w 47 32
  let rooted := o == .cbcast || (o == .cred && pat == 2)
  let hasDst := o == .cred || o == .cnorm
  let (a, ia) := s.streamDesc c (bits w 95 80)
  let (d, id) := if hasDst then s.streamDesc c (bits w 79 64) else (Desc.reset, [])
  let (pb, ip) := if pre then s.paramBlk c (bits w 31 16) else (ParamBlk.reset, [])
  let n := a.count
  let want := match o with
    | .cnorm => 1
    | _ => if pat = 1 then min n ((rank.getD 0 + 1) * chunkLen n ms.length) - rank.getD 0 * chunkLen n ms.length else n
  let dstHere := hasDst && !(o == .cred && pat == 2 && rank != some root)
  let zero := n == 0
  let atRoot := rank == some root
  let rdOk := !(o == .cbcast && !atRoot)
  { Iss.none with
    ill := rsvIll w ([(95, 80), (63, 52)] ++ (if hasDst then [(79, 64)] else []) ++ (if o == .cred then [(51, 50), (49, 48)] else []) ++
        (if rooted then [(47, 32)] else []) ++ if pre then [(31, 16)] else []) ++ ia ++ id ++ ip ++
      cz (o == .cred && (bits w 51 50 == 3 || pat == 3)) 5 ++
      cz ((o == .cred || o == .cnorm) && a.fmt < 8 && !wide a.fmt) 5 ++ cz (hasDst && d.fmt < 8 && !wide d.fmt) 5 ++
      cz (rooted && !ms.isEmpty && ms.length ≤ root) 6 ++ cz (dstHere && d.count != want) 6
    flt := fz rank.isNone Fc.barrierMembership 0 ++ (if zero then [] else s.streamFlt c 6 (!rdOk) a ++
      if dstHere then s.streamFlt c 6 true d else [])
    a := a, d := if o == .cbcast then a else d, par := pb, zero := zero
    rd := if rdOk then a.ranges else [], wr := (if rdOk then [] else a.ranges) ++ if dstHere then d.ranges else [] }

/-- A cell's contribution to the collective it issues (R239). -/
def State.contribution (s : State) (c : Nat) (o : Op) (w : Nat) (i : Iss) (rank : Nat) : CollMsg :=
  let pre := o == .cred && bit (wordMod w) 0
  let data : List Nat := match o with
    | .cred => (s.streamOf c i.a).map (fun v => enc32 (if pre then (v.mul (dec32 i.par.scale)).r32 else v))
    | .cbcast => if rank = bits w 47 32 then s.rawAll c i.a ++ (if i.a.sc then s.rawScales c i.a else []) else []
    | .cnorm => [enc32 (foldSum ((s.streamOf c i.a).map (fun v => (v.mul v).r32)))]
    | _ => [b2n ((s.streamOf c i.a).any (fun v => !v.fin) || s.poolExhausted (s.owner c))]
  { rank := rank, op := o.collCode, count := i.a.count, mode := bits w 51 50 + 4 * bits w 49 48, root := bits w 47 32, data := data }

/-- A collective instruction enters the collective unit with its contribution; a SUSPENDED group faults (R320). -/
def State.collIssue (s : State) (c : Nat) (o : Op) : State :=
  match s.atOp c o with
  | none => s
  | some w =>
    let i := s.issColl c o w
    let g := bits w 63 52
    let legal := i.cause.isNone && (commonIll w).isEmpty && i.flt.isEmpty
    -- a global fallback that finds the pool exhausted marks the step (R159)
    let mark := legal && !i.zero && o == .cfin && s.poolExhausted (s.owner c)
    match s.rankOf (s.owner c) g c with
    | none => s.issueUnit c w i true (fun t => t)
    | some rank =>
      let cl := s.cell c
      let susp := legal && !i.zero && (s.grp g).st == 2
      let t := s.issueUnit c w i true (fun t =>
        if susp then (t.faultAt c Fc.collective 2 cl.pc cl.word 0 6).count c Ev.collFail 1
        else ((if mark then t.modPart (t.owner c) (fun q => { q with poolSkip := true }) else t).modCell c
          (fun cl => cl.modLast (fun f => { f with left := 1 }))).offer g (s.contribution c o w i rank))
      -- a zero count takes no part, and the other members learn of it (R240)
      if legal && i.zero && t.cell c != cl && (t.cell c).nextKey != cl.nextKey then
        t.offer g { rank := rank, op := o.collCode, count := 0, mode := 0, root := 0, data := [] }
      else t

/-- CRED (R238, R239, R308). -/
def execCred (c : Cid) (s : State) : Out := .next (s.collIssue c .cred)
/-- CBCAST. -/
def execCbcast (c : Cid) (s : State) : Out := .next (s.collIssue c .cbcast)
/-- CNORM. -/
def execCnorm (c : Cid) (s : State) : Out := .next (s.collIssue c .cnorm)
/-- CFIN. -/
def execCfin (c : Cid) (s : State) : Out := .next (s.collIssue c .cfin)

/-! ### Messages (R305, R308, R310) -/

/-- What becomes of a group packet by its epoch (R310): 0 acted on, 1 held, 2 dropped. -/
def State.epochOf (s : State) (h : Hdr) : Nat :=
  if h.epoch = s.fab.epoch then 0 else if h.epoch = (s.fab.epoch + 1) % 2 ^ 32 then 1 else 2

/-- A group packet that comes too late or too early. -/
def State.groupPacket (s : State) (h : Hdr) (g kind rank : Nat) (data : List Nat) (act : State → State) : Out :=
  s.receive h (fun s => match s.epochOf h with
    | 0 => act s
    | 1 => s.modGrp g (fun gr => { gr with held := gr.held ++ [(kind, rank, data)] })
    | _ => s.gcount GEv.fabStaleEpoch 1 [(6, g)])

/-- BARRIER_ARRIVE (R308): a member's arrival reaches the module of rank 0. -/
def execBarrierArrive (h : Hdr) (g rank : Nat) (s : State) : Out :=
  s.groupPacket h g 0 rank [] (fun s => s.arriveAt g rank)

/-- BARRIER_RELEASE (R308). -/
def execBarrierRelease (h : Hdr) (g : Nat) (s : State) : Out :=
  s.groupPacket h g 1 0 [] (fun s => s.releaseGroup g)

/-- Plain numbers of a contribution, for a packet that is held. -/
def CollMsg.toNats (m : CollMsg) : List Nat := [m.op, m.count, m.mode, m.root] ++ m.data

/-- The contribution plain numbers stand for. -/
def CollMsg.ofNats (rank : Nat) (l : List Nat) : CollMsg :=
  { rank := rank, op := l.getD 0 0, count := l.getD 1 0, mode := l.getD 2 0, root := l.getD 3 0, data := l.drop 4 }

/-- A member announces its count: with zero it takes no part in any collective that lacks it. -/
def State.tookNoPart (s : State) (g rank count : Nat) : State :=
  if count = 0 then
    [0, 1, 2, 3].foldl (fun s op =>
      if (s.grp g).colls.any (fun k => k.op == op && k.parts.all (fun p => p.1 != rank)) then
        s.contribute g { rank := rank, op := op, count := 0, mode := 0, root := 0, data := [] } else s) s
  else s

/-- COLL_CTRL (R240, R305): a member announces its count.
DEDUCED: log entry 51. -/
def execCollCtrl (h : Hdr) (g rank count : Nat) (s : State) : Out :=
  s.groupPacket h g 3 rank [count] (fun s => s.tookNoPart g rank count)

/-! ### The timeout (R240, R307) -/

/-- A collective of a group ends in fault for every member of this module that waits in it. -/
def State.failColl (s : State) (g : Nat) (k : CollSt) (cause : Nat) : State :=
  let ms := s.groupMembers g
  k.parts.foldl (fun s p =>
    match ms[p.1]? with
    | some m =>
      if m.1 = s.fab.nodeId then
        match (s.cell m.2).waitingColl g k.op with
        | some f => (s.faultAt m.2 Fc.collective cause f.pc f.word 0 6).count m.2 Ev.collFail 1
        | none => s
      else s
    | none => s) s

/-- COLLECTIVE_TIMEOUT (R240, R307): the group's timeout has run out for what a cell waits in.
DEDUCED: log entry 51. -/
def execCollectiveTimeout (c : Cid) (s : State) : Out :=
  let cl := s.cell c
  let p := s.owner c
  let limit (g : Nat) := s.fld p Ty.group g 0 4 * 1000000
  if cl.st = 2 && cl.wait.kind = 3 && cl.wait.arrived && (s.grp cl.wait.group).st != 1 && s.passed cl.wait.start (limit cl.wait.group) then
    let g := cl.wait.group
    let r := (s.rankOf p g c).getD 0
    let t := s.modGrp g (fun gr => { gr with
      colls := (gr.colls.map (fun k => if k.op == 4 then { k with parts := k.parts.filter (fun q => q.1 != r) } else k)).filter
        (fun k => !(k.op == 4 && k.parts.isEmpty)) })
    .next ((t.precise c Fc.collective 1).count c Ev.collFail 1)
  else
    match cl.flight.find? (fun f => f.unit == 6 && f.left == 1) with
    | none => .next s
    | some f =>
      let g := f.coll.1
      match s.rankOf p g c with
      | none => .next s
      | some r =>
        match findIdx (fun k => k.op == f.coll.2 && k.parts.any (fun q => q.1 == r)) (s.grp g).colls with
        | none => .next s
        | some (i, k) =>
          if s.passed k.at_ (limit g) then
            let n := (s.groupMembers g).length
            let all := (List.range n).all (fun q => k.parts.any (fun e => e.1 == q) || k.zeros.contains q)
            .next ((s.modGrp g (fun gr => { gr with colls := gr.colls.eraseIdx i })).failColl g k (if k.bad || all then 0 else 1))
          else .next s

end Sys2Proof.Machine
end

