-- ==== Sys2Proof/Machine/Link.lean ====
section
/-! DEFINITION. Machine/Link: the ports of Delrov Link and their bring-up (R294 to R300), the route table (R301, R303), and
where probing of a node starts (R316). -/

namespace Sys2Proof.Machine

/-! ### Routes (R301, R303) -/

/-- Ports UP with a direct link to a node. -/
def State.directPorts (s : State) (n : Nat) : List Nat := (List.range 24).filter (fun k => (s.port k).st == 4 && (s.port k).pNode == n)

/-- Nodes behind this module's UP ports. -/
def State.neighbours (s : State) : List Nat :=
  ((List.range 24).filter (fun k => (s.port k).st == 4)).foldl (fun l k => insN (s.port k).pNode l) []

/-- One more hop: nodes not yet reached, with the ports that lead there on a shortest path. -/
def nextLevel (links : Tbl (List Nat)) (seen : List Nat) (level : List (Nat × List Nat)) : List (Nat × List Nat) :=
  level.foldl (fun out e => (tget links e.1 []).foldl (fun out n =>
    if seen.contains n then out
    else match out.find? (fun o => o.1 == n) with
      | some o => out.map (fun x => if x.1 = n then (n, e.2.foldl (fun l p => insN p l) o.2) else x)
      | none => out ++ [(n, e.2)]) out) []

/-- Routes from a level on: node, ports, hops. -/
def routeFrom (links : Tbl (List Nat)) (seen : List Nat) (level : List (Nat × List Nat)) (hops fuel : Nat) : Tbl (List Nat × Nat) :=
  match fuel with
  | 0 => []
  | k + 1 =>
    if level.isEmpty then []
    else
      let now := level.foldl (fun t e => tins t e.1 (e.2.take 4, hops)) []
      let seen := seen ++ level.map (fun e => e.1)
      (routeFrom links seen (nextLevel links seen level) (hops + 1) k).foldl (fun t e => tins t e.1 e.2) now

/-- The route table: up to four ports on shortest paths for every node that LINK_STATE messages show. -/
def State.reroute (s : State) : State :=
  let first := s.neighbours.map (fun n => (n, s.directPorts n))
  s.modFab (fun f => { f with routes := routeFrom f.links [f.nodeId] first 1 32 })

/-- This module floods its UP ports' partners (R301), and its own routes follow. -/
def State.linkState (s : State) : State := (s.send 0x03 0xFFFF s.neighbours).reroute

/-- Whether a node is reachable: a link or a route leads there. -/
def State.reachable (s : State) (n : Nat) : Bool := !(s.directPorts n).isEmpty || !(tget s.fab.routes n ([], 255)).1.isEmpty

/-- Probing of a node starts (R316). -/
def State.startProbe (s : State) (n : Nat) : State :=
  if s.fab.inSystem && s.fab.members.contains n && (tfind s.fab.probes n).isNone then
    s.modFab (fun f => { f with probes := tins f.probes n { Probe.reset with since := s.time, lastPong := s.time } })
  else s

/-! ### Ports -/

/-- A port enters DOWN (R294, R303): routes drop it, LINK_STATE is flooded, and a node whose last link this was is probed.
DEDUCED: log entry 69. -/
def State.portDown (s : State) (k : Nat) (disable : Bool := false) : State :=
  let q := s.port k
  let s := s.modPort k (fun _ => { Port.reset with st := if disable then 0 else 1 })
  let s := if disable then s else s.gcount GEv.fabLinkDown 1 [(4, k)]
  if q.st = 4 then
    let s := s.linkState
    if (s.directPorts q.pNode).isEmpty then s.startProbe q.pNode else s
  else s

/-- The fields of this module's HELLO on a port (R296). -/
def State.helloFields (s : State) (k : Nat) : List Nat :=
  [1, 1, 0x0002, s.fab.nodeId, s.fab.epoch, s.fab.coord, s.groom.feed, Config.serialNumber, k, b2n s.fab.locked]

/-- PORT_SIGNAL_DETECT (R295). -/
def execPortSignalDetect (pt : PortN) (s : State) : Out :=
  .next (if (s.port pt).st = 1 && s.pow.main then s.modPort pt (fun q => { q with st := 2, signal := true }) else s)

/-- LINK_TRAINING_END (R295, R300): the node ID of the node record takes effect, and without a valid one the port stays in
HELLO.
DEDUCED: log entry 69. -/
def execLinkTrainingEnd (pt : PortN) (ok : Bool) (s : State) : Out :=
  if (s.port pt).st != 2 then .next s
  else if !ok then .next (s.portDown pt)
  else
    let n := s.fld 0 Ty.node 0 0 2
    let s := s.modFab (fun f => { f with nodeId := n, noNode := decide (4096 ≤ n) })
    let s := s.modPort pt (fun q => { q with st := 3, cause := if 4096 ≤ n then 3 else 0 })
    .next (if 4096 ≤ n then s else s.send 0x01 0xFFFF (s.helloFields pt))

/-- PORT_DOWN (R294, R303): loss of signal or of codeword alignment. -/
def execPortDown (pt : PortN) (s : State) : Out := .next (if 2 ≤ (s.port pt).st then s.portDown pt else s)

/-- LINK_REPLAY (R294): an uncorrectable codeword; the port falls after more than 64 within 1 ms, or when the codeword has
left the replay buffer. -/
def execLinkReplay (pt : PortN) (have_ : Bool) (s : State) : Out :=
  let q := s.port pt
  if q.st < 2 then .next s
  else
    let s := (s.gcount GEv.fabFecUncorrected 1 [(4, pt)]).gcount (GEv.fecOfPort + pt) 1
    let fresh := s.passed q.uncorrAt 1000000
    let n := if fresh then 1 else q.uncorr + 1
    if !have_ || 64 < n then .next (s.portDown pt)
    else .next ((s.modPort pt (fun q => { q with uncorr := n, uncorrAt := if fresh then s.time else q.uncorrAt })).gcount GEv.fabReplay 1 [(4, pt)])

/-- HELLO_RESEND (R296): every 100 µs until a HELLO has come and HELLO_ACK is sent. -/
def execHelloResend (pt : PortN) (s : State) : Out :=
  let q := s.port pt
  .next (if q.st = 3 && q.cause = 0 && !(q.gotHello && q.sentAck) then s.send 0x01 0xFFFF (s.helloFields pt) else s)

/-- LINK_STATE (R301): the neighbours another node lists. -/
def execLinkState (h : Hdr) (nbrs : List Nat) (s : State) : Out :=
  s.receive h (fun s => (s.modFab (fun f => { f with links := tset f.links h.src nbrs [] })).reroute)

end Sys2Proof.Machine
end

