-- ==== Sys2Proof/Machine/Reset.lean ====
section
/-! DEFINITION. Machine/Reset: a change of owner (R62), the resets of cells and of a partition (R378 to R382, R386,
R387), the records a reset takes from the tack store (R379, R441) and a change of NumVFs (R449). -/

namespace Sys2Proof.Machine

/-! ### The tack store (R441) -/

/-- The valid slot with the higher sequence number. -/
def Slot.newer (t : Slot) : Option RecImg :=
  match t.a, t.b with
  | some x, some y => some (if x.1 < y.1 then y.2 else x.2)
  | some x, none => some x.2
  | none, some y => some y.2
  | none, none => none

/-- Type of a record's key. -/
def keyType (k : Nat) : Nat := (k / 65536) % 65536

/-- Whether a record's key names a record of partition p (R379): those its function writes and its monitor record. -/
def keyOf (s : State) (p k : Nat) : Bool :=
  let ty := keyType k
  let i := k % 65536
  if ty == Ty.layerPrecision || ty == Ty.rotation || ty == Ty.group then k / 2 ^ 32 == p
  else if ty == Ty.range || ty == Ty.plane then s.owner i == p
  else decide (0x100 ≤ ty) && i == p

/-- The records with the keys of a set taken from the tack store again; one with no valid slot takes its factory default
(R379, R441). -/
def State.reload (s : State) (sel : Nat → Bool) : State :=
  let kept := s.recs.filter (fun e => !sel e.1)
  { s with recs := s.store.foldl (fun t e =>
      if sel e.1 then (match e.2.newer with | some r => tins t e.1 r | none => t) else t) kept }

/-! ### Change of owner (R62) -/

/-- A cell has a new owner (R62): EMPTY, its memories, flag counters and counters zero (R499), every crossbar STALE.  A
failed crossbar stays FAILED; writes under way end, and a repair leaves the relay bound where it was wanted, STALE. -/
def State.ownerMoved (s : State) (c : Nat) : State :=
  let cl := s.cell c
  let stale (s : State) (r : Nat) : State :=
    (List.range 9).foldl (fun s x => s.modXbar r x (fun b => { b with st := if b.st = 3 then 3 else 4 })) s
  let s := stale s (s.reg c)
  let s := if cl.subst = 0 then s else stale s (cl.subst - 1)
  let busy := (cl.wq.filter (fun j => j.running)).length
  let s := s.modDie (dieOf c) (fun d => { d with slots := d.slots - busy })
  let bound := cl.wq.foldl (fun cl j => if j.repair then cl.repaired j.lx else cl) cl
  let wasSpare := cl.wq.any (fun j => j.spare)
  let s := s.setCell c { Cell.reset with
    heartbeat := cl.heartbeat, xbind := bound.xbind, pbind := cl.pbind, relayRepair := cl.relayRepair
    nextKey := cl.nextKey, drillCount := cl.drillCount, dark := cl.dark, mapDark := cl.mapDark
    subst := cl.subst, substStage := cl.substStage, substDark := cl.substDark }
  if wasSpare then s.spareWritten c else s

/-- Every cell whose owner differs from what it was passes to its new owner. -/
def State.moveOwners (s : State) (old : Nat → Nat) : State :=
  (List.range 1024).foldl (fun s c => if s.owner c = old c then s else s.ownerMoved c) s

/-! ### Reset of a cell (R378 to R381) -/

/-- Daybook entry of a reset (R387): level 1 context to 4 module; requester 0 to 15 a function, 16 the link, 17 the tray
controller.
DEDUCED: log entry 55. -/
def State.logReset (s : State) (level who : Nat) (cell : Option Nat) (p : Nat) : State :=
  match cell with
  | some c => s.logC c Db.reset (level + 256 * who) [0, c]
  | none => s.logP 0 p Db.reset (level + 256 * who) [0, 0xFFFF]

/-- A reset of a cell begins (R380): issue ends, its wait is abandoned, the row being written is the last of its write, and
later writes are discarded.  A reset under way of the same or a higher level absorbs it (R386).  toks are the commands owed. -/
def State.beginReset (s : State) (c level : Nat) (toks : List Nat) : State :=
  let cl := s.cell c
  let p := s.owner c
  let s := if (s.part p).snap = 1 then s.modPart p (fun q => { q with snapReset := true }) else s
  let s := if (tfind (s.part p).digest c).isSome then
      (s.modPart p (fun q => { q with digest := tdel q.digest c })).gcount GEv.digestAbandoned 1
    else s
  let fresh := cl.resetLevel == 0
  let stops := cl.hostStopBy
  let mine (j : WriteJob) : Bool := !j.repair && !j.spare
  let waiting := cl.wq.filter (fun j => mine j && !j.running)
  let s := s.modCell c (fun cl => { cl with
    resetLevel := max cl.resetLevel level
    resetBy := cl.resetBy ++ toks
    resetAt := if fresh then s.time else cl.resetAt
    draining := 3, wait := Wait.reset, startPend := false, hostStopBy := []
    calDone := [], drillDone := 0
    wq := (cl.wq.filter (fun j => !(mine j && !j.running))).map (fun j =>
      if mine j then { j with rows := j.rows.take 1, cut := true } else j) })
  let s := waiting.foldl (fun s j => s.endWrite c j 2) s
  stops.foldl (fun s t => s.settle p t 0 0) s

/-- Whether the drain of a reset has ended: nothing in flight, or 100 µs gone; and no row half written. -/
def State.drained (s : State) (c : Nat) : Bool :=
  let cl := s.cell c
  (cl.flight.isEmpty || s.passed cl.resetAt 100000) && cl.wq.all (fun j => !j.cut || j.rows.isEmpty)

/-- The image in a cell's instruction buffer against the IMAGE_CRC it was loaded with (R381). -/
def State.imageOk (s : State) (c : Nat) : Bool :=
  let cl := s.cell c
  let code := (List.range cl.codeWords).flatMap (fun i => leBytes 16 (tget cl.ibuf i 0).toNat)
  crc32c (cl.imageHdr.take 16 ++ leBytes 4 0 ++ cl.imageHdr.drop 20 ++ code) == cl.imageCrc

/-- A cell as a context reset leaves it (R379): its issue queues, scoreboard, messages, counters and fault record are
gone; image, memories, heartbeat and event counters stay.
DEDUCED: log entry 53. -/
def Cell.afterContext (cl : Cell) : Cell :=
  { cl with st := if cl.st = 0 then 0 else 1, stopHost := false, pc := cl.entry, flags := [], loops := [], flight := []
            fault := FaultRec.reset, sends := [], recvs := [], ins := [], arbs := []
            wait := Wait.reset, draining := 0, resetLevel := 0, resetBy := []
            drillStatus := if bit cl.drillStatus 3 then cl.drillStatus - 8 else cl.drillStatus }

/-- A cell as a partition reset leaves it (R379): EMPTY and zero but for the heartbeat, the counters and what follows its
crossbars. -/
def Cell.afterPartition (cl : Cell) : Cell :=
  { Cell.reset with
    heartbeat := cl.heartbeat, ctr := cl.ctr, xbind := cl.xbind, pbind := cl.pbind, relayRepair := cl.relayRepair, wq := cl.wq
    nextKey := cl.nextKey, drillCount := cl.drillCount, dark := cl.dark, mapDark := cl.mapDark
    subst := cl.subst, substStage := cl.substStage, substDark := cl.substDark, calStatus := cl.calStatus }

/-- The write that a reset has cut ends DISCARDED (R380). -/
def State.endCut (s : State) (c : Nat) : State :=
  match (s.cell c).wq with
  | j :: _ => if j.cut then s.dropJob c 2 else s
  | [] => s

/-! ### Reset of a partition (R382) -/

/-- Every command of a partition's queues completes ABORTED, and the queues are empty. -/
def State.abortQueues (s : State) (p : Nat) : State :=
  (List.range 63).foldl (fun s q =>
    let k := s.queue p q
    if k.st = 0 then s
    else
      let s := k.open_.foldl (fun s e => s.complete p q e.cid 4 0 0 0 (bit e.flags 1)) s
      let n := if k.st = 1 then (k.sqTail + k.sqLen - k.head) % k.sqLen else 0
      let s := (List.range n).foldl (fun s i =>
        let a := ((k.head + i) % k.sqLen) * 64
        s.complete p q (leNat (tgets k.ring (a + 2) 2 0)) 4 0 0 0 (bit (leNat (tgets k.ring (a + 1) 1 0)) 1)) s
      s.modQueue p q (fun k => { k with head := if k.st = 1 then k.sqTail else k.head, open_ := [] })) s

/-- The communication groups of a partition are dropped on this module: its barriers and collectives are left to their
timeouts (R379, R382). -/
def State.dropGroups (s : State) (p : Nat) : State :=
  let mine := (s.recs.filter (fun e => keyType e.1 == Ty.group && e.1 / 2 ^ 32 == p)).map (fun e => e.1)
  let s := { s with recs := s.recs.filter (fun e => !mine.contains e.1) }
  mine.foldl (fun s k =>
    if (s.groupMembers (k % 65536)).isEmpty then s.modGrp (k % 65536) (fun _ => Group.reset) else s) s

/-- A partition as its reset leaves it: outbox, tag counts, fallback state and locks gone.
DEDUCED: log entry 54. -/
def Part.afterReset (q : Part) : Part :=
  { q with outbox := [], tags := [], layers := [], rotLock := [], gateDone := false, released := false, skipSent := false
           poolSkip := false, stepSkip := false, applied := false, digest := [], digests := [], plan := none
           quiesce := q.quiesce || q.sending, sending := false, resetting := false, shardMap := (0, 0, 0), shardMapNext := none
           planBuf := (0, 0), snapReset := q.snap == 1 }

/-- The functions above a number disappear; their cells pass to partition 0 (R61, R449). -/
def State.vanish (s : State) (p : Nat) : State :=
  let cs := s.cellsOf p
  let s := eachN s cs (fun s c => s.setFld 0 Ty.partition 0 c 1 0)
  let s := if p = 0 then s else eachN s cs State.ownerMoved
  ({ s with funcs := tdel s.funcs p }).modPart p (fun q => { q with vanish := false })

/-- Every cell of the partition has ended its reset: records reloaded, groups dropped (R379, R382).
DEDUCED: log entry 54. -/
def State.endPartReset (s : State) (p : Nat) : State :=
  let n := (s.part p).outbox.length
  let s := if n = 0 then s else s.pcount p PEv.shardDiscarded n
  let s := (s.modPart p Part.afterReset).dropGroups p
  let s := s.reload (fun k => keyOf s p k && keyType k != Ty.group)
  let s := s.modPart p (fun q => { q with selImg := (s.rcd p Ty.counterSelection p).bytes, selPend := false })
  if (s.part p).vanish then s.vanish p else s

/-- Whether no cell of a partition still resets with it. -/
def State.partDone (s : State) (p : Nat) : Bool := (s.cellsOf p).all (fun c => (s.cell c).resetLevel != 3)

/-- A reset of a partition begins (R382): its queues end, and every cell drains. -/
def State.beginPartReset (s : State) (p who : Nat) : State :=
  let s := (s.logReset 3 who none p).pcount p PEv.resetPartition 1
  let s := eachN s (s.cellsOf p) (fun s c => s.modCell c (fun cl => { cl with hostStopBy := [], resetBy := [] }))
  let s := s.abortQueues p
  let s := eachN s (s.cellsOf p) (fun s c => s.beginReset c 3 [])
  let s := s.modPart p (fun q => { q with resetting := true })
  if s.partDone p then s.endPartReset p else s

/-- FUNCTION_LEVEL_RESET (R378, R382): refused while the partition is RESTORING, held while the emergency sequence runs
(R386).
DEDUCED: log entry 54. -/
def execFunctionLevelReset (p : Pn) (s : State) : Out :=
  if !s.hif.up || (s.part p).snap = 2 || s.hif.numVf < p.val || s.boot.resetStage != 0 || (s.part p).resetting then .next s
  else if s.rack.emerg then .next (s.modPart p (fun q => { q with flrHeld := true }))
  else .next (s.beginPartReset p 16)

/-- RESET_COMPLETE (R379 to R381): the drain of a cell's reset has ended.
DEDUCED: log entry 53. -/
def execResetComplete (c : Cid) (s : State) : Out :=
  let cl := s.cell c
  if cl.resetLevel = 0 || !s.drained c || s.boot.resetStage != 0 then .next s
  else
    let p := s.owner c
    let toks := cl.resetBy
    let s := (s.endCut c).dropRelay c
    if cl.resetLevel = 3 then
      let s := s.modCell c Cell.afterPartition
      .next (if (s.part p).resetting && s.partDone p then s.endPartReset p else s)
    else
      let s := s.modCell c Cell.afterContext
      let s := if cl.resetLevel = 2 then s.modCell c (fun x => { x with unitStatus := [], timedOut := false, skip := false, rejected := false })
               else s
      let bad := cl.resetLevel == 2 && cl.st != 0 && !s.imageOk c
      let s := if bad then s.faultAt c Fc.image 0 (s.cell c).pc 0 0 8 else s
      .next (toks.foldl (fun s t => s.settle p t 0 0) s)

/-! ### NumVFs (R449) -/

/-- NumVFs changes: partitions whose functions disappear are reset first.
DEDUCED: log entry 56. -/
def State.setNumVfs (s : State) (n : Nat) : State :=
  let old := s.hif.numVf
  let s := s.modHif (fun h => { h with numVf := n })
  ((List.range 16).filter (fun p => decide (n < p) && decide (p ≤ old))).foldl (fun s p =>
    (s.modPart p (fun q => { q with vanish := true })).beginPartReset p 0) s

/-- NUMVFS_CHANGE (R449). -/
def execNumvfsChange (n : Fin 16) (s : State) : Out :=
  if !s.hif.up || n.val = s.hif.numVf then .next s else .next (s.setNumVfs n)

end Sys2Proof.Machine
end

