-- ==== Sys2Proof/Machine/Records.lean ====
section
/-! DEFINITION. Machine/Records: the checks of a tack record (R534 to R536), its application (R538), shadows and commits
(R537), TACK and TCOMMIT (R244, R245). -/

namespace Sys2Proof.Machine

/-! ### Layout of the bodies (R535, R536) -/

/-- A field, or a run of equal fields: offset, stride, count, bytes, least and greatest value (R535). -/
structure Fld where
  off : Nat
  stride : Nat
  count : Nat
  n : Nat
  lo : Nat
  hi : Nat
  deriving DecidableEq, Repr

/-- One field with its range. -/
def f1 (off n lo hi : Nat) : Fld := { off := off, stride := n, count := 1, n := n, lo := lo, hi := hi }
/-- One field of any value. -/
def fa (off n : Nat) : Fld := f1 off n 0 (256 ^ n - 1)
/-- A device address: bits [63:48] are reserved (R535). -/
def a48 (off : Nat) : Fld := { off := off, stride := 8, count := 1, n := 6, lo := 0, hi := 2 ^ 48 - 1 }
/-- A field repeated. -/
def fs (off stride count n lo hi : Nat) : Fld := { off := off, stride := stride, count := count, n := n, lo := lo, hi := hi }

/-- The fields of a body, with the ranges their rules give (R536). -/
def recFields (ty : Nat) (r : RecImg) : List Fld :=
  match ty with
  | 0x0001 => [fs 0 2 1088 2 0 0xFFFF]
  | 0x0002 => [fs 0 8 304 1 0 15, fs 1 8 304 1 0 255, fs 2 8 304 1 0 255, fs 3 8 304 1 0 255, fs 4 8 304 1 0 255,
               fs 6 8 304 2 0 0xFFFF, fa 2432 8]
  | 0x0003 => [fa 0 2]
  | 0x0004 => [f1 0 1 0 15, f1 1 1 30 36, f1 2 1 30 36]
  | 0x0005 => fs 0 1 1024 1 0 15 :: (List.range 16).flatMap (fun p =>
      [fs (1024 + 3072 * p) 1 2048 1 0 255, fs (3072 + 3072 * p) 16 64 6 0 (2 ^ 41), fs (3080 + 3072 * p) 16 64 8 0 (2 ^ 41)])
  | 0x0006 => [fs 0 1 1024 1 0 2]
  | 0x0007 => [f1 0 2 2000 3800, f1 2 1 10 20, f1 3 1 12 30, f1 4 1 15 40, f1 6 2 0 1000]
  | 0x0008 => [fs 0 1 24 1 0 1]
  | 0x0009 => [f1 0 2 5 5000, f1 2 1 0 1, f1 3 1 0 4, f1 4 4 10000 60000, f1 8 2 0 512]
  | 0x000A => [f1 0 1 2 20, f1 4 4 60 86400]
  | 0x000B => [f1 0 2 0 65528, f1 2 1 16 64, f1 3 1 0 1]
  | 0x000C => [fs 0 1 1312 1 0 255]
  | 0x000D => [fa 0 4, f1 4 1 0 1]
  | 0x000E => [fs 0 2 128 2 0 0xFFFF, f1 256 1 0 1, f1 257 1 0 1, f1 260 4 10 10000000, f1 264 4 0 (2 ^ 20), a48 272]
  | 0x000F => [f1 0 1 0 1, f1 2 2 10 600, f1 4 2 0 600]
  | 0x0010 => [fs 0 1 r.len 1 0 255]
  | 0x0011 => [fs 0 1 r.len 1 0 255]
  | 0x0012 => [fs 0 4 4608 4 0 (2 ^ 32 - 1)]
  | 0x0013 => [fs 0 1 r.len 1 0 255]
  | 0x0100 => [f1 0 1 0 2, f1 1 1 0 1, f1 2 1 0 1, f1 3 1 0 4, f1 4 1 0 3, f1 5 1 0 1, fa 6 2, a48 8, f1 16 8 0 (2 ^ 41)]
  | 0x0101 => [f1 0 1 8 64, f1 1 1 0 4, f1 2 1 0 4, f1 3 1 1 8, f1 4 1 0 2, f1 5 1 0 1, fa 6 2, fa 8 4, f1 12 4 100 100000]
  | 0x0102 => [f1 0 1 1 4, f1 1 1 2 32, fa 2 2]
  | 0x0103 => [f1 0 1 0 2, f1 1 1 0 2, f1 2 1 0 2, f1 3 1 1 254, f1 4 1 1 254, f1 5 1 0 1, fa 6 2, fa 8 2, fa 10 2, fa 12 2,
               fs 16 24 16 1 0 1, fs 17 24 16 1 0 1, fs 18 24 16 1 0 1, fs 19 24 16 1 0 4, fs 20 24 16 4 0 (2 ^ 32 - 1),
               fs 24 24 16 6 0 (2 ^ 48 - 1), fs 32 24 16 6 0 (2 ^ 48 - 1)]
  | 0x0104 => [fa 0 8, fa 8 2, f1 10 1 0 1]
  | 0x0105 => [fa 0 8, f1 8 1 0 64, fs 12 8 (min (r.fld 8 1) 64) 8 0 (2 ^ 64 - 1)]
  | 0x0106 => [f1 0 1 8 64, fs 4 12 128 1 0 1, fs 8 12 128 4 0 (2 ^ 32 - 1), fs 12 12 128 4 0 (2 ^ 32 - 1)]
  | 0x0107 => [f1 0 1 0 1, f1 1 1 1 8, fa 2 1, f1 3 1 0 1, f1 4 2 1 65535, f1 6 2 1 65535, f1 8 2 0 25000,
               f1 12 4 100 100000, f1 16 4 3600 2592000, f1 20 4 3600 2592000, a48 24, f1 32 8 0 (2 ^ 36),
               fs 40 2 1024 2 0 0xFFFF, fs 2088 24 256 2 0 0xFFFF, fs 2096 24 256 6 0 (2 ^ 48 - 1), fs 2104 24 256 8 0 (2 ^ 41),
               fs 8232 8 64 2 0 1023, fs 8234 8 64 2 0 0xFFFF, fs 8236 8 64 4 0 65536,
               fs 8744 12 64 2 0 1023, fs 8748 12 64 4 0 0x200000, fs 8752 12 64 4 0 0x200000]
  | 0x0108 => [f1 0 4 1 60000, f1 4 4 2 65536, fs 8 4 (r.fld 4 4) 2 0 0xFFFF, fs 10 4 (r.fld 4 4) 2 0 1023]
  | 0x0109 => [f1 0 1 0 1, f1 1 1 2 100, f1 2 2 0 400, f1 4 2 0 1023]
  | 0x010A => [fa 0 2, f1 2 1 0 7, f1 4 2 0 1024, fs 6 4 (r.fld 4 2) 2 0 1023, fs 8 4 (r.fld 4 2) 2 0 4095]
  | 0x010B => [fs 0 2 128 2 0 0xFFFF, fs 256 1 128 1 0 1, f1 384 1 0 1, f1 385 1 0 1, f1 386 1 0 24, f1 388 4 10 10000000,
               f1 392 4 0 (2 ^ 20), f1 396 4 0 (2 ^ 20), a48 400, a48 408, fs 416 2 8 2 0 0xFFFF]
  | 0x010C => [fs 0 8 27 6 0 (2 ^ 48 - 1)]
  | _ => []

/-- Whether a field covers a body byte. -/
def Fld.covers (f : Fld) (k : Nat) : Bool :=
  decide (f.off ≤ k) && decide ((k - f.off) / f.stride < f.count) && decide ((k - f.off) % f.stride < f.n)

/-- Whether every copy of a field lies in its range. -/
def Fld.ok (f : Fld) (r : RecImg) : Bool :=
  (List.range f.count).all (fun i => let v := r.fld (f.off + i * f.stride) f.n; decide (f.lo ≤ v) && decide (v ≤ f.hi))

/-- Body bytes a type requires, its counts taken as written, padded to a multiple of 8 (R534 step 7, R535). -/
def bodyLen (ty : Nat) (r : RecImg) : Nat :=
  let up (n : Nat) := cdiv n 8 * 8
  match ty with
  | 0x0105 => up (12 + 8 * r.fld 8 1)
  | 0x0108 => up (8 + 4 * r.fld 4 4)
  | 0x010A => up (6 + 4 * r.fld 4 2)
  | 0x0010 => r.len
  | 0x0013 => up (32 + 16 * r.fld 20 2 + 2420)
  | 0x0011 => if r.len = 6144 || r.len ≤ 64 then r.len else 27832
  | _ => recSize ty

/-- The types of R536. -/
def typeKnown (ty : Nat) : Bool := (decide (1 ≤ ty) && decide (ty ≤ 0x13)) || (decide (0x100 ≤ ty) && decide (ty ≤ 0x10C))

/-! ### Range conditions beyond a plain interval (R534 step 7) -/

/-- Qualifier kinds that apply to a per-cell event (R501). -/
def qualOk (ev q : Nat) : Bool :=
  let k := q / 4096
  let v := q % 4096
  let ard := (0x10 ≤ ev && ev ≤ 0x1B) || (0x20 ≤ ev && ev ≤ 0x2D) || (0x60 ≤ ev && ev ≤ 0x69) || (0x70 ≤ ev && ev ≤ 0x72)
  k == 0 && v == 0 || (k == 5 && v < 4) || (k == 1 && v < 9 && ard) || (k == 2 && (0x30 ≤ ev && ev ≤ 0x34)) ||
    (k == 3 && v < 3 && (0x65 ≤ ev && ev ≤ 0x6A))

/-- Qualifier kinds that apply to a module counter (R501, R503); i counts from counter 384. -/
def modQualOk (i q : Nat) : Bool :=
  let k := q / 4096
  let v := q % 4096
  let c := 384 + i
  k == 0 && v == 0 || (k == 4 && v < 24 && (384 ≤ c && c ≤ 396 || 430 ≤ c)) || (k == 5 && v < 4 && (411 ≤ c && c ≤ 427)) ||
    (k == 6 && (c == 394 || (400 ≤ c && c ≤ 403))) || (k == 7 && v < 6 && c == 397)

/-- The dump fields of a selection record: slots and alignment where dumps are on (R505). -/
def dumpOk (r : RecImg) (en period slots base : Nat) : Bool :=
  (r.fld period 4) % 10 == 0 && (r.fld slots 4 == 0 || 2 ≤ r.fld slots 4) && (r.fld base 6) % 4096 == 0 &&
    (r.fld en 1 == 0 || 2 ≤ r.fld slots 4)

/-- Range conditions of a type that an interval does not say. -/
def recRange (ty : Nat) (r : RecImg) : Bool :=
  match ty with
  | 0x0005 => (List.range 1024).all (fun i =>
      decide (r.fld (3072 + 3072 * (i / 64) + 16 * (i % 64)) 6 + r.fld (3080 + 3072 * (i / 64) + 16 * (i % 64)) 8 ≤ 2 ^ 41))
  | 0x000B => r.fld 0 2 % 8 == 0
  | 0x000E => (List.range 128).all (fun i => modQualOk i (r.fld (2 * i) 2)) && dumpOk r 256 260 264 272
  | 0x0100 => (r.fld 6 2 ≤ 4095 || r.fld 6 2 == 0xFFFF) && decide (r.fld 8 6 + r.fld 16 8 ≤ 2 ^ 41)
  | 0x0101 => [1, 2, 4, 8].contains (r.fld 3 1) && (r.fld 8 4 ≤ 0x3F800000 || r.fld 8 4 == 0x80000000)
  | 0x0103 => (r.fld 10 2 == 0 || (384 ≤ r.fld 10 2 && r.fld 10 2 ≤ 4096)) &&
      (List.range 16).all (fun k => r.fld (18 + 24 * k) 1 == 0 || 1 ≤ r.fld (19 + 24 * k) 1)
  | 0x0104 => [16, 32, 64, 128, 256].contains (r.fld 8 2)
  | 0x0105 => let ids := (List.range (r.fld 8 1)).map (fun i => r.fld (12 + 8 * i) 2)
              ids.all (fun i => decide (i ≤ 0xBFFF)) && decide (ids.eraseDups.length = ids.length)
  | 0x0106 => (List.range 128).all (fun i => (dec32 (r.fld (8 + 12 * i) 4)).fin && (dec32 (r.fld (12 + 12 * i) 4)).fin)
  | 0x0107 => [8, 16, 32, 64].contains (r.fld 2 1) &&
      (List.range 64).all (fun i => decide (r.fld (8234 + 8 * i) 2 + r.fld (8236 + 8 * i) 4 ≤ 65536) &&
        (r.fld (8748 + 12 * i) 4) % 64 == 0 && (r.fld (8752 + 12 * i) 4) % 64 == 0 &&
        decide (r.fld (8748 + 12 * i) 4 + r.fld (8752 + 12 * i) 4 ≤ 0x200000))
  | 0x010B => (List.range 128).all (fun ev => qualOk ev (r.fld (2 * ev) 2) && (r.fld (256 + ev) 1 == 0 || stateEvents.contains ev)) &&
      dumpOk r 384 388 392 400 && (r.fld 386 1 == 0 || (4 ≤ r.fld 386 1 && 16 ≤ r.fld 396 4)) &&
      (r.fld 396 4 == 0 || 16 ≤ r.fld 396 4) && (List.range 8).all (fun h => r.fld (416 + 2 * h) 1 ≤ 8)
  | 0x010C => (List.range 27).all (fun i => decide (r.fld (8 * i) 6 + 0x40000 ≤ 2 ^ 41))
  | _ => true

/-- Reserved bits inside a defined byte (R534 step 6): bits [12:10] of a repair-map entry, and bits [15:12] of a node ID (R7), of which the
node record alone knows 0xFFFF, for none. -/
def rsvBits (ty : Nat) (r : RecImg) : Bool :=
  match ty with
  | 0x0003 => bits (r.fld 0 2) 15 12 == 0 || r.fld 0 2 == 0xFFFF
  | 0x0108 => (List.range (min (r.fld 4 4) 65536)).all (fun i => bits (r.fld (8 + 4 * i) 2) 15 12 == 0)
  | 0x0001 => (List.range 1088).all (fun i => bits (r.fld (2 * i) 2) 12 10 == 0)
  | _ => true

/-! ### The order of checks (R534) -/

/-- A record to be checked: type, instance, body, with the partition it is for. -/
structure Cand where
  ty : Nat
  inst : Nat
  img : RecImg
  deriving DecidableEq, Repr

/-- State as a commit of records by function p would leave its records (R534 step 8). -/
def State.overlay (s : State) (p : Nat) (l : List Cand) : State :=
  { s with recs := l.foldl (fun t k => tins t (recKey p k.ty k.inst) k.img) s.recs }

/-- Step 5: whether function p may write a type and instance; a program applies no module record. -/
def State.mayWrite (o : State) (p : Nat) (program : Bool) (ty inst : Nat) : Bool :=
  if ty < 0x100 then p == 0 && !program && inst == 0 && (3 ≤ ty && ty ≤ 0xB || ty == 0xE || ty == 0xF)
  else if ty == Ty.monitor then p == 0 && !program && inst < 16
  else if ty == Ty.layerPrecision || ty == Ty.rotation || ty == Ty.group then inst ≤ 4095
  else if ty == Ty.range || ty == Ty.plane then inst < 1024 && o.owner inst == p
  else inst == p

/-- A training stream of a partition's dice record (R151, R271). -/
def State.trains (o : State) (p id : Nat) : Bool := decide (id ≤ 0x7FFF) && (o.streamIx p id).isSome

/-- Whether a slot's storage at FMT_FLOOR lies in the partition's ranges (R536). -/
def State.slotOwned (o : State) (p : Nat) (r : RecImg) (k : Nat) : Bool :=
  let n := r.fld (20 + 24 * k) 4
  let b := slotBytes r k (r.fld 1 1)
  n == 0 || (o.ownsMem p (r.fld (24 + 24 * k) 6) b.1 && (r.fld (18 + 24 * k) 1 == 0 || o.ownsMem p (r.fld (32 + 24 * k) 6) b.2))

/-- Slack of a snapshot record: FREE crossbars against the partition's (R333). -/
def State.slackOk (o : State) (p : Nat) (r : RecImg) : Bool :=
  let cs := o.cellsOf p
  let free := (cs.flatMap (fun c => (List.range 8).map (fun x => bits (r.fld (40 + 2 * c) 2) (2 * x + 1) (2 * x)))).filter (· == 0)
  decide (cs.length * 8 ≤ free.length * r.fld 2 1)

/-- Whether memory that a record of partition p names lies in its ranges (R536).
DEDUCED: log entry 57. -/
def State.memKept (o : State) (p ty inst : Nat) (r : RecImg) : Bool :=
  match ty with
  | 0x0100 => r.fld 16 8 == 0 || o.ownsMem p (r.fld 8 6) (r.fld 16 8)
  | 0x0103 => (List.range 16).all (o.slotOwned p r)
  | 0x0107 => (r.fld 32 8 == 0 || o.ownsMem p (r.fld 24 6) (r.fld 32 8)) &&
      (List.range 256).all (fun i => r.fld (2104 + 24 * i) 8 == 0 || o.ownsMem p (r.fld (2096 + 24 * i) 6) (r.fld (2104 + 24 * i) 8)) &&
      (List.range 64).all (fun i => (r.fld (8236 + 8 * i) 4 == 0 || o.owner (r.fld (8232 + 8 * i) 2) == p) &&
        (r.fld (8752 + 12 * i) 4 == 0 || o.owner (r.fld (8744 + 12 * i) 2) == p))
  | 0x010A => (List.range (r.fld 4 2)).all (fun i => o.owner (r.fld (6 + 4 * i) 2) == p)
  | 0x010B => (r.fld 384 1 == 0 || o.ownsMem p (r.fld 400 6) (r.fld 392 4 * 4096)) &&
      (r.fld 386 1 == 0 || o.ownsMem p (r.fld 408 6) (r.fld 396 4 * 64))
  | 0x010C => o.owner inst != p || (List.range 27).all (fun i => o.ownsMem p (r.fld (8 * i) 6) 0x40000)
  | _ => true

/-- Step 8: the fields that must agree, within the record and with others as the commit leaves them.
DEDUCED: log entries 33, 57. -/
def State.agrees (o : State) (s : State) (p : Nat) (cands : List Cand) (k : Cand) : Bool :=
  let r := k.img
  o.memKept p k.ty k.inst r &&
  match k.ty with
  | 0x0005 =>
    let n := match cands.find? (fun c => c.ty == Ty.hostInterface) with | some c => c.img.fld 0 1 | none => s.hif.numVf
    (List.range 1024).all (fun c => decide (r.fld c 1 ≤ n)) &&
      o.recs.all (fun e =>
        let ty := keyType e.1
        let i := e.1 % 65536
        let q := if ty == Ty.layerPrecision then e.1 / 2 ^ 32 else if ty == Ty.plane then o.owner i else i
        !([0x0100, 0x0103, 0x0107, 0x010B, 0x010C].contains ty) || o.memKept q ty i e.2)
  | 0x0007 => decide (r.fld 3 1 < r.fld 4 1)
  | 0x0009 => true
  | 0x000E => r.fld 256 1 == 0 || o.ownsMem 0 (r.fld 272 6) (r.fld 264 4 * 16384)
  | 0x0100 => (r.fld 2 1 == 0 || (r.fld 0 1 == 1 && r.fld 1 1 == 1)) &&
      (r.fld 2 1 == 1 || !bit (o.fld p Ty.replica p 2 1) 2)
  | 0x0101 => decide (r.fld 1 1 ≤ r.fld 2 1) && o.trains p (r.fld 6 2)
  | 0x0102 => o.trains p (r.fld 2 2)
  | 0x0103 => decide (r.fld 1 1 ≤ r.fld 0 1) && decide (r.fld 0 1 ≤ r.fld 2 1) && decide (r.fld 3 1 ≤ r.fld 4 1) &&
      (o.placeLayer p k.inst (r.fld 0 1)).isSome
  | 0x0105 => (!o.hasRec p Ty.arrayRead p || o.trains p (o.fld p Ty.arrayRead p 6 2)) &&
      (!o.hasRec p Ty.arrayWrite p || o.trains p (o.fld p Ty.arrayWrite p 2 2))
  | 0x0106 => (List.range 128).all (fun i => (dec32 (r.fld (8 + 12 * i) 4)).lt (dec32 (r.fld (12 + 12 * i) 4)))
  | 0x0107 => o.slackOk p r
  | 0x0108 => (List.range (r.fld 4 4)).any (fun i => r.fld (8 + 4 * i) 2 == o.fab.nodeId && o.owner (r.fld (10 + 4 * i) 2) == p)
  | 0x0109 => o.owner (r.fld 4 2) == k.inst || (o.cellsOf k.inst).isEmpty
  | 0x010A => !bit (r.fld 2 1) 2 || o.mode p 2 1 == 1
  | _ => true

/-- Step 9: the conditions of the type itself (R62, R142, R250). -/
def State.typeCond (s : State) (p : Nat) (k : Cand) : Bool :=
  let r := k.img
  match k.ty with
  | 0x0005 => (List.range 1024).all (fun c => r.fld c 1 == s.owner c || (s.cell c).st != 2)
  | 0x0100 =>
    s.mode p 2 1 == 0 || (r.fld 2 1 == 1 && r.fld 0 1 == 1 && r.fld 1 1 == 1) ||
      (s.cellsOf p).all (fun c => (s.cell c).st == 0 || !(s.cell c).repro)
  | 0x0104 => !(s.part p).rotLock.contains k.inst ||
      (r.fld 0 8 == s.fld p Ty.rotation k.inst 0 8 && r.fld 8 2 == s.fld p Ty.rotation k.inst 8 2)
  | 0x010C => (s.cell k.inst).wq.isEmpty && (List.range 27).all (fun i =>
      decide (dieOf k.inst * 2 ^ 39 ≤ r.fld (8 * i) 6) && decide (r.fld (8 * i) 6 + 0x40000 ≤ (dieOf k.inst + 1) * 2 ^ 39))
  | _ => true

/-- The first failing step of R534 from step 4 on for a body whose header is right; len is LENGTH less the header, clean
whether the header's reserved bytes are zero. -/
def State.recFail (s : State) (p : Nat) (program groom clean : Bool) (cands : List Cand) (k : Cand) (len : Nat) : Option Nat :=
  let o := s.overlay p cands
  let fl := recFields k.ty k.img
  if !typeKnown k.ty then some 4
  else if !groom && !o.mayWrite p program k.ty k.inst then some 5
  else if !clean || !rsvBits k.ty k.img || k.img.bytes.any (fun e => decide (e.1 < bodyLen k.ty k.img) && !fl.any (fun f => f.covers e.1))
    then some 6
  else if !(fl.all (fun f => f.ok k.img)) || !recRange k.ty k.img || len != bodyLen k.ty k.img then some 7
  else if groom then none
  else if !o.agrees s p cands k then some 8
  else if !s.typeCond p k then some 9
  else none

/-! ### Application (R538) -/

/-- The GOV_LIMIT in force at an input voltage in units of 10 mV (R392). -/
def State.govLimit (s : State) (vin : Nat) : Nat :=
  let g := s.fld 0 Ty.power 0 0 2
  if 3600 ≤ vin && vin < 4000 then min g (95 * vin / 100) else g

/-- Digest of a group record: SHA3-256 over the record with SEQ and CHECK zero (R536). -/
def State.groupHash (s : State) (p g : Nat) : List Byte :=
  let r := s.rcd p Ty.group g
  let n := bodyLen Ty.group r
  sha3 (leBytes 2 Ty.group ++ [0x10, 0] ++ leBytes 4 (32 + n) ++ leBytes 2 g ++ leBytes 22 0 ++ tgets r.bytes 0 n 0)

/-- Nodes with a member in a group. -/
def State.groupNodes (s : State) (g : Nat) : List Nat :=
  (s.groupMembers g).foldl (fun l m => insN m.1 l) []

/-- A group becomes ACTIVE once every member node's digest equals this module's (R307). -/
def State.tryActive (s : State) (g : Nat) : State :=
  let gr := s.grp g
  let own := tget gr.digests s.fab.nodeId []
  if gr.known && gr.st == 0 && !own.isEmpty && (s.groupNodes g).all (fun n => tget gr.digests n [] == own) then
    let s := s.modGrp g (fun gr => { gr with st := 1 })
    (s.tryBarrier g).tryColls g (s.grp g).colls.length
  else s

/-- A group record takes effect: its digest goes to every member node (R307).
DESIGN CHOICE: log entry 52. -/
def State.joinGroup (s : State) (p g : Nat) : State :=
  let h := s.groupHash p g
  let s := s.modGrp g (fun gr => { gr with known := true, st := 0, digests := tins gr.digests s.fab.nodeId h })
  let s := ((s.groupNodes g).filter (fun n => n != s.fab.nodeId)).foldl (fun s n =>
    s.send 0x100 n (g :: h.map BitVec.toNat)) s
  s.tryActive g

/-- A region record asks for region states: a change waits for the region's events, and one that must wait is logged
(N23).
DESIGN CHOICE: log entry 81. -/
def State.askRegion (s : State) (c : Nat) : State :=
  let want := s.fld 0 Ty.region 0 c 1
  let r := s.reg c
  let ph := s.phy r
  if want = ph.rst then (if ph.want = 3 || ph.want = 0 then s else s.modPhy r (fun p => { p with want := 3 }))
  else
    let s := s.modPhy r (fun p => { p with want := want, swAt := s.time })
    if want != 0 && ((s.cell c).st == 2 || !(s.cell c).wq.isEmpty) then s.logR r Db.regionHeld r [want] else s

/-- A record enters force (R538).
DEDUCED: log entry 56. -/
def State.applyRec (s : State) (p : Nat) (k : Cand) : State :=
  let s := { s with recs := tins s.recs (recKey p k.ty k.inst) k.img }
  match k.ty with
  | 0x0003 => s
  | 0x0004 => s.modHif (fun h => { h with bar4Log := k.img.fld 1 1 })
  | 0x0006 => (List.range 1024).foldl State.askRegion s
  | 0x0007 => s.modPow (fun w => { w with limit := s.govLimit w.vin })
  | 0x0008 => (List.range 24).foldl (fun s i =>
      let en := k.img.fld i 1 == 1
      let st := (s.port i).st
      if en && st == 0 then s.modPort i (fun q => { q with st := 1 })
      else if !en && st != 0 then s.portDown i true
      else if en && st == 5 then s.portDown i
      else s) s
  | 0x0103 =>
    let t := match s.placeLayer p k.inst (k.img.fld 0 1) with | some t => t | none => s
    t.modLayer p k.inst (fun y => { y with committed := true, quiet := 0 })
  | 0x0104 => if k.img.fld 10 1 = 1 then s.modPart p (fun q => { q with rotLock := insN k.inst q.rotLock }) else s
  | 0x0108 => s.joinGroup p k.inst
  | 0x010B => s.modPart p (fun q => { q with selPend := true })
  | _ => s

/-- Checked records of one commit enter force together (R538); a partition record moves its cells (R62). -/
def State.applyAll (s : State) (p : Nat) (l : List Cand) : State :=
  let old := s.owner
  let s := match l.find? (fun k => k.ty == Ty.hostInterface) with
    | some k => if s.hif.numVf < k.img.fld 0 1 then s.modHif (fun h => { h with numVf := k.img.fld 0 1 }) else s
    | none => s
  let s := l.foldl (fun s k => s.applyRec p k) s
  let s := if l.any (fun k => k.ty == Ty.partition) then s.moveOwners old else s
  (s.setLeader p).tryReady p

/-- The daybook's entry of a rejected record (R245, R534). -/
def State.logReject (s : State) (p ty inst cause : Nat) : State :=
  s.logP 0 p Db.recordRejected (ty + 65536 * inst) [cause, p]

/-! ### Record images -/

/-- Header fields of an image: TYPE, RVER, LENGTH, INSTANCE, CHECK, and whether its reserved bytes are zero (R533). -/
structure Hdr32 where
  ty : Nat
  rver : Nat
  length : Nat
  inst : Nat
  check : Nat
  clean : Bool
  deriving DecidableEq, Repr

/-- Header of an image. -/
def hdrOf (b : List Byte) : Hdr32 :=
  let f (o n : Nat) := leNat ((b.drop o).take n)
  { ty := f 0 2, rver := f 2 1, length := f 4 4, inst := f 8 2, check := f 28 4
    clean := f 3 1 == 0 && f 10 2 == 0 && f 16 12 == 0 }

/-- Body of an image as a record. -/
def bodyOf (b : List Byte) : RecImg := { len := b.length - 32, bytes := tputs [] 0 (b.drop 32) 0 }

/-- An image checked as R534 orders it and, where it passes, applied: the state and the rejection cause, 0 for none.  b is
the image from its header to the end of its source, as far as LENGTH says. -/
def State.tackImage (s : State) (p : Nat) (program : Bool) (room : Nat) (read : Nat → List Byte) : State × Nat × Nat × Nat :=
  let h := hdrOf (read 32)
  let bad (n : Nat) : State × Nat × Nat × Nat := (s.logReject p h.ty h.inst n, n, h.ty, h.inst)
  if room < 32 || h.length < 32 || h.length % 8 != 0 || 2 ^ 20 < h.length || room < h.length then bad 1
  else
    let b := read h.length
    if crc32c (b.take 28 ++ leBytes 4 0 ++ b.drop 32) != h.check then bad 2
    else if h.rver != 0x10 then bad 3
    else
      let k : Cand := { ty := h.ty, inst := h.inst, img := bodyOf b }
      match s.recFail p program false h.clean [k] k (h.length - 32) with
      | some n => bad n
      | none => (s.applyAll p [k], 0, h.ty, h.inst)

/-! ### Shadows and commits (R537, R538) -/

/-- A staged shadow as a record, its length formed from the body (R537). -/
def Shadow.cand (w : Shadow) : Cand :=
  let r : RecImg := { len := 0, bytes := w.body }
  let n := bodyLen w.ty r
  { ty := w.ty, inst := w.inst, img := { len := n, bytes := w.body.filter (fun e => decide (e.1 < n)) } }

/-- A commit of the shadows staged under a type, or under every type: the state, the rejection cause and what was
committed. -/
def State.commitShadows (s : State) (p ty : Nat) (program : Bool) : State × Nat × List Cand :=
  let f := s.func p
  let named := f.shadows.filter (fun w => ty == 0xFFFF || w.ty == ty)
  let cands := named.map Shadow.cand
  let fails := named.zip cands |>.filterMap (fun e =>
    let n := e.2.img.len
    let short := if 61440 < 32 + n then some 7 else none
    match s.recFail p program false true cands e.2 n with
    | some c => some (match short with | some d => min c d | none => c, e.1.ty, e.1.inst)
    | none => short.map (fun c => (c, e.1.ty, e.1.inst)))
  let done (s : State) (c : Nat) : State := s.modFunc p (fun f => { f with lastRej := c })
  if named.isEmpty then ((done s 10).logReject p ty 0 10, 10, [])
  else match fails with
    | (c, t, i) :: _ => ((done s c).logReject p t i c, c, [])
    | [] =>
      let s := s.modFunc p (fun f => { f with
        shadows := f.shadows.filter (fun w => !(ty == 0xFFFF || w.ty == ty)), full := false, lastRej := 0 })
      (s.applyAll p cands, 0, cands)

/-- A record in force as software reads it: the slots of a layer above its floor show the pool bases in use (R536). -/
def State.shown (s : State) (p ty inst : Nat) : RecImg :=
  let r := s.rcd p ty inst
  if ty == Ty.layerPrecision && s.hasRec p ty inst && r.fld 0 1 != r.fld 1 1 then
    (List.range 16).foldl (fun r k =>
      let base := s.mode p 8 8 + (s.layer p inst).poolOff + slotPool r (r.fld 0 1) k
      let data := tputs r.bytes (24 + 24 * k) (leBytes 8 base) 0
      let scale := base + cdiv (slotBytes r k (r.fld 0 1)).1 64 * 64
      { r with bytes := tputs data (32 + 24 * k) (leBytes 8 scale) 0 }) r
  else r

/-- SHADOW_SEL (R537): the record in force is copied into a shadow, unless sixteen are staged. -/
def execShadowSel (fn : Pn) (ty inst : Nat) (s : State) : Out :=
  let t := ty % 65536
  let i := inst % 65536
  if !s.hif.up || s.hif.numVf < fn.val then .next s
  else
    let s := s.modFunc fn (fun f => { f with sel := t + 65536 * i })
    let f := s.func fn
    if f.shadows.any (fun w => w.ty == t && w.inst == i) then .next s
    else if 16 ≤ f.shadows.length then .next (s.modFunc fn (fun f => { f with full := true }))
    else
      -- a record that stays in the groom, or that belongs to another function, shows as its default
      let shown := if (s.mayWrite fn false t i) then s.shown fn t i else recDefault t
      .next (s.modFunc fn (fun f => { f with shadows := f.shadows ++ [{ ty := t, inst := i, body := shown.bytes }] }))

/-- COMMIT (R537, R538). -/
def execCommit (fn : Pn) (ty : Nat) (s : State) : Out :=
  if !s.hif.up || s.hif.numVf < fn.val then .next s else .next (s.commitShadows fn (ty % 65536) false).1

/-! ### TACK and TCOMMIT (R244, R245) -/

/-- A configuration instruction retires NORMAL or REJECTED, and the rejected flag follows (R211). -/
def State.configDone (s : State) (c cause : Nat) : State :=
  let s := s.modCell c (fun cl => { cl with rejected := cause != 0 })
  let s := if cause = 0 then s else s.count c Ev.tackRejected 1
  s.retire c (if cause = 0 then 0 else 3)

/-- Causes of a configuration word. -/
def configIll (w : Nat) : List Nat := rsvIll w [(95, 80)]

/-- TACK: a record image of the scratchpad is checked and applied at a sequencer boundary; one whose length runs past the
scratchpad raises an address fault. -/
def execTack (c : Cid) (s : State) : Out :=
  match s.atOp c .tack with
  | some w =>
    if !(commonIll w ++ configIll w).isEmpty then .next s
    else
      let a := bits w 95 80 * 32
      let len := s.rdLocN c (a + 4) 4
      if 0x200000 < a + max len 32 then .next (s.precise c Fc.address 0)
      else
        let r := s.tackImage (s.owner c) true (0x200000 - a) (fun n => s.rdLoc c a n)
        .next (r.1.configDone c r.2.1)
  | none => .next s

/-- TCOMMIT: the partition's shadows of a type are committed. -/
def execTcommit (c : Cid) (s : State) : Out :=
  match s.atOp c .tcommit with
  | some w =>
    if !(commonIll w ++ configIll w).isEmpty then .next s
    else
      let r := s.commitShadows (s.owner c) (bits w 95 80) true
      .next (r.1.configDone c r.2.1)
  | none => .next s

end Sys2Proof.Machine
end

