-- ==== Sys2Proof/Machine/Integrity.lean ====
section
/-! DEFINITION. Machine/Integrity: drills (R361 to R366), DIGEST (R247) and the replica digests with their exchange
(R369 to R372). -/

namespace Sys2Proof.Machine

/-! ### DIGEST (R247) -/

/-- A digest context as the model keeps it: 200 bytes of sponge, then the bytes taken into the present block. -/
abbrev Ctx : Type := List Byte

/-- An empty context. -/
def Ctx.fresh : Ctx := List.replicate 256 0

/-- The context in a cell's scratchpad. -/
def State.rdCtx (s : State) (c a : Nat) : Ctx := (List.range 256).map (fun i => s.rdLoc8 c (a + i) ^^^ Config.ctxMask i)

/-- A context's bytes as memory holds them.
DEDUCED: log entry 62. -/
def Ctx.bytes (x : Ctx) : List Byte := (List.range 256).map (fun i => x.getD i 0 ^^^ Config.ctxMask i)

/-- Keccak-f on the 200 bytes of a sponge. -/
def spongeF (b : List Byte) : List Byte :=
  (keccakF ((List.range 25).map (fun i => leNat ((b.drop (8 * i)).take 8)))).flatMap (leBytes 8)

/-- One byte taken into a context. -/
def Ctx.absorb (x : Ctx) (b : Byte) : Ctx :=
  let pos := (x.getD 200 0).toNat % 136
  let st := (x.take 200).set pos (x.getD pos 0 ^^^ b)
  if pos = 135 then spongeF st ++ List.replicate 56 0 else st ++ BitVec.ofNat 8 (pos + 1) :: List.replicate 55 0

/-- The digest a context ends in: padding and 32 bytes (FIPS 202). -/
def Ctx.final (x : Ctx) : List Byte :=
  let pos := (x.getD 200 0).toNat % 136
  let st := (x.take 200).set pos (x.getD pos 0 ^^^ 0x06)
  (spongeF (st.set 135 (st.getD 135 0 ^^^ 0x80))).take 32

/-- What issue learns of a DIGEST. -/
def State.issDigest (s : State) (c w : Nat) : Iss :=
  let (a, ia) := s.streamDesc c (bits w 95 80)
  let h := bits w 79 64 * 32
  let zero := a.count == 0
  { Iss.none with
    ill := rsvIll w [(95, 80), (79, 64)] ++ ia
    flt := if zero then [] else s.streamFlt c 7 false a ++ ((localCause 7 true (h : Int) ((h + 256 : Nat) : Int)).toList).map (fun x => (2, x))
    a := a, zero := zero, rd := a.ranges, wr := [(h, h + 256)] }

/-- DIGEST (R247): the bytes of SRC enter the SHA3-256 computation in CTX. -/
def execDigest (c : Cid) (s : State) : Out :=
  match s.atOp c .digest with
  | none => .next s
  | some w =>
    let i := s.issDigest c w
    let h := bits w 79 64 * 32
    .next (s.issueUnit c w i true (fun t =>
      let data := (List.range i.a.outer).flatMap (fun r => s.rawRow c i.a r)
      let x := data.foldl Ctx.absorb (if bit (wordMod w) 0 then Ctx.fresh else s.rdCtx c h)
      let out := if bit (wordMod w) 1 then x.final ++ x.bytes.drop 32 else x.bytes
      (t.modCell c (fun cl => cl.wrLoc h out)).count c Ev.digestBytes data.length))

/-! ### The cells of a drill (N12, N22, N28, R364) -/

/-- Engine of a DRILL word: 0 ARRAY, 1 MATRIX, 2 VECTOR. -/
def drillEngine (w : Nat) : Nat := bits w 95 94

/-- Whether an engine drill may take a physical crossbar: neither FAILED nor STALE (N12). -/
def Xbar.drillable (b : Xbar) : Bool := b.st != 3 && b.st != 4

/-- Whether a crossbar's converters or factors keep an array drill waiting (N28). -/
def Xbar.drillWaits (b : Xbar) : Bool := b.selfCal || !b.calOk || b.slice != 0

/-- Whether a cell may serve a drill: ON, idle, neither quarantined nor under suspicion (R360, R365, N22). -/
def State.drillFree (s : State) (c : Nat) : Bool :=
  let ph := s.phy (s.reg c)
  ph.rst == 0 && !ph.quar && !ph.suspect && (s.cell c).flight.isEmpty

/-- The cells N22 gives a drill beside those it has, in the order they are taken: first of the tested cell's partition on
its die, then of any partition with DRILL ON.
DEDUCED: log entry 61. -/
def State.drillCells (s : State) (c : Nat) : List Nat :=
  let p := s.owner c
  let around := (List.range 255).map (fun i => c / 256 * 256 + (c % 256 + 1 + i) % 256)
  let free := around.filter s.drillFree
  free.filter (fun k => s.owner k == p) ++ free.filter (fun k => s.owner k != p && s.mode (s.owner k) 5 1 == 1)

/-! ### Judging a round (R355, R362, R364) -/

/-- Square of the tolerance of an array round over n reads, in code units (R355, R362). -/
def State.drillTol2 (s : State) (c x n x2 : Nat) : Rat :=
  let b := s.xbar (s.reg c) x
  let tol := mkRat (s.fld (s.owner c) Ty.arrayWrite (s.owner c) 0 1) 8
  (mkRat (s.fld 0 Ty.drill 0 2 1) 4) ^ 2 * ((sigmaUnits b.sigma) ^ 2 / n + (x2 : Rat) * tol ^ 2 / 3)

/-- Whether two cells of a run agree: bit equality of digital results, the tolerance where the tested cell (number 0) read
its array. -/
def drillAgree (d : DrillRun) (array : Bool) (tol1 tol8 : Rat) (i j : Nat) : Bool :=
  if i = j then true
  else if array && (i = 0 || j = 0) then
    let k := i + j - 1
    decide ((d.dev.getD k 0) ^ 2 ≤ tol1) || decide ((d.dev8.getD k 0) ^ 2 ≤ tol8)
  else d.crcs.getD i 0 == d.crcs.getD j 0

/-- Verdict of a round: cells convicted, cells under suspicion, unresolved. -/
structure Verdict where
  pass : Bool
  noise : Bool
  convicted : List Nat
  suspects : List Nat
  cleared : List Nat
  inconsistent : Bool
  unresolved : Bool
  deriving DecidableEq, Repr

/-- A round that passes. -/
def Verdict.ok : Verdict :=
  { pass := true, noise := false, convicted := [], suspects := [], cleared := [], inconsistent := false, unresolved := false }

/-- The largest class of a five-cell run that holds at least three (R364). -/
def majority (ag : Nat → Nat → Bool) : Option (List Nat) :=
  ([1, 2, 3, 4, 0].map (fun i => (List.range 5).filter (ag i))).find? (fun l => 3 ≤ l.length)

/-- The five-cell runs of R364, first and up to three repeats.
DEDUCED: log entry 61. -/
def decideFive (ags : List (Nat → Nat → Bool)) : Verdict :=
  match ags with
  | [] => { Verdict.ok with pass := false, suspects := [0, 1, 2], unresolved := true }
  | ag :: r =>
    match majority ag with
    | some l => { Verdict.ok with pass := false, convicted := (List.range 5).filter (fun i => !l.contains i), cleared := l }
    | none => decideFive r

/-- DECIDE (R364), over the runs of a round: the first with its third and further cells, then the repeats. -/
def verdict (array : Bool) (tols : DrillRun → Rat × Rat) (runs : List DrillRun) (cells : Nat) : Verdict :=
  match runs with
  | [] => Verdict.ok
  | d :: _ =>
    let ag (d : DrillRun) (i j : Nat) := drillAgree d array (tols d).1 (tols d).2 i j
    if ag d 0 1 then { Verdict.ok with noise := array && !decide ((d.dev.getD 0 0) ^ 2 ≤ (tols d).1) }
    else if cells < 3 then { Verdict.ok with pass := false, suspects := [0, 1], unresolved := true }
    else
      let t := ag d 0 2
      let r := ag d 1 2
      if t && r then { Verdict.ok with pass := false, inconsistent := true }
      else if t then { Verdict.ok with pass := false, convicted := [1] }
      else if r then { Verdict.ok with pass := false, convicted := [0] }
      else if cells < 5 then { Verdict.ok with pass := false, suspects := [0, 1, 2], unresolved := true }
      else decideFive ((runs.take 4).map ag)

/-- Qualifiers of a drill event: its engine, and under ARRAY its crossbar (R375). -/
def drillAttrs (e x : Nat) : List (Nat × Nat) := (3, e) :: if e = 0 then [(1, x)] else []

/-- A conviction is acted on (R365).  The tested cell of an array drill has its crossbar recalibrated, once; any other
cell, and a second conviction, is quarantined.
DEDUCED: log entry 61. -/
def State.convict (s : State) (c x e : Nat) (tested two : Bool) : State :=
  let r := s.reg c
  if e = 0 && tested && !two && !(s.xbar r x).drillMark then
    ((s.modXbar r x (fun b => { b with st := if b.st = 0 then 2 else b.st, drillMark := true })).requestCal 2 r x 0).modPhy r (fun p => { p with prio := true })
  else s.quarantine r 1 (if e = 0 && !tested then 1 else e)

/-- The effects of a verdict on the cells of a drill, the tested one first. -/
def State.sentence (s : State) (cells : List Nat) (x e : Nat) (two : Bool) (v : Verdict) : State :=
  let c := cells.headD 0
  let q := drillAttrs e x
  let s := s.count c Ev.drillRounds 1 q
  let s := if v.noise then s.count c Ev.drillNoise 1 q else s
  let s := if v.inconsistent then s.count c Ev.drillInconsistent 1 q else s
  let mark (s : State) (i : Nat) (b : Bool) : State :=
    match cells[i]? with
    | some k => s.modPhy (s.reg k) (fun p => { p with suspect := b, prio := p.prio || b })
    | none => s
  let s := v.suspects.foldl (fun s i => mark s i true) s
  let s := v.cleared.foldl (fun s i => mark s i false) s
  let s := v.convicted.foldl (fun s i =>
    match cells[i]? with
    | some k => (s.count c Ev.drillConvict 1 q).convict k x e (i == 0) two
    | none => s) s
  if v.unresolved then
    ((s.count c Ev.drillUnresolved 1 q).logE { DayEntry.reset with
      sev := dbSeverity Db.drillUnresolved, src := 1 + dieOf c, code := Db.drillUnresolved, lcell := c, pcell := pidOf (s.reg c)
      part := s.owner c, arg0 := e, args := (cells.drop 1).map (fun k => pidOf (s.reg k)) }).moduleFault 5 (dieOf c)
  else s

/-! ### DRILL (R246, R247, R363, R366) -/

/-- Whether an installed package holds a pattern. -/
def State.patternKnown (s : State) (k : Nat) : Bool := s.groom.pkgs.any (fun g => g.2.2.2.any (fun t => t.1 == k))

/-- What issue learns of a DRILL.
DEDUCED: log entry 61. -/
def State.issDrill (s : State) (w : Nat) : Iss :=
  let e := drillEngine w
  let st := bits w 93 78
  { Iss.none with
    ill := rsvIll w ([(95, 94), (93, 78), (77, 62), (61, 46), (41, 38)] ++ if e = 0 then [(45, 42)] else []) ++ cz (e == 3) 5 ++
      cz (st < 0xC000 || 0xEFFF < st) 6 ++ cz (!s.patternKnown (bits w 61 46)) 6 ++ cz (e == 0 && 8 ≤ bits w 45 42) 6 ++
      cz (bits w 41 38 == 0) 6
    zero := bits w 77 62 == 0 }

/-- Drill status word (R522): outcome, in progress, pattern, rounds done. -/
def drillStat (out : Nat) (busy : Bool) (pat rounds : Nat) : Nat := out + (if busy then 8 else 0) + pat * 16 + rounds * 2 ^ 20

/-- A DRILL ends: its outcome stands and IDONE counts (R366). -/
def State.endDrill (s : State) (c out : Nat) : State :=
  let cl := s.cell c
  let k := cl.drillDone
  (s.modCell c (fun cl => { cl.tagDone (cl.tagWord.toNat == cl.drillWord) s.time with
    drillStatus := drillStat out false (bits cl.drillWord 61 46) (bits cl.drillStatus 35 20), drillDone := 0 })).addFlag c k 1

/-- DRILL: accepted by the integrity unit, one at a time (R207, R247). -/
def execDrill (c : Cid) (s : State) : Out :=
  match s.atOp c .drill with
  | none => .next s
  | some w =>
    .next (s.issueUnit c w (s.issDrill w) ((s.cell c).drillDone == 0) (fun t =>
      let t := t.modCell c (fun cl => { cl with
        drillWord := w, drillDone := bits w 41 38, drillAsk := t.time, drillStatus := drillStat 0 true (bits w 61 46) 0
        drillCount := (cl.drillCount + 1) % 2 ^ 32 })
      -- a crossbar excluded under N12 ends the drill
      if drillEngine w = 0 && !(t.xbar (t.reg c) ((t.cell c).phys (bits w 45 42))).drillable then t.endDrill c 5 else t))

/-- DRILL_REFERENCE_TIMEOUT (R366): no reference cell within 10 ms. -/
def execDrillReferenceTimeout (c : Cid) (s : State) : Out :=
  let cl := s.cell c
  if cl.drillDone != 0 && (s.drillCells c).isEmpty && s.passed cl.drillAsk 10000000 then .next (s.endDrill c 5) else .next s

/-- A round of a DRILL in progress. -/
def State.drillRound (s : State) (c : Nat) (runs : List DrillRun) : State :=
  let cl := s.cell c
  let w := cl.drillWord
  let e := drillEngine w
  let x := cl.phys (bits w 45 42)
  let r := s.reg c
  let b := s.xbar r x
  let refs := s.drillCells c
  if cl.drillDone = 0 then s
  else if (s.phy r).rst != 0 || (s.phy r).quar then s.endDrill c 6
  else if e = 0 && !b.drillable then s.endDrill c 5
  else if refs.isEmpty || (e = 0 && b.drillWaits) || runs.isEmpty then s
  else
    let cells := c :: refs.take 4
    let v := verdict (e == 0) (fun d => (s.drillTol2 c x 1 d.x2, s.drillTol2 c x 8 d.x2)) runs cells.length
    let s := s.sentence cells x e false v
    let old := cl.drillStatus % 8
    let now := if v.convicted.contains 0 then 2 else if !v.convicted.isEmpty then 3 else if v.unresolved then 4 else if v.noise then 1 else 0
    let out := if 2 ≤ old then old else max old now
    let n := bits cl.drillStatus 35 20 + 1
    let s := s.modCell c (fun cl => { cl with drillAsk := s.time, drillStatus := drillStat out true (bits w 61 46) n })
    if bits w 77 62 ≤ n then s.endDrill c out else s

/-! ### Scheduled visits (R361 to R365) -/

/-- Whether the steward may visit a region now: ON, carrying a number of a partition with DRILL ON that neither halts nor
restores (N22, N24), and not arbitrating (R374). -/
def State.visitable (s : State) (r : Nat) : Bool :=
  match s.cellOf r with
  | none => false
  | some c =>
    let p := s.owner c
    (s.phy r).rst == 0 && s.mode p 5 1 == 1 && (s.part p).snap == 0 && (s.cell c).arbs.isEmpty

/-- DRILL_VISIT (R361): priority visits first, then cells a step boundary found unvisited, then ascending physical ID. -/
def execDrillVisit (d : DieN) (s : State) : Out :=
  if (s.die d).drillAt.isSome then .next s
  else
    let all := (List.range 272).map (fun i => d.val * 272 + i)
    let able := all.filter s.visitable
    -- under CONTINUOUS a sweep that has ended begins again
    let again := s.fld 0 Ty.drill 0 3 1 == 1 && !able.isEmpty && able.all (fun r => (s.phy r).visited)
    let s := if again then eachN s able (fun s r => s.modPhy r (fun p => { p with visited := false })) else s
    let pick := ((able.find? (fun r => (s.phy r).prio)).orElse (fun _ => able.find? (fun r => (s.phy r).owed && !(s.phy r).visited))).orElse
      (fun _ => able.find? (fun r => !(s.phy r).visited))
    match pick with
    | none => .next s
    | some r =>
      let c := (s.cellOf r).getD 0
      let s := s.modCell c (fun cl => { cl with drillCount := (cl.drillCount + 1) % 2 ^ 32 })
      if s.fld 0 Ty.drill 0 0 2 = 0 then .next (s.modPhy r (fun p => { p with visited := true, owed := false, prio := false }))
      else .next (s.modDie d (fun k => { k with drillAt := some r, drillRound := 0, drillEng := 0, drillConv := [], drillFail := false }))

/-- A visit ends; one that a cell under suspicion has passed whole clears it (R365). -/
def State.endVisit (s : State) (d r : Nat) : State :=
  let k := s.die d
  let s := s.modDie d (fun k => { k with drillAt := none })
  s.modPhy r (fun p => { p with
    visited := true, owed := false, prio := p.prio && !k.drillConv.isEmpty
    suspect := p.suspect && k.drillFail
    xb := if k.drillFail then p.xb else p.xb.map (fun e => (e.1, { e.2 with drillMark := false })) })

/-- The next crossbar from x on that an array drill of a visit may take. -/
def State.nextDrillXbar (s : State) (c x fuel : Nat) : Nat :=
  match fuel with
  | 0 => 8
  | n + 1 =>
    if 8 ≤ x then 8
    else
      let b := s.xbar (s.reg c) ((s.cell c).phys x)
      if b.drillable && !b.drillWaits then x else s.nextDrillXbar c (x + 1) n

/-- A round of a scheduled visit on a die. -/
def State.visitRound (s : State) (d : Nat) (runs : List DrillRun) : State :=
  let k := s.die d
  match k.drillAt with
  | none => s
  | some r =>
    match s.cellOf r with
    | none => s.endVisit d r
    | some c =>
      let n := s.fld 0 Ty.drill 0 0 2
      let refs := s.drillCells c
      let each := n / 8
      if (s.phy r).rst != 0 || (s.phy r).quar then
        -- ABORTED: visited again later (R374)
        s.modDie d (fun k => { k with drillAt := none })
      else if refs.isEmpty || runs.isEmpty then s
      else
        let x := if k.drillEng = 0 then s.nextDrillXbar c (k.drillRound / max each 1) 9 else 0
        if k.drillEng = 0 && 8 ≤ x then s.modDie d (fun k => { k with drillEng := 1, drillRound := 0 })
        else
          let px := (s.cell c).phys x
          let round := if k.drillEng = 0 && k.drillRound / max each 1 != x then x * each else k.drillRound
          let cells := c :: refs.take 4
          let v := verdict (k.drillEng == 0) (fun t => (s.drillTol2 c px 1 t.x2, s.drillTol2 c px 8 t.x2)) runs cells.length
          let two := k.drillConv.any (fun y => y != px)
          let s := s.sentence cells px k.drillEng two v
          let round := round + 1
          let total := if k.drillEng = 0 then 8 * each else n
          let s := s.modDie d (fun k => { k with
            drillConv := if v.convicted.contains 0 && k.drillEng == 0 then insN px k.drillConv else k.drillConv
            drillFail := k.drillFail || !v.pass
            drillRound := if total ≤ round then 0 else round
            drillEng := if total ≤ round then k.drillEng + 1 else k.drillEng })
          if total ≤ round && k.drillEng = 2 then s.endVisit d r else s

/-- DRILL_ROUND (R362 to R365): a round of a cell's DRILL, or of the die's scheduled visit. -/
def execDrillRound (d : DieN) (c : Option Cid) (runs : List DrillRun) (s : State) : Out :=
  match c with
  | some c => .next (if dieOf c = d.val then s.drillRound c runs else s)
  | none => .next (s.visitRound d runs)

/-- At a step boundary of a partition its cells may be visited again; those not reached come first (R361). -/
def State.drillStep (s : State) (p : Nat) : State :=
  eachN s (s.cellsOf p) (fun s c =>
    let ph := s.phy (s.reg c)
    if ph.rst != 0 then s
    else s.modPhy (s.reg c) (fun p => { p with owed := !p.visited, visited := false }))

/-! ### Replica digests (R369 to R372) -/

/-- Entries of a partition's replica record: logical cell and group. -/
def State.replicas (s : State) (p : Nat) : List (Nat × Nat) :=
  let r := s.rcd p Ty.replica p
  (List.range (r.fld 4 2)).map (fun i => (r.fld (6 + 4 * i) 2, r.fld (8 + 4 * i) 2))

/-- The 16-byte header of a digest item: kind, crossbar or tag, length. -/
def itemHead (kind ref len : Nat) : List Byte := leBytes 4 kind ++ leBytes 4 ref ++ leBytes 8 len

/-- A cell's replica digest (R370).
DEDUCED: log entry 62. -/
def State.replicaDigest (s : State) (p c : Nat) : List Byte :=
  let items := s.fld p Ty.replica p 2 1
  let role (x : Nat) := bits (s.fld p Ty.snapshot p (40 + 2 * c) 2) (2 * x + 1) (2 * x)
  let plane (x pl : Nat) := s.rdMem (s.planeBase c ((s.cell c).set x) pl) 262144
  let trained := if bit items 2 then (List.range 8).flatMap (fun x =>
    if role x = 1 then itemHead 0 x 262144 ++ plane x 0 ++ itemHead 1 x 262144 ++ plane x 1 else []) else []
  let fixed := if bit items 1 then (List.range 8).flatMap (fun x =>
    if 2 ≤ role x then itemHead 0 x 262144 ++ plane x 0 else []) else []
  let low := ((s.replicas p).map (fun e => e.1)).foldl min 1024
  let masters := if bit items 0 && c = low then (List.range 256).flatMap (fun i =>
    let n := s.fld p Ty.snapshot p (2104 + 24 * i) 8
    if n = 0 then [] else
      itemHead 2 (s.fld p Ty.snapshot p (2088 + 24 * i) 2) n ++ s.rdMem (s.fld p Ty.snapshot p (2096 + 24 * i) 6) n) else []
  sha3 (trained ++ fixed ++ masters)

/-- An outcome of a group's exchange at one module: 0 MATCH, 1 DIVERGED, 2 NO_MAJORITY (R372).
DEDUCED: log entry 62. -/
def State.digestOutcome (s : State) (g kind : Nat) (best : List Byte) : State :=
  let mine := (s.groupMembers g).filter (fun m => m.1 == s.fab.nodeId)
  let ev := if kind = 0 then GEv.digestMatch else if kind = 1 then GEv.digestDiverged else GEv.digestNoMajority
  let s := s.gcount ev 1 [(6, g)]
  mine.foldl (fun s m =>
    let p := s.owner m.2
    let own := tget (s.part p).digest m.2 []
    let s' := s.modPart p (fun q => { q with digest := tdel q.digest m.2 })
    if kind = 0 || own.isEmpty || (kind = 1 && own == best) then s'
    else
      ((s'.logC m.2 Db.digestOutcome g [kind]).event p 9 0 g 0).modPhy (s.reg m.2) (fun p => { p with prio := true })) s

/-- A member's digest reaches the root, which floods the outcome once every member's is in (R372). -/
def State.digestIn (s : State) (g : Nat) (m : CollMsg) : State :=
  let ms := s.groupMembers g
  match ms[0]? with
  | none => s
  | some root =>
    let p := s.owner root.2
    let d : List Byte := m.data.map (BitVec.ofNat 8)
    let l := tget (s.part p).digests g []
    let l := if l.any (fun e => e.1 == d) then l.map (fun e => if e.1 = d then (e.1, e.2 + m.count) else e) else l ++ [(d, m.count)]
    let total := (l.map (fun e => e.2)).foldl (· + ·) 0
    if total < ms.length then s.modPart p (fun q => { q with digests := tins q.digests g l })
    else
      let s := s.modPart p (fun q => { q with digests := tdel q.digests g })
      let best := l.foldl (fun b e => if b.2 < e.2 then e else b) ([], 0)
      let kind := if l.length = 1 then 0 else if 4 < l.length || best.2 * 2 ≤ ms.length then 2 else 1
      let nodes := (s.groupNodes g).filter (fun n => n != s.fab.nodeId)
      let s := nodes.foldl (fun s n => s.send 0x42 n ([g, 0, 5, 0, kind, 0] ++ best.1.map BitVec.toNat)) s
      s.digestOutcome g kind best.1

/-- A member's digest starts on its way to the root. -/
def State.digestOut (s : State) (c g : Nat) (d : List Byte) : State :=
  let ms := s.groupMembers g
  match s.rankOf (s.owner c) g c, ms[0]? with
  | some r, some root =>
    let m : CollMsg := { rank := r, op := 5, count := 1, mode := 0, root := 0, data := d.map BitVec.toNat }
    if root.1 = s.fab.nodeId then s.digestIn g m else s.send 0x42 root.1 ([g, r, 5, 1, 0, 0] ++ m.data)
  | _, _ => s

/-- Whether the step barrier that ends the present step is a digest step (R371). -/
def State.digestStep (s : State) (p : Nat) : Bool :=
  let n := s.fld p Ty.replica p 0 2
  s.hasRec p Ty.replica p && n != 0 && ((s.part p).trainStep + 1) % n == 0 && !(s.replicas p).isEmpty

/-- Every listed cell forms its digest and sends it (R370 to R372). -/
def State.takeDigests (s : State) (p : Nat) : State :=
  (s.replicas p).foldl (fun t e =>
    let d := s.replicaDigest p e.1
    (t.modPart p (fun q => { q with digest := tins q.digest e.1 d })).digestOut e.1 e.2 d) s

/-- An exchange under way is abandoned, once for each group concerned (R374, R386). -/
def State.dropDigests (s : State) : State :=
  s.parts.foldl (fun s e =>
    if e.2.digest.isEmpty && e.2.digests.isEmpty then s
    else (s.modPart e.1 (fun q => { q with digest := [], digests := [] })).gcount GEv.digestAbandoned 1) s

/-- A contribution, a member's digest, or the outcome of a digest exchange. -/
def State.takeColl (s : State) (g : Nat) (m : CollMsg) : State :=
  if m.op = 5 then
    if m.count = 0 then s.digestOutcome g m.mode (m.data.map (BitVec.ofNat 8)) else s.digestIn g m
  else s.contribute g m

/-- COLL_DATA (R308, R371, R372). -/
def execCollData (h : Hdr) (g : Nat) (m : CollMsg) (s : State) : Out :=
  s.groupPacket h g 2 m.rank (CollMsg.toNats m) (fun s => s.takeColl g m)

end Sys2Proof.Machine
end

