-- ==== Sys2Proof/Machine/Recovery.lean ====
section
/-! DEFINITION. Machine/Recovery: the items of an image (R332), the placement of lost items (R347), the fetch and the restore
(R348, R349), the restore plan (R464), the rewritten groups (R350), and the messages of recovery (R345, R351, R352). -/

namespace Sys2Proof.Machine

/-! ### Items of an image (R332)

Item numbers are the model's: 1 carry set, 2 master copies, 3 tally, 4 scratchpad; and for partition p, 16 p + 5 keep region,
16 p + 6 stream table, 16 p + 7 precision state, 16 p + 8 tables. -/

/-- Role of a crossbar: 0 FREE, 1 TRAINED, 2 FROZEN, 3 INDEX (R333). -/
def State.roleAt (s : State) (p n c x : Nat) : Nat :=
  if n = s.fab.nodeId then
    if s.owner c = p then bits (s.fld p Ty.snapshot p (40 + 2 * c) 2) (2 * x + 1) (2 * x) else 0
  else Config.memberRole n c x % 4

/-- A role of this module's own map set. -/
def State.setRole (s : State) (p c x role : Nat) : State :=
  s.setFld p Ty.snapshot p (40 + 2 * c) 2 (setBits (s.fld p Ty.snapshot p (40 + 2 * c) 2) (2 * x + 1) (2 * x) role)

/-- Offset of a plane in the carry set. -/
def carryOff (c x pl : Nat) : Nat := ((c * 8 + x) * 3 + pl) * 262144

/-- Tally ranges: logical cell, first entry, count. -/
def State.tallies (s : State) (p : Nat) : List (Nat × Nat × Nat) :=
  ((List.range 64).map (fun k => (s.fld p Ty.snapshot p (8232 + 8 * k) 2, s.fld p Ty.snapshot p (8234 + 8 * k) 2,
    s.fld p Ty.snapshot p (8236 + 8 * k) 4))).filter (fun r => r.2.2 != 0)

/-- Scratchpad ranges: logical cell, offset, length. -/
def State.scratches (s : State) (p : Nat) : List (Nat × Nat × Nat) :=
  ((List.range 64).map (fun k => (s.fld p Ty.snapshot p (8744 + 12 * k) 2, s.fld p Ty.snapshot p (8748 + 12 * k) 4,
    s.fld p Ty.snapshot p (8752 + 12 * k) 4))).filter (fun r => r.2.2 != 0)

/-- KEEP_BASE and KEEP_LEN. -/
def State.keep (s : State) (p : Nat) : Nat × Nat := (s.fld p Ty.snapshot p 24 8, s.fld p Ty.snapshot p 32 8)

/-- DATA_POS of the keep region as it stands in memory (R334, R532). -/
def State.keepPos (s : State) (p : Nat) : Nat := s.rdMemN ((s.keep p).1 + 4) 4

/-- The stream table: the dice record's body, which holds the job seed, IDs and STEP values. -/
def State.streamBytes (s : State) (p : Nat) : List Byte := tgets (s.rcd p Ty.dice p).bytes 0 (s.rcd p Ty.dice p).len 0

/-- Precision state: layer, level, pool offset and length of each layer. -/
def State.levelBytes (s : State) (p : Nat) : List Byte :=
  (s.layersOf p).flatMap (fun l =>
    leBytes 2 l ++ leBytes 2 (s.fld p Ty.layerPrecision l 0 1) ++ leBytes 6 (s.layer p l).poolOff ++ leBytes 6 (s.layer p l).poolLen)

/-- Tables: epoch, members, routes and the group records joined. -/
def State.tableBytes (s : State) (p : Nat) : List Byte :=
  let gs := s.recs.filter (fun e => keyType e.1 == Ty.group && e.1 / 2 ^ 32 == p)
  leBytes 4 s.fab.epoch ++ leBytes 4 s.fab.members.length ++ s.fab.members.flatMap (leBytes 2) ++
    leBytes 4 s.fab.routes.length ++ s.fab.routes.flatMap (fun e => leBytes 2 e.1 ++ leBytes 1 e.2.2 ++
      (List.range 4).flatMap (fun k => leBytes 1 (e.2.1.getD k 0xFF))) ++
    leBytes 4 gs.length ++ gs.flatMap (fun e => leBytes 2 (e.1 % 65536) ++ leBytes 4 e.2.len ++ tgets e.2.bytes 0 e.2.len 0)

/-! ### Serving an image -/

/-- Key of a byte of an image. -/
def itemKey (item off : Nat) : Nat := item * 2 ^ 48 + off

/-- Bytes an image holds of an item, up to the last one written. -/
def Image.itemLen (i : Image) (item : Nat) : Nat :=
  ((i.data.filter (fun e => e.1 / 2 ^ 48 == item)).map (fun e => e.1 % 2 ^ 48 + 1)).foldl max 0

/-- len bytes of an item from off on; no more than the item holds where more are asked for. -/
def Image.read (i : Image) (item off len : Nat) : List Byte :=
  tgets i.data (itemKey item off) (if len < 2 ^ 40 then len else i.itemLen item - off) 0

/-- Steps of the committed images held for an owner. -/
def State.stepsHeld (s : State) (owner : Nat) : List Nat := (tget s.fab.owners owner Owner.reset).images.map (fun i => i.step)

/-- FETCH_REQ (R345, R348): a length of 0 asks for the steps held; else the bytes of an item are sent. -/
def execFetchReq (h : Hdr) (owner step item off len : Nat) (s : State) : Out :=
  s.receive h (fun s =>
    if len = 0 then s.send 0x5C h.src ([owner, 0] ++ s.stepsHeld owner)
    else match (tget s.fab.owners owner Owner.reset).images.find? (fun i => i.step == step) with
      | none => s
      | some i => s.send 0x5C h.src ([owner, 1, step, item, off] ++ (i.read item off len).map BitVec.toNat))

/-! ### Placement (R347) -/

/-- FREE crossbars of a survivor in the order its rounds fill them; dark cells take nothing. -/
def State.freeOrder (s : State) (p n : Nat) (dark : List (Nat × Nat)) : List (Nat × Nat) :=
  let per := ((List.range 1024).filter (fun c => !dark.contains (n, c) && !(n == s.fab.nodeId && (s.cell c).mapDark))).map (fun c =>
    (c, (List.range 8).filter (fun x => s.roleAt p n c x == 0 && (if n = s.fab.nodeId then s.owner c == p else Config.memberOwns n c))))
  (List.range 8).flatMap (fun k => per.filterMap (fun e => (e.2[k]?).map (fun x => (e.1, x))))

/-- The k-th item goes to survivor k mod S, or to the next in order with a FREE crossbar; none when no survivor has one.
DEDUCED: log entry 66. -/
def placeItems (free : List (Nat × List (Nat × Nat))) (items : List (Nat × Nat × Nat × Nat)) (k : Nat) : Option (List Placed) :=
  match items with
  | [] => some []
  | (n, c, x, role) :: rest =>
    let cnt := free.length
    match (List.range cnt).find? (fun j => !(free.getD ((k + j) % cnt) (0, [])).2.isEmpty) with
    | none => none
    | some j =>
      let i := (k + j) % cnt
      match free.getD i (0, []) with
      | (_, []) => none
      | (m, (d, y) :: more) =>
        (placeItems (free.set i (m, more)) rest (k + 1)).map (fun l =>
          { lnode := n, lcell := c, lxbar := x, role := role, node := m, cell := d, xbar := y } :: l)

/-- The lost cells: those of the lost nodes' member partitions and the dark cells, by node and cell. -/
def lostOf (lost : List Nat) (dark : List (Nat × Nat)) : List (Nat × Nat) :=
  let nodes := (lost ++ dark.map (fun d => d.1)).foldl (fun l n => insN n l) []
  nodes.flatMap (fun n => ((List.range 1024).filter (fun c => (lost.contains n && Config.memberOwns n c) || dark.contains (n, c))).map (fun c => (n, c)))

/-- The placement every survivor computes, and where the digital state of each lost cell goes.
DESIGN CHOICE: log entry 65. -/
def State.placement (s : State) (p : Nat) (lost : List Nat) (dark : List (Nat × Nat)) :
    Option (List Placed × List (Nat × Nat × Nat)) :=
  let cells := lostOf lost dark
  let items := cells.flatMap (fun e => (List.range 8).filterMap (fun x =>
    let r := s.roleAt p e.1 e.2 x
    if r = 0 then none else some (e.1, e.2, x, r)))
  let surv := (s.survivors p).foldl (fun l n => insN n l) []
  let free := surv.map (fun n => (n, s.freeOrder p n dark))
  (placeItems free items 0).map (fun l =>
    (l, (List.zip (List.range cells.length) cells).map (fun e =>
      match l.find? (fun q => q.lnode == e.2.1 && q.lcell == e.2.2) with
      | some q => (e.2.1, e.2.2, q.node)
      | none => (e.2.1, e.2.2, surv.getD (e.1 % max surv.length 1) 0))))

/-! ### The restore begins (R346, R348) -/

/-- A partition enters RESTORING (R346): its cells stop, a snapshot under way is abandoned, the placement is computed, and
every member is asked which images it holds.  lost are the nodes lost, dark the cells that have gone dark without a spare.  A
recovery that restarts counts what it had placed as FREE again (R353). -/
def State.enterRestoring (s : State) (p : Nat) (lost : List Nat) (dark : List (Nat × Nat)) : State :=
  let old := (s.part p).placed.filter (fun q => q.node == s.fab.nodeId)
  let s := old.foldl (fun s q => s.setRole p q.cell q.xbar 0) s
  let s := eachN s (s.cellsOf p) (fun s c => (s.modCell c (fun cl => { cl with
    halt := false, wq := cl.wq.filter (fun j => !(j.restore && !j.running)) })).stopCell c)
  let s := s.modPart p (fun q => { q with
    snap := 2, quiesce := false, sending := false, stored := [], plan := none, restore := 1, restoreHave := [], restoreFrom := []
    fetchWant := [], fetched := [], readyFrom := [], segs := [], areaNext := 0, proposed := [], planWait := false, placed := [], lostCells := [] })
  if (s.part p).lastSecured = 0xFFFFFFFF then s.failRestore p 0
  else match s.placement p lost dark with
    | none => s.failRestore p 1
    | some (l, cs) =>
      let s := s.modPart p (fun q => { q with placed := l, lostCells := cs })
      let s := (l.filter (fun q => q.node == s.fab.nodeId)).foldl (fun s q => s.setRole p q.cell q.xbar q.role) s
      (s.domain p).foldl (fun s n => s.send 0x5B 0xFFFF [n, 0xFFFFFFFF, 0, 0, 0]) s

/-- R272's last good point (R272, R274): the partition goes to its last secured step. -/
def State.restoreReq (s : State) (p daddr : Nat) : State :=
  let s := ((s.pcount p PEv.stepRestoreReq 1).event p 4 0 daddr 0)
  s.enterRestoring p [] []

/-! ### The fetch (R348) -/

/-- What this survivor needs of its own image: owner, item, offset, length. -/
def State.ownWants (s : State) (p step : Nat) : List (Nat × Nat × Nat × Nat) :=
  let q := s.part p
  let n := s.fab.nodeId
  let all := (s.cellsOf p).flatMap (fun c => (List.range 8).map (fun x => c * 8 + x))
  let chg := (if step = q.lastSecured then all.filter (fun k => q.dirty.contains k || q.dirtySent.contains k) else all).filter
    (fun k => s.roleAt p n (k / 8) (k % 8) == 1 && !q.placed.any (fun i => i.node == n && i.cell == k / 8 && i.xbar == k % 8))
  chg.flatMap (fun k => (List.range 3).map (fun pl => (n, 1, carryOff (k / 8) (k % 8) pl, 262144))) ++
    (s.masters p).map (fun r => (n, 2, r.1, r.2)) ++
    (s.tallies p).map (fun r => (n, 3, r.1 * 262144 + r.2.1 * 4, r.2.2 * 4)) ++
    (s.scratches p).map (fun r => (n, 4, r.1 * 2097152 + r.2.1, r.2.2)) ++
    (if (s.keep p).2 = 0 then [] else [(n, 16 * p + 5, 0, (s.keep p).2)]) ++
    [(n, 16 * p + 6, 0, 2 ^ 40), (n, 16 * p + 7, 0, 2 ^ 40)]

/-- What this survivor needs of the images of the lost: planes placed on it, tally and scratchpad of the cells it takes over,
and the keep regions. -/
def State.lostWants (s : State) (p : Nat) : List (Nat × Nat × Nat × Nat) :=
  let q := s.part p
  let me := s.fab.nodeId
  let mine := q.lostCells.filter (fun e => e.2.2 == me)
  (q.placed.filter (fun i => i.node == me && i.role == 1)).flatMap (fun i =>
      (List.range 3).map (fun pl => (i.lnode, 1, carryOff i.lcell i.lxbar pl, 262144))) ++
    mine.flatMap (fun e => [(e.1, 3, e.2.1 * 262144, 262144), (e.1, 4, e.2.1 * 2097152, 2097152)]) ++
    (firsts (q.lostCells.map (fun e => e.1))).map (fun n => (n, 16 * (if n = me then p else Config.memberPart n) + 5, 0, 2 ^ 40))

/-- Steps that every holder of every image of the domain has committed, below a bound. -/
def State.commonSteps (s : State) (p bound : Nat) : List Nat :=
  let holders := (s.part p).restoreHave.filter (fun e => !e.2.2.isEmpty)
  match holders with
  | [] => []
  | e :: _ => e.2.2.filter (fun k => decide (k < bound) && holders.all (fun x => x.2.2.contains k))

/-- The pieces of a restore step are asked for; this module serves itself where it is the remount. -/
def State.askPieces (s : State) (p step : Nat) : State :=
  let ws := s.ownWants p step ++ s.lostWants p
  let src (o : Nat) : Nat := (((s.part p).restoreHave.find? (fun e => e.1 == o && e.2.2.contains step)).map (fun e => e.2.1)).getD 0xFFFF
  let s := s.modPart p (fun q => { q with
    restore := 2, restoreStep := step, fetched := [], fetchWant := ws, restoreFrom := (firsts (ws.map (fun w => w.1))).map (fun o => (o, src o)) })
  ws.foldl (fun s w =>
    if src w.1 = s.fab.nodeId then
      match (tget s.fab.owners w.1 Owner.reset).images.find? (fun i => i.step == step) with
      | some i => s.modPart p (fun q => { q with
          fetchWant := q.fetchWant.filter (fun v => v != w), fetched := q.fetched ++ [(w.1, w.2.1, w.2.2.1, i.read w.2.1 w.2.2.1 w.2.2.2)] })
      | none => s
    else s.send 0x5B (src w.1) [w.1, step, w.2.1, w.2.2.1, w.2.2.2]) s

/-! ### The restore (R348 steps 2 to 4, R349) -/

/-- A piece received. -/
def Part.piece (q : Part) (owner item off : Nat) : List Byte :=
  ((q.fetched.find? (fun f => f.1 == owner && f.2.1 == item && f.2.2.1 == off)).map (fun f => f.2.2.2)).getD []

/-- The data position (R349): DATA_POS of the restored keep region; without one, that of an emergency record of a lost member
that names the restore step; else the step after it.
DEDUCED: log entry 66. -/
def State.restoredPos (s : State) (p : Nat) : Nat :=
  let q := s.part p
  let k := q.piece s.fab.nodeId (16 * p + 5) 0
  if 64 ≤ k.length then leNat ((k.drop 4).take 4)
  else
    let recs := (firsts (q.lostCells.map (fun e => e.1))).flatMap (fun n => (tget s.fab.owners n Owner.reset).emerg.map (fun e => e.2))
    match recs.find? (fun b => leNat ((b.drop 5).take 4) == q.restoreStep + 1) with
    | some b => leNat ((b.drop 9).take 4)
    | none => q.restoreStep + 1

/-- The restored stream table under the data position: body, realignments (ID, restored, after), and whether it stands
(R349). -/
def alignStreams (b : List Byte) (pos : Nat) : List Byte × List (Nat × Nat × Nat) × Bool :=
  (List.range (leNat ((b.drop 8).take 1))).foldl (fun r k =>
    let o := 12 + 8 * k
    let id := leNat ((r.1.drop o).take 2)
    let off := sgn 16 (leNat ((r.1.drop (o + 2)).take 2))
    let st := leNat ((r.1.drop (o + 4)).take 4)
    let want := unsgn 32 ((pos : Int) + off)
    if 0x8000 ≤ id || st = want then r
    else if st = (want + 1) % 2 ^ 32 then
      (r.1.take (o + 4) ++ leBytes 4 want ++ r.1.drop (o + 8), r.2.1 ++ [(id, st, want)], r.2.2)
    else (r.1, r.2.1, false)) (b, [], true)

/-- Pieces of one owner and item. -/
def Part.pieces (q : Part) (owner item : Nat) : List (Nat × List Byte) :=
  (q.fetched.filter (fun f => f.1 == owner && f.2.1 == item)).map (fun f => (f.2.2.1, f.2.2.2))

/-- The partition's own state written back in place: planes, masters, tally, scratchpad, keep region, levels (R348). -/
def State.writeBack (s : State) (p : Nat) : State :=
  let q := s.part p
  let me := s.fab.nodeId
  let plane (s : State) (c x pl : Nat) (d : List Byte) : State := s.wrMem (s.planeBase c ((s.cell c).set x) pl) d
  let s := (q.pieces me 1).foldl (fun s e =>
    let k := e.1 / 262144
    plane s (k / 24) (k / 3 % 8) (k % 3) e.2) s
  let s := (q.placed.filter (fun i => i.node == me && i.role == 1)).foldl (fun s i =>
    (List.range 3).foldl (fun s pl => plane s i.cell i.xbar pl (q.piece i.lnode 1 (carryOff i.lcell i.lxbar pl))) s) s
  let s := (q.pieces me 2).foldl (fun s e => s.wrMem e.1 e.2) s
  let s := (q.pieces me 3).foldl (fun s e => s.modCell (e.1 / 262144) (fun cl => cl.wrLoc (0x200000 + e.1 % 262144) e.2)) s
  let s := (q.pieces me 4).foldl (fun s e => s.modCell (e.1 / 2097152) (fun cl => cl.wrLoc (e.1 % 2097152) e.2)) s
  let s := (q.pieces me (16 * p + 5)).foldl (fun s e => s.wrMem ((s.keep p).1 + e.1) e.2) s
  let lv := q.piece me (16 * p + 7) 0
  (List.range (lv.length / 16)).foldl (fun s k =>
    let f (o n : Nat) := leNat ((lv.drop (16 * k + o)).take n)
    (s.setFld p Ty.layerPrecision (f 0 2) 0 1 (f 2 2)).modLayer p (f 0 2) (fun y => { y with poolOff := f 4 6, poolLen := f 10 6 })) s

/-- Data of the lost delivered into the restore area, as a segment of the plan. -/
def State.deliver' (s : State) (p kind owner : Nat) (d : List Byte) : State :=
  if d.isEmpty then s
  else
    let a := Config.restoreArea p + (s.part p).areaNext
    (s.wrMem a d).modPart p (fun q => { q with segs := q.segs ++ [(kind, owner, a, d.length)], areaNext := q.areaNext + cdiv d.length 64 * 64 })

/-- The segments of a keep region: kind, owner, offset, length (R532). -/
def keepSegs (k : List Byte) : List (Nat × Nat × Nat × Nat) :=
  let f (o n : Nat) := leNat ((k.drop o).take n)
  (List.range (f 8 4)).map (fun i => (f (64 + 32 * i) 1, f (68 + 32 * i) 4, f (72 + 32 * i) 8, f (80 + 32 * i) 8))

/-- The digital state of the lost cells that come to this survivor, and their keep segments; segments with owner NONE go to
the first survivor, and so do those of a tag (R347).
DESIGN CHOICE: log entry 65. -/
def State.landLost (s : State) (p : Nat) : State :=
  let q := s.part p
  let me := s.fab.nodeId
  let first := ((s.survivors p).foldl (fun l n => insN n l) []).headD 0
  -- room for the load headers of the placed FROZEN and INDEX items comes first
  let s := s.modPart p (fun q => { q with areaNext := 64 * q.placed.length })
  let s := (q.lostCells.filter (fun e => e.2.2 == me)).foldl (fun s e =>
    (s.deliver' p 2 e.2.1 (q.piece e.1 3 (e.2.1 * 262144))).deliver' p 2 e.2.1 (q.piece e.1 4 (e.2.1 * 2097152))) s
  (firsts (q.lostCells.map (fun e => e.1))).foldl (fun s n =>
    let k := q.piece n (16 * (if n = me then p else Config.memberPart n) + 5) 0
    (keepSegs k).foldl (fun s g =>
      let cell := g.2.1 % 1024
      let dst := if g.1 = 1 || g.1 = 2 then ((q.lostCells.find? (fun e => e.1 == n && e.2.1 == cell)).map (fun e => e.2.2)).getD first else first
      if dst = me then s.deliver' p g.1 g.2.1 ((k.drop g.2.2.1).take g.2.2.2) else s) s) s

/-- The order of R334 in the codes of R464: 0 NONE, 1 cell and crossbar, 2 cell, 3 tag. -/
def segKind (k : Nat) : Nat := if k = 0 then 1 else if k = 1 then 2 else if k = 2 then 3 else 0

/-- The restore plan (R464).
DEDUCED: log entry 66. -/
def State.planBytes (s : State) (p : Nat) : List Byte :=
  let q := s.part p
  let me := s.fab.nodeId
  leBytes 4 1 ++ leBytes 4 s.fab.epoch ++ leBytes 4 q.dataPos ++ leBytes 4 q.placed.length ++ leBytes 4 q.segs.length ++ leBytes 12 0 ++
    (List.zip (List.range q.placed.length) q.placed).flatMap (fun e =>
      let i := e.2
      let here := i.node == me && i.role != 1
      leBytes 2 i.lnode ++ leBytes 2 i.lcell ++ leBytes 1 i.lxbar ++ leBytes 1 i.role ++ leBytes 2 i.node ++ leBytes 2 i.cell ++
        leBytes 1 i.xbar ++ leBytes 1 0 ++ leBytes 6 (if here then s.planeBase i.cell ((s.cell i.cell).set i.xbar) 0 else 0) ++
        leBytes 6 (if here then Config.restoreArea p + 64 * e.1 else 0)) ++
    q.segs.flatMap (fun g => leBytes 1 g.1 ++ leBytes 1 0 ++ leBytes 4 g.2.1 ++ leBytes 6 g.2.2.1 ++ leBytes 8 g.2.2.2 ++ leBytes 4 0)

/-- Step 4 of R348: the plan goes to the host's buffer, or the event says SHORT and recovery waits for another (R464). -/
def State.givePlan (s : State) (p : Nat) : State :=
  let b := s.planBytes p
  let buf := (s.part p).planBuf
  if buf.2 < b.length then (s.modPart p (fun q => { q with planWait := true })).event p 7 1 b.length 0
  else
    let s := (s.wrHost buf.1 b).modPart p (fun q => { q with planWait := false, restore := 3 })
    (s.event p 7 0 b.length 0).tryReady p

/-- A crossbar's restore write is queued (R348). -/
def State.restoreWrite (s : State) (c x : Nat) (zero : Bool) (hdr : List Byte) : State :=
  s.modCell c (fun cl => { cl with wq := cl.wq ++ [{ WriteJob.reset with
    lx := x, phys := cl.phys x, load := true, zeroCarry := zero, restore := true, rowsArg := 512, hdr := hdr, slotWaitFrom := s.time }] })

/-- A group record with the members on lost nodes and dark cells replaced, in rank order (R350). -/
def State.rewritten (s : State) (p g : Nat) : RecImg :=
  let q := s.part p
  (List.zip (List.range (s.members p g).length) (s.members p g)).foldl (fun r e =>
    match q.lostCells.find? (fun l => l.1 == e.2.1 && l.2.1 == e.2.2) with
    | none => r
    | some l =>
      let c := match q.placed.find? (fun i => i.lnode == l.1 && i.lcell == l.2.1) with
        | some i => i.cell
        | none => Config.takeCell l.1 l.2.1
      { r with bytes := tputs (tputs r.bytes (8 + 4 * e.1) (leBytes 2 l.2.2) 0) (10 + 4 * e.1) (leBytes 2 c) 0 }) (s.rcd p Ty.group g)

/-- Every piece has come: the state is restored, the restore writes start, and the host receives the plan (R348 to R350).
DEDUCED: log entry 66. -/
def State.restoreNow (s : State) (p : Nat) : State :=
  let q := s.part p
  let me := s.fab.nodeId
  let pos := s.restoredPos p
  let (sb, moved, ok) := alignStreams (q.piece me (16 * p + 6) 0) pos
  if !ok then s.tellReady p false 2
  else
    let own := firsts ((q.pieces me 1).map (fun e => e.1 / 262144 / 3))
    let s := (s.writeBack p).landLost p
    let r := s.rcd p Ty.dice p
    let s := { s with recs := tins s.recs (recKey p Ty.dice p) { r with bytes := tputs r.bytes 0 sb 0 } }
    let s := moved.foldl (fun s m => (s.logP 0 p Db.streamRealign m.1 [m.2.1, m.2.2]).pcount p PEv.streamRealign 1) s
    let s := s.modPart p (fun q => { q with trainStep := pos, dataPos := pos, stepSkip := false, outbox := [], tags := [], gateDone := false
                                            released := false, skipSent := false, applied := false, dirty := [], dirtySent := [] })
    -- every relay image is discarded, and the relay writes that wait with it (N26)
    let s := eachN s (s.cellsOf p) (fun s c =>
      let bad := (s.cell c).wq.filter (fun j => !j.restore && !j.spare && !j.repair)
      let s := s.modCell c (fun cl => { cl with wq := cl.wq.filter (fun j => j.restore || j.spare || j.repair), npos := [] })
      (bad.foldl (fun s j => s.endWrite c j 2) s).dropRelay c)
    let s := own.foldl (fun s k => s.restoreWrite (k / 8) (k % 8) false []) s
    let s := (q.placed.filter (fun i => i.node == me && i.role == 1)).foldl (fun s i =>
      s.restoreWrite i.cell i.xbar false (Config.lostHeader i.lnode i.lcell i.lxbar)) s
    let gs := (s.recs.filter (fun e => keyType e.1 == Ty.group && e.1 / 2 ^ 32 == p)).map (fun e => e.1 % 65536)
    let hit := gs.filter (fun g => (s.members p g).any (fun m => q.lostCells.any (fun l => l.1 == m.1 && l.2.1 == m.2)))
    (s.modPart p (fun q => { q with proposed := hit.map (fun g => (g, s.rewritten p g)) })).givePlan p

/-- Step 5 of R348 for one cell: its placed FROZEN and INDEX crossbars are loaded, once the host has written their codes and
headers and loads the recompiled image. -/
def State.loadPlaced (s : State) (p c : Nat) : State :=
  let q := s.part p
  if q.snap = 2 && q.restore = 3 then
    (List.zip (List.range q.placed.length) q.placed).foldl (fun s e =>
      let i := e.2
      if i.node = s.fab.nodeId && i.cell = c && 2 ≤ i.role then
        s.restoreWrite c i.xbar true (s.rdMem (Config.restoreArea p + 64 * e.1) 64)
      else s) s
  else s

/-- FETCH_DATA (R345, R348, R352): the steps a module holds, a piece, or a memory error at the remount. -/
def execFetchData (h : Hdr) (p : Pn) (m : FetchMsg) (s : State) : Out := s.receive h (fun s =>
  let q := s.part p
  if q.snap != 2 then s
  else if m.kind = 0 then
    if q.restore != 1 then s
    else
      let s := s.modPart p (fun q => { q with restoreHave := q.restoreHave.filter (fun e => e.1 != m.owner || e.2.1 != h.src) ++ [(m.owner, h.src, m.steps)] })
      -- what this module itself holds counts as an answer
      let s := s.modPart p (fun q => { q with restoreHave := (s.domain p).foldl (fun l o =>
        if l.any (fun e => e.1 == o && e.2.1 == s.fab.nodeId) then l else l ++ [(o, s.fab.nodeId, s.stepsHeld o)]) q.restoreHave })
      let have_ := (s.part p).restoreHave
      let asked := s.fab.members.filter (fun n => n != s.fab.nodeId)
      if (s.domain p).all (fun o => asked.all (fun n => have_.any (fun e => e.1 == o && e.2.1 == n))) then
        if (s.domain p).any (fun o => have_.all (fun e => e.1 != o || e.2.2.isEmpty)) then (s.failRestore p 0)
        else match (s.commonSteps p (2 ^ 32)).max? with
          | none => (s.failRestore p 0)
          | some k =>
            let s := s.askPieces p k
            (if (s.part p).fetchWant.isEmpty then s.restoreNow p else s)
      else s
  else if q.restore != 2 || m.step != q.restoreStep then s
  else if m.kind = 1 then
    if q.fetchWant.any (fun w => w.1 == m.owner && w.2.1 == m.item && w.2.2.1 == m.off) then
      let s := s.modPart p (fun q => { q with
        fetchWant := q.fetchWant.filter (fun w => !(w.1 == m.owner && w.2.1 == m.item && w.2.2.1 == m.off))
        fetched := q.fetched ++ [(m.owner, m.item, m.off, m.data)] })
      (if (s.part p).fetchWant.isEmpty then s.restoreNow p else s)
    else s
  else match (s.commonSteps p q.restoreStep).max? with
    | some k => (s.askPieces p k)
    | none => (s.tellReady p false 3))

/-- RESTORE_READY (R351, R352): the leader hears of a member; a member hears of the failure. -/
def execRestoreReady (h : Hdr) (p : Pn) (step : Nat) (ok : Bool) (s : State) : Out :=
  s.receive h (fun s =>
    if s.leaderOf p = s.fab.nodeId then (if ok && step != (s.part p).restoreStep then s else s.memberReady p h.src ok 2)
    else if ok then s
    else s.failRestore p 2)

/-- RESUME (R351): the leader lets the domain run; the hosts START their cells at the time it names. -/
def execResumeMsg (h : Hdr) (p : Pn) (step _t : Nat) (s : State) : Out :=
  s.receive h (fun s => if (s.part p).snap = 2 then s.resumeDomain p step else s)

end Sys2Proof.Machine
end

