-- ==== Sys2Proof/Machine/Plan.lean ====
section
/-! DEFINITION. Machine/Plan: the size of a snapshot and the bound of its halt (R332, R340), the interval (R341), the leader's
plan (R339, R343) and the choice of a remount (R335 to R337). -/

namespace Sys2Proof.Machine

/-! ### Sizes and the halt bound -/

/-- TRAINED crossbars of a partition: cell × 8 + crossbar. -/
def State.trained (s : State) (p : Nat) : List Nat :=
  (s.cellsOf p).flatMap (fun c => ((List.range 8).filter (fun x => s.roleAt p s.fab.nodeId c x == 1)).map (fun x => c * 8 + x))

/-- Bytes of a partition's snapshot with every TRAINED crossbar (R332). -/
def State.snapSize (s : State) (p : Nat) : Nat :=
  (s.trained p).length * 786432 + ((s.masters p).map (fun r => r.2)).sum + ((s.tallies p).map (fun r => 4 * r.2.2)).sum +
    ((s.scratches p).map (fun r => r.2.2)).sum + (s.keep p).2 + (s.streamBytes p).length + (s.levelBytes p).length + (s.tableBytes p).length

/-- H of R340 in nanoseconds: 1.2 ms and R × S over SNAP_PORTS × 98.5 GB/s. -/
def State.haltBound (s : State) (p size : Nat) : Rat :=
  1200000 + mkRat (10 * s.fab.remounts.length * size) (985 * max (s.fld p Ty.snapshot p 1 1) 1)

/-- The interval N (R341). -/
def State.snapInterval (s : State) (p : Nat) : Nat :=
  let q := s.part p
  let win := s.fld p Ty.snapshot p 16 4
  let n := (q.lossTimes.filter (fun t => decide (s.time ≤ t + win * 1000000000))).length
  let m : Rat := ((win + s.fld p Ty.snapshot p 20 4 : Nat) : Rat) * 1000000000 / ((n + 1 : Nat) : Rat)
  let h : Rat := if q.halts.isEmpty then s.haltBound p (s.snapSize p) else ((q.halts.sum : Nat) : Rat) / (q.halts.length : Rat)
  let t : Rat := ((q.stepTimes.sum : Nat) : Rat) / ((max q.stepTimes.length 1 : Nat) : Rat)
  let lo := s.fld p Ty.snapshot p 6 2
  let hi := s.fld p Ty.snapshot p 4 2
  if t = 0 then hi else min (max (sqrtRound (2 * h * m / (t * t))) lo) hi

/-- The leader plans a step and floods SNAP_PLAN (R339). -/
def State.planStep (s : State) (p step : Nat) : State :=
  let s := s.modPart p (fun q => { q with plan := some step, planTime := s.time, doneFrom := [], await_ := none, planAt := s.time })
  (s.others p).foldl (fun s n => s.send 0x50 n [p, step, (s.part p).interval]) s

/-- The next planned step: the last secured step plus N, at least one step ahead (R339, R341). -/
def State.nextPlan (s : State) (p : Nat) : Nat :=
  let q := s.part p
  max (if q.lastSecured = 0xFFFFFFFF then q.trainStep + q.interval else q.lastSecured + q.interval) (q.trainStep + 1)

/-- At a step boundary the leader of a domain without a plan makes one (R339, R341). -/
def State.planNext (s : State) (p : Nat) : State :=
  let q := s.part p
  if s.snaps p && s.leaderOf p == s.fab.nodeId && q.plan.isNone && q.await_.isNone && q.snap = 0 && !s.fab.minority then
    let s := s.modPart p (fun q => { q with interval := s.snapInterval p })
    s.planStep p (s.nextPlan p)
  else s

/-- A request reaches the leader (R343): a snapshot at the boundary that ends the step after the one running, unless one is
planned within the next two steps or the last secured step is the one that ended most recently. -/
def State.snapRequest (s : State) (p : Nat) : State :=
  let q := s.part p
  let soon := match q.plan with | some k => decide (k ≤ q.trainStep + 1) | none => false
  if !s.snaps p || q.snap = 2 || s.fab.minority || soon || q.await_.isSome || (q.lastSecured + 1 = q.trainStep && q.lastSecured != 0xFFFFFFFF) then s
  else (s.planStep p (q.trainStep + 1)).modPart p (fun q => { q with reqAt := some s.time })

/-- A member asks its leader for a snapshot: cause 0 TOUCH, 1 HOST (R343, R345). -/
def State.askSnap (s : State) (p cause : Nat) : State :=
  if !s.snaps p then s
  else if s.leaderOf p = s.fab.nodeId then s.snapRequest p
  else (s.send 0x51 (s.leaderOf p) [p, cause]).modPart p (fun q => { q with reqAt := some s.time })

/-! ### Remounts (R335 to R337) -/

/-- FEED_ID of a node: that of its direct link, else as the module otherwise knows it.
DESIGN CHOICE: log entry 65. -/
def State.feedOf (s : State) (n : Nat) : Nat :=
  match (s.directPorts n).head? with
  | some k => (s.port k).pFeed
  | none => Config.nodeFeed n

/-- Hops to a node; 255 where no route leads there. -/
def State.hops (s : State) (n : Nat) : Nat := (tget s.fab.routes n ([], 255)).2

/-- Rank of a candidate in the order of R335: one that denied the space comes last, then direct ports, hops, owners served,
node ID. -/
def State.remountRank (s : State) (n : Nat) : List Nat :=
  [b2n (s.fab.asked.contains n), 24 - (s.directPorts n).length, s.hops n, Config.nodeOwners n, n]

/-- Lexicographic order. -/
def lexLt (a b : List Nat) : Bool :=
  match a, b with
  | x :: r, y :: t => decide (x < y) || (x == y && lexLt r t)
  | _, _ => false

/-- Candidates for a remount in the order of R335. -/
def State.remountOrder (s : State) : List Nat :=
  let all := s.fab.members.filter (fun n => n != s.fab.nodeId && s.reachable n)
  let other := all.filter (fun n => s.feedOf n != s.groom.feed)
  let cand := if other.isEmpty then all else other
  cand.foldl (fun l n =>
    let r := s.remountRank n
    l.takeWhile (fun m => lexLt (s.remountRank m) r) ++ n :: l.dropWhile (fun m => lexLt (s.remountRank m) r)) []

/-- Whether every reachable candidate shares the module's feed (R335). -/
def State.coFeed (s : State) : Bool :=
  let all := s.fab.members.filter (fun n => n != s.fab.nodeId && s.reachable n)
  !all.isEmpty && all.all (fun n => s.feedOf n == s.groom.feed)

/-- Bytes the module asks a remount for: its partitions' snapshots. -/
def State.askSize (s : State) : Nat := (((List.range 16).filter (fun p => s.fld p Ty.snapshot p 0 1 == 1 && s.gateGroup p != 0xFFFF)).map s.snapSize).sum

/-- Remounts a module keeps: two where every candidate shares its feed, else one. -/
def State.remountsWanted (s : State) : Nat := if s.coFeed then 2 else 1

/-- The module asks the best candidates it lacks (R335, R336). -/
def State.seekRemount (s : State) : State :=
  let need := s.remountsWanted - s.fab.remounts.length
  let cand := (s.remountOrder.filter (fun n => !s.fab.remounts.contains n && !s.fab.asked.contains n)).take need
  cand.foldl (fun s n => s.send 0x52 n [s.askSize]) s

/-- Partitions of this module that belong to a domain. -/
def State.domains (s : State) : List Nat := (List.range 16).filter (fun p => s.gateGroup p != 0xFFFF && s.hasRec p Ty.group (s.gateGroup p))

/-- The module has no secured image any more (R337). -/
def State.unsecure (s : State) : State :=
  s.domains.foldl (fun s p =>
    if (s.part p).unsecured then s
    else ((s.modPart p (fun q => { q with unsecured := true })).logP 0 p Db.snapUnsecured p).pcount p PEv.snapUnsecured 1) s

/-- At an epoch commit the module chooses again: it changes a remount that is lost, or one on its own feed when another feed
is at hand (R335, R337). -/
def State.chooseRemounts (s : State) : State :=
  let live := s.fab.remounts.filter (fun n => s.fab.members.contains n)
  let keep := if s.coFeed then live else live.filter (fun n => s.feedOf n != s.groom.feed)
  let gone := s.fab.remounts.any (fun n => !keep.contains n)
  let s := s.modFab (fun f => { f with remounts := keep, asked := [] })
  let s := if gone && keep.isEmpty then s.unsecure else s
  if s.domains.isEmpty then s else s.seekRemount

/-! ### The image (R332) -/

/-- Pieces of a partition's image: item, offset, bytes, in the order of R332; the crossbars of a carry set are those given. -/
def State.imagePieces (s : State) (p : Nat) (xs : List Nat) : List (Nat × Nat × List Byte) :=
  xs.flatMap (fun k => (List.range 3).map (fun pl =>
      (1, carryOff (k / 8) (k % 8) pl, s.rdMem (s.planeBase (k / 8) ((s.cell (k / 8)).set (k % 8)) pl) 262144))) ++
    (s.masters p).map (fun r => (2, r.1, s.rdMem r.1 r.2)) ++
    (s.tallies p).map (fun r => (3, r.1 * 262144 + r.2.1 * 4, s.rdLoc r.1 (0x200000 + r.2.1 * 4) (r.2.2 * 4))) ++
    (s.scratches p).map (fun r => (4, r.1 * 2097152 + r.2.1, s.rdLoc r.1 r.2.1 r.2.2)) ++
    (if (s.keep p).2 = 0 then [] else [(16 * p + 5, 0, s.rdMem (s.keep p).1 (s.keep p).2)]) ++
    [(16 * p + 6, 0, s.streamBytes p), (16 * p + 7, 0, s.levelBytes p), (16 * p + 8, 0, s.tableBytes p)]

/-- Whether an uncorrectable memory error lies in what an image would read. -/
def State.imageBad (s : State) (p : Nat) (xs : List Nat) : Option Nat :=
  ((xs.flatMap (fun k => (List.range 3).map (fun pl => (s.planeBase (k / 8) ((s.cell (k / 8)).set (k % 8)) pl, 262144)))) ++
    s.masters p ++ [s.keep p]).findSome? (fun (r : Nat × Nat) => s.badIn r.1 r.2)

end Sys2Proof.Machine
end

