-- ==== Sys2Proof/Machine/Quantise.lean ====
section
/-! DEFINITION. Machine/Quantise: QROT, QNT and DQNT (R132 to R142, R172, R233, R234). -/

namespace Sys2Proof.Machine

/-! ### The rotation (R139 to R141) -/

/-- Sign bit i of a layer: true for −1 (R141). -/
def rotSign (seed i : Nat) : Bool := bit (diceDraw seed 0xFFF0 0 0 (i / 32)) (i % 32)

/-- One stage of the Hadamard transform with half-width h (R140). -/
def hadStage (h : Nat) (l : List Fv) : List Fv :=
  (List.range l.length).map (fun j =>
    let x := l.getD j .nan
    if (j / h) % 2 = 0 then (x.add (l.getD (j + h) .nan)).r32
    else ((l.getD (j - h) .nan).add x.opp).r32)

/-- The stages h = 1, 2, 4, … of a block of 2ᵏ elements. -/
def hadamard (k h : Nat) (l : List Fv) : List Fv :=
  match k with
  | 0 => l
  | n + 1 => hadamard n (2 * h) (hadStage h l)

/-- c_n of R139. -/
def rotC (n : Nat) : Fv :=
  match n with
  | 16 => .num (mkRat 1 4) false
  | 32 => dec32 0x3E3504F3
  | 64 => .num (mkRat 1 8) false
  | 128 => dec32 0x3DB504F3
  | _ => .num (mkRat 1 16) false

/-- One innermost row rotated in blocks of n (R140). -/
def rotRow (seed n : Nat) (row : List Fv) : List Fv :=
  let signed := (List.zip (List.range row.length) row).map (fun x => if rotSign seed x.1 then x.2.opp else x.2)
  (chunks n row.length signed).flatMap (fun b => (hadamard (Nat.log2 n) 1 b).map (fun x => (x.mul (rotC n)).r32))

/-! ### Draws of the quantiser -/

/-- The draw of element k of a write: none for RNE (R138, R234). -/
def State.qDraw (s : State) (c : Nat) (sr : Bool) (p : ParamBlk) (k : Nat) : Option Nat :=
  if sr then some (s.draw (s.owner c) p.stream 0 (p.posBase + k)) else none

/-- Draws taken by a line, counted: those of finite elements. -/
def State.countDraws (s : State) (c : Nat) (sr : Bool) (l : List Fv) : State :=
  if sr then s.count c Ev.diceDraws ((l.filter (fun x => x.fin)).length) else s

/-! ### The instructions -/

/-- What issue learns of QROT (R233, R234).
DEDUCED: log entries 20, 28. -/
def State.issQrot (s : State) (c w : Nat) : Iss :=
  let (a, ia) := s.streamDesc c (bits w 95 80)
  let (d, id) := s.streamDesc c (bits w 79 64)
  let sr := bit (wordMod w) 0
  let (p, ip) := if sr then s.paramBlk c (bits w 47 32) else (ParamBlk.reset, [])
  let own := s.owner c
  let layer := bits w 31 20
  let has := s.hasRec own Ty.rotation layer
  let n := s.fld own Ty.rotation layer 8 2
  let zero := a.count == 0
  { Iss.none with
    ill := rsvIll w [(95, 80), (79, 64), (63, 48), (47, 32), (31, 20)] ++ cz (wide d.fmt && bits w 63 48 != 0) 4 ++ ia ++ id ++ ip ++
      cz (a.inner != d.inner || a.outer != d.outer) 6 ++ cz (!has) 6 ++ cz (has && n != 0 && a.inner % n != 0) 6 ++
      cz (sr && !s.mayDraw c p.stream) 6
    flt := if zero then [] else s.streamFlt c 3 false a ++ s.streamFlt c 3 true d
    a := a, d := d, par := p, zero := zero, rd := a.ranges, wr := d.ranges }

/-- QROT (R139 to R142, R234). -/
def execQrot (c : Cid) (s : State) : Out :=
  match s.atOp c .qrot with
  | some w =>
    let i := s.issQrot c w
    let own := s.owner c
    let layer := bits w 31 20
    let sr := bit (wordMod w) 0
    .next (s.issueUnit c w i true (fun t =>
      (List.range i.a.outer).foldl (fun t r =>
        let row := rotRow (s.fld own Ty.rotation layer 0 8) (s.fld own Ty.rotation layer 8 2) (s.rowOf c i.a r)
        if wide i.d.fmt then t.wrWideAt c i.d ((List.range i.d.inner).map (fun e => (r, e))) row
        else
          (t.wrNarrowRow c i.d (bits w 63 48) false r row
            ((List.range row.length).map (fun e => s.qDraw c sr i.par (r * i.a.inner + e)))).countDraws c sr row) t))
  | none => .next s

/-- The descriptor of a quantise operand: a matrix under MATRIX, else a stream. -/
def State.qDesc (s : State) (c ref : Nat) (matrix : Bool) : Desc × List Nat :=
  if matrix then s.matDesc c ref else s.streamDesc c ref

/-- What issue learns of QNT (R233, R234).
DEDUCED: log entries 20, 28. -/
def State.issQnt (s : State) (c w : Nat) : Iss :=
  let m := bit (wordMod w) 2
  let sr := bit (wordMod w) 0
  let (a, ia) := s.qDesc c (bits w 95 80) m
  let (d, id) := s.qDesc c (bits w 79 64) m
  let (p, ip) := if sr then s.paramBlk c (bits w 47 32) else (ParamBlk.reset, [])
  let zero := a.count == 0
  let line := if d.saxis then d.outer else d.inner
  { Iss.none with
    ill := rsvIll w [(95, 80), (79, 64), (63, 48), (47, 32)] ++ ia ++ id ++ ip ++ cz (!narrow d.fmt && d.fmt < 8) 5 ++
      cz (a.inner != d.inner || a.outer != d.outer) 6 ++ cz (bit (wordMod w) 1 && line % 512 != 0) 6 ++
      cz (sr && !s.mayDraw c p.stream) 6
    flt := if zero then [] else s.streamFlt c 3 false a ++ s.streamFlt c 3 true d
    a := a, d := d, par := p, zero := zero, rd := a.ranges, wr := d.ranges }

/-- QNT: every line along the block axis through the quantiser (R132 to R136, R234). -/
def execQnt (c : Cid) (s : State) : Out :=
  match s.atOp c .qnt with
  | some w =>
    let i := s.issQnt c w
    let sr := bit (wordMod w) 0
    let lines := if i.d.saxis then i.d.inner else i.d.outer
    let len := if i.d.saxis then i.d.outer else i.d.inner
    .next (s.issueUnit c w i true (fun t =>
      (List.range lines).foldl (fun t l =>
        let ps := (List.range len).map (fun k => i.d.linePos l k)
        let vs := ps.map (fun x => s.elem c i.a x.1 x.2)
        (t.wrNarrowRow c i.d (bits w 63 48) (bit (wordMod w) 1) l vs
          (ps.map (fun x => s.qDraw c sr i.par (x.1 * i.a.inner + x.2)))).countDraws c sr vs) t))
  | none => .next s

/-- What issue learns of DQNT (R233, R234).
DEDUCED: log entries 20, 28. -/
def State.issDqnt (s : State) (c w : Nat) : Iss :=
  let m := bit (wordMod w) 2
  let (a, ia) := s.qDesc c (bits w 95 80) m
  let (d, id) := s.qDesc c (bits w 79 64) m
  let zero := a.count == 0
  { Iss.none with
    ill := rsvIll w [(95, 80), (79, 64)] ++ ia ++ id ++ cz (!wide d.fmt && d.fmt < 8) 5 ++
      cz (a.inner != d.inner || a.outer != d.outer) 6
    flt := if zero then [] else s.streamFlt c 3 false a ++ s.streamFlt c 3 true d
    a := a, d := d, zero := zero, rd := a.ranges, wr := d.ranges }

/-- DQNT: exact decoding, rounded by RNE only into BF16 (R234). -/
def execDqnt (c : Cid) (s : State) : Out :=
  match s.atOp c .dqnt with
  | some w =>
    let i := s.issDqnt c w
    .next (s.issueUnit c w i true (fun t => t.wrWide c i.d (s.streamOf c i.a)))
  | none => .next s

end Sys2Proof.Machine
end

