-- ==== Sys2Proof/Machine/Retrieval.lean ====
section
/-! DEFINITION. Machine/Retrieval: TOPK SCAN and TOPK MERGE (R241 to R243, R283 to R288). -/

namespace Sys2Proof.Machine

/-- Causes of the bits both forms of TOPK share. -/
def topkIll (w : Nat) : List Nat := cz (1 < bits w 30 29) 5 ++ cz (256 < bits w 39 31) 6

/-- What issue learns of a TOPK SCAN. -/
def State.issScan (s : State) (c w : Nat) : Iss :=
  let mi := bit (wordMod w) 0
  let mo := bit (wordMod w) 1
  let (a, ia) := s.streamDesc c (bits w 95 80)
  let (p, ip) := if mi || mo then s.paramBlk c (bits w 63 48) else (ParamBlk.reset, [])
  let k := bits w 39 31
  let out := bits w 79 64 * 32
  let n := a.outer * 8 * k
  let zero := k == 0 || a.outer == 0
  let masks := (if mi then [(p.maskIn, p.maskIn + 64)] else []) ++ if mo then [(p.maskOut, p.maskOut + 64)] else []
  { Iss.none with
    ill := rsvIll w [(95, 80), (79, 64), (63, 48), (47, 40), (39, 31), (30, 29), (28, 23)] ++ topkIll w ++ ia ++ ip ++
      cz (a.fmt < 8 && !(wide a.fmt || ((a.fmt == fINT4 || a.fmt == fINT8) && a.sc))) 5 ++ cz (a.inner != 512) 6
    flt := if zero then [] else s.streamFlt c 1 false a ++
      ((localCause 1 true (out : Int) ((out + n : Nat) : Int)).toList).map (fun x => (2, x)) ++
      (if mi then maskFlt p.maskIn 64 else []) ++ if mo then maskFlt p.maskOut 64 else []
    a := a, par := p, zero := zero, rd := a.ranges ++ masks, wr := [(out, out + n)] }

/-- TOPK SCAN: its lists start as fillers, and each crossbar's scores join them as they return (R241, R242, R288). -/
def execTopkScan (c : Cid) (s : State) : Out :=
  match s.atOp c .topk with
  | some w =>
    if bits w 30 29 != 0 then .next s
    else
      let i := s.issScan c w
      let k := bits w 39 31
      .next (s.issueUnit c w i true (fun t => t.wrEntries c (bits w 79 64 * 32) (List.replicate (i.a.outer * k) fillEntry)))
  | none => .next s

/-- What issue learns of a TOPK MERGE. -/
def issMerge (w : Nat) : Iss :=
  let nl := bits w 63 48
  let lin := bits w 28 20
  let k := bits w 39 31
  let src := bits w 95 80 * 32
  let out := bits w 79 64 * 32
  let zero := k == 0 || nl == 0
  let f (wr : Bool) (a n : Nat) : List (Nat × Nat) := ((localCause 1 wr (a : Int) ((a + n : Nat) : Int)).toList).map (fun x => (2, x))
  { Iss.none with
    ill := rsvIll w [(95, 80), (79, 64), (63, 48), (39, 31), (30, 29), (28, 20)] ++ topkIll w ++
      cz (wordMod w != 0) 4 ++ cz (lin == 0) 5 ++ cz (256 < lin) 6
    flt := if zero then [] else f false src (8 * nl * lin) ++ f true out (8 * k)
    zero := zero, rd := [(src, src + 8 * nl * lin)], wr := [(out, out + 8 * k)] }

/-- TOPK MERGE: the best K entries of all input lists (R242, R288). -/
def execTopkMerge (c : Cid) (s : State) : Out :=
  match s.atOp c .topk with
  | some w =>
    if bits w 30 29 != 1 then .next s
    else
      let k := bits w 39 31
      .next (s.issueUnit c w (issMerge w) ((s.cell c).queued 1 == 0) (fun t =>
        t.wrEntries c (bits w 79 64 * 32)
          (bestOf k (List.replicate k fillEntry) (t.rdEntries c (bits w 95 80 * 32) (bits w 63 48 * bits w 28 20)))))
  | none => .next s

end Sys2Proof.Machine
end

