-- ==== Sys2Proof/Machine/TrainingStep.lean ====
section
/-! DEFINITION. Machine/TrainingStep: the completion of instructions, the skip gate (R266), the local barrier and the step
boundary (R42, R44, R259, R339), execution faults and the replay of a step (R59, R272, R273, R306), shards to the host
(R463), illegal words (R47) and the progress word (R66). -/

namespace Sys2Proof.Machine

/-! ### The skip gate (R239, R266) -/

/-- The step is skipped: held records are discarded, STEP_SKIPPED counts once, the host receives a SKIP completion. -/
def State.skipStep (s : State) (p : Nat) (part : Bool) : State :=
  let q := s.part p
  if q.skipSent then s
  else
    let n := (q.outbox.filter (fun r => !r.released)).length
    let s := s.modPart p (fun q => { q with outbox := q.outbox.filter (fun r => r.released), skipSent := true })
    let s := if n = 0 then s else s.pcount p PEv.shardDiscarded n
    let s := s.pcount p PEv.stepSkipped 1
    let s := if q.poolSkip then s.pcount p PEv.fallbackSkip 1 else s
    s.event p 2 0 n 0 part

/-- A CFIN of a training program has completed with an outcome: the gate CFIN releases or discards the step's held records;
a later one that sets the flag ends the release (R266).
DEDUCED: log entry 60. -/
def State.gate (s : State) (p g : Nat) (skip : Bool) : State :=
  let q := s.part p
  if g = s.gateGroup p && !q.gateDone then
    let s := s.modPart p (fun q => { q with gateDone := true })
    if skip then s.skipStep p false
    else
      let n := (q.outbox.filter (fun r => !r.released)).length
      let s := s.modPart p (fun q => { q with
        outbox := q.outbox.map (fun r => { r with released := true }), released := q.released || decide (0 < n) })
      if n = 0 then s else s.pcount p PEv.shardReleased n
  else if skip && q.gateDone then s.skipStep p q.released
  else s

/-- CFIN completes: the skip flags of the member and of its partition (R239), then the gate.
DEDUCED: log entry 60. -/
def State.cfinDone (s : State) (c : Nat) (f : Flight) : State :=
  let p := s.owner c
  let skip := f.vec != 0
  let s := s.modCell c (fun cl => { cl with skip := skip })
  let s := s.modPart p (fun q => { q with stepSkip := skip })
  if (s.cell c).eval then s else s.gate p f.coll.1 skip

/-! ### Completion (R30, R35) -/

/-- Whether the oldest instruction of a unit has done its work. -/
def Flight.done (f : Flight) : Bool :=
  f.status == 1 || (f.left == 0 && (!f.isProduct || decide (f.total ≤ f.vec)))

/-- Events counted as an instruction completes (R184, R201, R248). -/
def State.countDone (s : State) (c : Nat) (f : Flight) : State :=
  let s := if f.unit = 2 then s.count c Ev.dmmInstr 1 else if f.unit = 4 then s.count c Ev.vecInstr 1 else s
  if f.isProduct && f.isScan && f.status != 1 then s.count c Ev.topkQueries f.src.outer else s

/-- INSTR_COMPLETE (R29, R30, R35, R206): the oldest instruction of a unit completes.
DEDUCED: log entry 7. -/
def execInstrComplete (c : Cid) (u : Fin 8) (s : State) : Out :=
  match (s.cell c).head u with
  | none => .next s
  | some f =>
    if !f.done || !s.regionOn c then .next s
    else
      let s := if wordOp f.word.toNat == some .cfin && f.status != 1 then s.cfinDone c f else s
      .next (((s.countDone c f).popFlight c u).settleCell c)

/-! ### The step boundary (R259) -/

/-- Held records of a closing step are discarded, ungated; while the link is down, released ones too (R266, R467). -/
def State.closeOutbox (s : State) (p : Nat) : State :=
  let q := s.part p
  let stay := if s.hif.up then q.outbox.filter (fun r => r.released) else []
  let held := (q.outbox.filter (fun r => !r.released)).length
  let gone := q.outbox.length - stay.length
  let s := s.modPart p (fun q => { q with outbox := stay })
  let s := if gone = 0 then s else s.pcount p PEv.shardDiscarded gone
  if held != 0 && !q.gateDone then
    ((s.pcount p PEv.shardUngated 1).logP 0 p Db.shardUngated held [q.trainStep]).event p 3 0 held 0
  else s

/-- Messages that span the boundary are counted, and logged once a cell (R269). -/
def State.outstanding (s : State) (p : Nat) : State :=
  eachN s (s.cellsOf p) (fun s c =>
    let cl := s.cell c
    let n := cl.sends.length + cl.recvs.length
    if n = 0 then s else (s.pcount p PEv.movStepOutstanding n).logC c Db.msgOutstanding n [(s.part p).trainStep])

/-- The boundary of a TRAIN step, in the order of R259. -/
def State.trainBoundary (s : State) (p : Nat) : State :=
  let s := ((s.latency p 8 0 (s.time - (s.part p).stepAt)).outstanding p).closeOutbox p
  let s := (s.judge p).advanceStreams p 0 0x8000
  let s := s.modPart p (fun q => { q with trainStep := (q.trainStep + 1) % 2 ^ 32 })
  let s := eachN s (s.cellsOf p) (fun s c => s.modCell c (fun cl => { cl with npos := [] }))
  let s := s.modPart p (fun q => { q with stepSkip := false, progHi := (q.progHi + 1) % 2 ^ 32 })
  (s.modPart p (fun q => { q with
    shardMap := q.shardMapNext.getD q.shardMap, shardMapNext := none, gateDone := false, released := false, skipSent := false
    applied := false, replays := 0, replayAddr := []
    stepTimes := (q.stepTimes ++ [s.time - q.stepAt]).drop (q.stepTimes.length + 1 - 64), stepAt := s.time })).planNext p

/-- The boundary of an EVAL program's step: its streams and the progress word (R259); its blocks close unjudged (R136, N7). -/
def State.evalBoundary (s : State) (p : Nat) : State :=
  let s := s.advanceStreams p 0x8000 0xC000
  let s := (s.layersOf p).foldl (fun s l => s.modLayer p l (fun y => { y with resS := 0, resN := 0 })) s
  s.modPart p (fun q => { q with tags := [], progHi := (q.progHi + 1) % 2 ^ 32 })

/-- A partition halts: its sequencers stop at their next boundaries (R57, R339, R344).
DEDUCED: log entry 68. -/
def State.haltPart (s : State) (p : Nat) : State :=
  let s := s.modPart p (fun q => { q with snap := 1, quiesce := true, haltAt := s.time })
  eachN s (s.cellsOf p) (fun s c =>
    let cl := s.cell c
    if cl.st = 2 then
      (s.modCell c (fun cl => { cl with
        halt := true, wait := if cl.wait.kind = 0 then { Wait.reset with kind := 7, start := s.time } else cl.wait })).countEdge c Ev.seqHalt
    else s)

/-- Issue resumes where it stopped (R57, R339). -/
def State.unhaltPart (s : State) (p : Nat) : State :=
  let s := s.modPart p (fun q => { q with snap := 0, quiesce := false })
  eachN s (s.cellsOf p) (fun s c =>
    (s.modCell c (fun cl => { cl with halt := false, wait := if cl.wait.kind = 7 then Wait.reset else cl.wait })).settleCell c)

/-- Whether every in-place write and every carry add of a partition is complete (R339, R371). -/
def State.writesDone (s : State) (p : Nat) : Bool :=
  (s.cellsOf p).all (fun c => (s.cell c).wq.all (fun j => j.repair || j.spare || (j.relay && (j.load || j.running))))

/-- Whether the step barrier that ends the present TRAIN step is planned for a snapshot. -/
def State.planned (s : State) (p : Nat) : Bool := s.snaps p && (s.part p).plan == some (s.part p).trainStep

/-- A planned halt begins; at the leader the results of the step are awaited (R339). -/
def State.haltPlanned (s : State) (p step : Nat) : State :=
  (s.haltPart p).modPart p (fun q => { q with
    snapStep := step, plan := none, halting := true, sending := false, stored := [], reqAt := none
    await_ := if s.leaderOf p = s.fab.nodeId then some step else none, planAt := s.time })

/-- LOCAL_BARRIER_COMPLETE (R42, R44, R259, R339, R371): every member has arrived. -/
def execLocalBarrierComplete (p : Pn) (g : Fin 16) (s : State) : Out :=
  let ms := s.localGroup p g
  let ok (c : Nat) : Bool :=
    let cl := s.cell c
    cl.st == 2 && !cl.halt && cl.draining == 0 && cl.wait.kind == 2 && cl.wait.group == g.val && cl.wait.arrived
  let step := g.val == 0 && ms.any (fun c => (s.cell c).wait.step)
  let train := step && ms.any (fun c => (s.cell c).wait.step && !(s.cell c).eval)
  let snap := train && s.planned p
  let dig := train && s.digestStep p
  if ms.isEmpty || !ms.all ok || ((snap || dig) && !s.writesDone p) then .next s
  else
    let closing := (s.part p).trainStep
    let s := if train then s.trainBoundary p else if step then s.evalBoundary p else s
    let s := eachN s ms State.release
    let s := if train then s.drillStep p else s
    let s := if dig then s.takeDigests p else s
    .next (if snap then s.haltPlanned p closing else s)

/-! ### Execution faults and replay (R59, R272, R273) -/

/-- Whether a device address lies in state that only the last secured step can bring back: a codes, carry or achieved plane,
the keep region, or a master copy (R272).
DEDUCED: log entry 64. -/
def State.securedOnly (s : State) (p a : Nat) : Bool :=
  (s.cellsOf p).any (fun c => (List.range 9).any (fun k => (List.range 3).any (fun pl =>
    let b := s.planeBase c k pl
    decide (b ≤ a) && decide (a < b + 262144)))) ||
  (let k := s.keep p
   decide (k.1 ≤ a) && decide (a < k.1 + k.2)) ||
  (s.masters p).any (fun r => decide (r.1 ≤ a) && decide (a < r.1 + r.2))

/-- An uncorrectable memory error consumed by a TRAIN program: the good point of R272, and the replay of R273. -/
def State.memError (s : State) (p a : Nat) : State :=
  let q := s.part p
  if s.securedOnly p a || q.applied || (q.replays != 0 && q.replayAddr.contains (a / 4096)) || 2 ≤ q.replays then s.restoreReq p a
  else
    let s := (s.pcount p PEv.stepReplay 1).modPart p (fun q => { q with replays := q.replays + 1, replayAddr := q.replayAddr ++ [a / 4096] })
    let s := eachN s (s.cellsOf p) (fun s c => s.stopCell c)
    s.replayStep p a

/-- Execution faults and their causes (R59, R524).
DEDUCED: log entry 40. -/
def execCode (code cause : Nat) : Bool :=
  if code = Fc.analogue then decide (cause < 6)
  else if code = Fc.collective then decide (cause < 3)
  else decide (0x10 ≤ code) && decide (code ≤ 0x14) && cause == 0

/-- EXECUTION_FAULT (R59, R60, R272): the oldest instruction of a unit, or the write under way, meets a fault.  addr is the
device address of a memory error.
DEDUCED: log entries 39, 40. -/
def execExecutionFault (c : Cid) (u : Fin 8) (code cause addr : Nat) (s : State) : Out :=
  let cl := s.cell c
  let p := s.owner c
  let job := if u.val = 1 then cl.wq.find? (fun j => j.running && !j.repair && !j.spare && !j.restore) else none
  let who : Option (Nat × BitVec 128) := match cl.head u with
    | some f => some (f.pc, f.word)
    | none => job.map (fun j => (j.pc, j.word))
  match who with
  | none => .next s
  | some (pc, w) =>
    if cl.st != 2 || !execCode code cause then .next s
    else
      let s := if code = Fc.memory then { s with badMem := insN (addr / 64) s.badMem } else s
      let s := if (cl.head u).isNone then s.dropJob c 1 else s
      let s := s.faultAt c code cause pc w (if code = Fc.memory then addr else 0) u
      .next (if code = Fc.memory && !cl.eval then s.memError p addr else s)

/-- STEP_REPLAY (R273, R306): every partition with a member in a group shared with the sender's node stops and undoes its
step; nothing is forwarded, and a second notice of the same step is dropped.
DEDUCED: log entry 64. -/
def execStepReplay (h : Hdr) (p : Pn) (step : Nat) (s : State) : Out :=
  s.receive h (fun s =>
    let hit (q : Nat) : Bool := s.recs.any (fun e => decide (e.1 / 2 ^ 32 = q) && keyType e.1 == Ty.group &&
      (s.members q (e.1 % 65536)).any (fun m => m.1 == h.src))
    (List.range 16).foldl (fun s q =>
      if hit q && !(s.part q).replaySeen.contains (h.src, p.val, step) then
        let s := s.modPart q (fun x => { x with replaySeen := x.replaySeen ++ [(h.src, p.val, step)] })
        let s := eachN s (s.cellsOf q) (fun s c => s.stopCell c)
        s.replayState q 0
      else s) s)

/-! ### Shards to the host (R463) -/

/-- SHARD_COPY (R463, R467): the oldest released record is copied.
DEDUCED: log entry 42. -/
def execShardCopy (p : Pn) (s : State) : Out :=
  let q := s.part p
  match q.outbox.find? (fun r => r.released) with
  | none => .next s
  | some r =>
    if !s.hif.up || (s.queue p 0).st = 0 then .next s
    else
      let s := s.modPart p (fun q => { q with outbox := q.outbox.erase r })
      let m := q.shardMap
      if r.addr < m.2.1 || m.2.1 + m.2.2 < r.addr + r.len then
        .next ((s.pcount p PEv.shardDiscarded 1).event p 0xA (Config.hostCause 9) (Config.hostCause 9) r.addr)
      else match s.badIn r.addr r.len with
        | some a => .next (s.memError p a)
        | none =>
          let host := m.1 % 2 ^ 63 + (r.addr - m.2.1)
          let s := s.wrHost host (s.rdMem r.addr r.len)
          .next (s.event p 1 0 host (r.len + 2 ^ 32 * (if r.kind = 0 then r.cell + 65536 * r.xbar else r.tag)))

/-! ### Illegal words (R47, R58) -/

/-- Causes found in the word a cell stands at and in the structures it names. -/
def State.illCauses (s : State) (c : Nat) : List Nat :=
  let cl := s.cell c
  let w := cl.word.toNat
  commonIll w ++ match wordOp w with
  | none => []
  | some o => match o with
    | .nop | .stop | .br | .loop | .wait | .signal | .fence | .barrier => controlIll cl o w
    | .lds | .sts | .copy => (s.issCopy c o w).ill
    | .gather => (s.issGather c w).ill
    | .scatter => (s.issScatter c w).ill
    | .send => (s.issMsg c w false).ill
    | .recv => (s.issMsg c w true).ill
    | .amv | .amvt => (s.issAmv c w).1.ill
    | .aread => (s.issAread c w).ill
    | .aprog => (s.issAprog c w).ill
    | .aswap => rsvIll w [(95, 92)] ++ cz (8 ≤ bits w 95 92) 6
    | .acal => rsvIll w ((91, 88) :: if bit (wordMod w) 0 then [] else [(95, 92)]) ++ cz (!bit (wordMod w) 0 && 8 ≤ bits w 95 92) 6 ++
        cz (bits w 91 88 == 0) 6
    | .dmm => (s.issMat c w false).1.ill
    | .dconv => (s.issMat c w true).1.ill
    | .qrot => (s.issQrot c w).ill
    | .qnt => (s.issQnt c w).ill
    | .dqnt => (s.issDqnt c w).ill
    | .vadd | .vmul | .vfma | .vcmp | .vsel | .vmin | .vmax => (s.issVec c o w).ill
    | .acc => (s.issAcc c w).ill
    | .accrd => (s.issAccrd c w).ill
    | .cred | .cbcast | .cnorm | .cfin => (s.issColl c o w).ill
    | .topk => if bits w 30 29 = 0 then (s.issScan c w).ill else (issMerge w).ill
    | .tack | .tcommit => configIll w
    | .drill => (s.issDrill w).ill
    | .digest => (s.issDigest c w).ill

/-- ILLEGAL_INSTRUCTION (R47, R58, R203): a word with an illegal value faults before issue, with the first cause in the order
of R47.
DEDUCED: log entry 6. -/
def execIllegalInstruction (c : Cid) (s : State) : Out :=
  if !s.issuing c then .next s
  else match (s.illCauses c).min? with
    | none => .next s
    | some k => .next (s.precise c Fc.illegal k)

/-! ### The progress word (R66) -/

/-- PROGRESS_WORD_SAMPLE: bits [31:0] take the low half of the sum of the partition's heartbeats. -/
def execProgressWordSample (p : Pn) (s : State) : Out :=
  .next (s.modPart p (fun q => { q with progLo := ((s.cellsOf p).map (fun c => (s.cell c).heartbeat)).sum % 2 ^ 32 }))

end Sys2Proof.Machine
end

