-- ==== Sys2Proof/Machine/Snapshot.lean ====
section
/-! DEFINITION. Machine/Snapshot: taking a snapshot (R339 to R343), serving as remount (R336), and the emergency snapshot
(R344, R353). -/

namespace Sys2Proof.Machine

/-! ### The remount's side (R336) -/

/-- An owner served. -/
def State.owned (s : State) (n : Nat) : Owner := tget s.fab.owners n Owner.reset

/-- An owner served changed. -/
def State.modOwner (s : State) (n : Nat) (f : Owner → Owner) : State :=
  s.modFab (fun b => { b with owners := tins b.owners n (f (tget b.owners n Owner.reset)) })

/-- Bytes an image takes; an image lists every byte it holds, zero ones too. -/
def Image.put (i : Image) (key : Nat) (l : List Byte) : Image :=
  match l with
  | [] => i
  | b :: r => ({ i with data := tins i.data key b }).put (key + 1) r

/-- SNAP_SECURED of a step reaches a remount: pending images of it become committed, and the oldest of three is freed. -/
def State.commitImages (s : State) (step : Nat) : State :=
  s.fab.owners.foldl (fun s e => match e.2.pend with
    | some i => if i.step = step then s.modOwner e.1 (fun o => { o with images := (i :: o.images).take 2, pend := none }) else s
    | none => s) s

/-- SNAP_ABORT of a step: no pending image of it is kept. -/
def State.dropImages (s : State) (step : Nat) : State :=
  s.fab.owners.foldl (fun s e => match e.2.pend with
    | some i => if i.step = step then s.modOwner e.1 (fun o => { o with pend := none }) else s
    | none => s) s

/-- Free bytes of REMOUNT_RESERVE, an owner left out. -/
def State.reserveLeft (s : State) (n : Nat) : Nat :=
  s.fld 0 Ty.membership 0 8 2 * 2 ^ 30 - ((s.fab.owners.filter (fun e => e.1 != n)).map (fun e => 3 * e.2.size)).sum

/-- REMOUNT_ASK (R336): space for three times the size, for at most REMOUNT_MAX owners. -/
def execRemountAsk (h : Hdr) (size : Nat) (s : State) : Out :=
  s.receive h (fun s =>
    let n := h.src
    let left := s.reserveLeft n
    let room := (tfind s.fab.owners n).isSome || decide (s.fab.owners.length < s.fld 0 Ty.membership 0 3 1)
    if room && decide (3 * size ≤ left) then (s.modOwner n (fun o => { o with size := size })).send 0x53 n [left - 3 * size]
    else s.send 0x54 n [left])

/-- REMOUNT_GRANT (R336, R337): the module has a remount; its next snapshot sends every item. -/
def execRemountGrant (h : Hdr) (_left : Nat) (s : State) : Out :=
  s.receive h (fun s =>
    if s.fab.remounts.contains h.src || s.remountsWanted ≤ s.fab.remounts.length then s
    else
      let s := s.modFab (fun f => { f with remounts := f.remounts ++ [h.src] })
      let s := s.domains.foldl (fun s p => s.modPart p (fun q => { q with
        dirty := (s.cellsOf p).flatMap (fun c => (List.range 8).map (fun x => c * 8 + x)) })) s
      if s.coFeed && 2 ≤ s.fab.remounts.length then
        s.domains.foldl (fun s p => s.pcount p PEv.snapCoFeed 1) (s.log 6 Db.snapCoFeed (s.fab.remounts.headD 0) (s.fab.remounts.drop 1))
      else s)

/-- REMOUNT_DENY (R335, R336): the candidate comes last from here on, and another is asked. -/
def execRemountDeny (h : Hdr) (_left : Nat) (s : State) : Out :=
  s.receive h (fun s => (s.modFab (fun f => { f with asked := insN h.src f.asked })).seekRemount)

/-- SNAP_DATA (R336, R339): data of an owner joins its pending image, which starts from the newest secured one; after the last
byte the remount answers SNAP_STORED.  The last item is a partition's tables, whose number names the partition.
DEDUCED: log entry 68. -/
def execSnapData (h : Hdr) (step item off : Nat) (data : List Byte) (last : Bool) (s : State) : Out :=
  s.receive h (fun s =>
    if (tfind s.fab.owners h.src).isNone then s
    else
      let s := s.modOwner h.src (fun o =>
        let base : Image := match o.images with
          | i :: _ => i
          | [] => Image.reset
        let i : Image := match o.pend with
          | some i => if i.step = step then i else { base with step := step }
          | none => { base with step := step }
        { o with pend := some (i.put (itemKey item off) data) })
      if last then s.send 0x56 h.src [item / 16, step, 1] else s)

/-- EMERG_RECORD (R344): an owner's record is kept beside its images. -/
def execEmergRecord (h : Hdr) (data : List Byte) (s : State) : Out :=
  s.receive h (fun s =>
    if (tfind s.fab.owners h.src).isNone then s
    else s.modOwner h.src (fun o => { o with emerg := tins o.emerg (leNat (data.take 1)) data }))

/-! ### The member's and the leader's side (R339) -/

/-- SNAP_PLAN (R339): a member receives its leader's plan. -/
def execSnapPlan (h : Hdr) (p : Pn) (step ival : Nat) (s : State) : Out :=
  s.receive h (fun s =>
    if h.src = s.leaderOf p && s.snaps p then s.modPart p (fun q => { q with plan := some step, interval := ival, planTime := s.time })
    else s)

/-- A step is secured at this module (R336, R339): the remount's images commit, and the members' last secured step moves. -/
def State.snapSecured (s : State) (p step : Nat) : State :=
  let s := s.commitImages step
  let q := s.part p
  if q.snapStep = step && s.snaps p && q.snap != 2 then
    let s := s.modPart p (fun q => { q with lastSecured := step, dirtySent := [], unsecured := false })
    let s := if s.rack.withdraw = 1 && decide (s.rack.wdAt ≤ q.planTime) then s.modRack (fun r => { r with secured := true }) else s
    (s.modPart p (fun q => { q with await_ := none })).planNext p
  else s

/-- A step is aborted at this module (R339): no image of it commits, its crossbars go with the next one, and a halt for it ends. -/
def State.snapAborted (s : State) (p step : Nat) : State :=
  let s := s.dropImages step
  let q := s.part p
  if q.snapStep = step && q.snap != 2 then
    let s := s.modPart p (fun q => { q with dirty := firsts (q.dirty ++ q.dirtySent), dirtySent := [], await_ := none })
    if q.halting && !s.rack.emerg then
      (s.modPart p (fun q => { q with halting := false, sending := false, stored := [], snapReset := false })).unhaltPart p
    else s
  else s

/-- The leader floods SNAP_ABORT (R339). -/
def State.abortStep (s : State) (p step : Nat) : State :=
  ((s.send 0x59 0xFFFF [p, step]).pcount p PEv.snapAborted 1).snapAborted p step

/-- A member's result reaches the leader (R339 step 7). -/
def State.memberDone (s : State) (p node step : Nat) (ok : Bool) : State :=
  if (s.part p).await_ != some step then s
  else if !ok then s.abortStep p step
  else
    let s := s.modPart p (fun q => { q with doneFrom := insN node q.doneFrom, planAt := s.time })
    if (s.survivors p).all (fun n => (s.part p).doneFrom.contains n) then (s.send 0x58 0xFFFF [p, step]).snapSecured p step else s

/-- The leader is told of this member's result (R339 step 6). -/
def State.tellDone (s : State) (p : Nat) (ok : Bool) : State :=
  let step := (s.part p).snapStep
  if s.leaderOf p = s.fab.nodeId then s.memberDone p s.fab.nodeId step ok
  else s.send 0x57 (s.leaderOf p) [p, step, b2n ok]

/-- The planned halt of a partition ends (R339 steps 5 and 6, R340, R341); under the emergency sequence it stays halted. -/
def State.endHalt (s : State) (p : Nat) (ok : Bool) : State :=
  let q := s.part p
  let h := s.time - q.haltAt
  let s := if s.haltBound p q.sendSize < (h : Rat) then s.pcount p PEv.snapSlow 1 else s
  let s := s.modPart p (fun q => { q with
    halting := false, sending := false, stored := [], snapReset := false
    halts := if ok then (q.halts ++ [h]).drop (q.halts.length - 3) else q.halts })
  (if s.rack.emerg then s else s.unhaltPart p).tellDone p ok

/-- Instructions that a halt waits for (R57, R339): not an ASWAP that has not exchanged, nor what stands behind it. -/
def Cell.quiet (cl : Cell) : Bool :=
  cl.flight.all (fun f => f.unit == 1 && !f.started &&
    cl.flight.any (fun g => g.unit == 1 && wordOp g.word.toNat == some .aswap && g.left != 0 && decide (g.key ≤ f.key)))

/-- The image is sent to each remount, in the order of R332.
DEDUCED: log entry 68. -/
def State.sendImage (s : State) (p : Nat) : State :=
  let q := s.part p
  let tr := s.trained p
  let xs := if q.unsecured || q.lastSecured = 0xFFFFFFFF then tr else tr.filter (fun k => q.dirty.contains k || q.dirtySent.contains k)
  match s.imageBad p xs with
  | some a => (s.endHalt p false).restoreReq p a
  | none =>
    let ps := s.imagePieces p xs
    let n := ps.length
    let size := (ps.map (fun x => x.2.2.length)).sum
    let s := s.modPart p (fun q => { q with
      quiesce := false, sending := true, stored := [], dirty := [], dirtySent := firsts (xs ++ q.dirtySent), sendAt := s.time, sendSize := size })
    s.fab.remounts.foldl (fun s r => (List.zip (List.range n) ps).foldl (fun s e =>
      s.send 0x55 r ([q.snapStep, e.2.1, e.2.2.1, b2n (e.1 + 1 == n)] ++ e.2.2.2.map BitVec.toNat)) s) s

/-! ### The emergency sequence (R344) -/

/-- The emergency record of a partition: number, epoch, TRAIN_STEP, DATA_POS, tables, streams, then each cell's state,
program counter, wait reason, fault record and outstanding messages. -/
def State.emergBytes (s : State) (p : Nat) : List Byte :=
  leBytes 1 p ++ leBytes 4 s.fab.epoch ++ leBytes 4 (s.part p).trainStep ++ leBytes 4 (s.keepPos p) ++ s.tableBytes p ++ s.streamBytes p ++
    (s.cellsOf p).flatMap (fun c =>
      let cl := s.cell c
      leBytes 2 c ++ leBytes 1 cl.st ++ leBytes 2 cl.pc ++ leBytes 1 cl.wait.kind ++ leBytes 1 cl.fault.code ++ leBytes 1 cl.fault.cause ++
        leBytes 2 cl.fault.pc ++ leBytes 8 cl.fault.time ++ leBytes 16 cl.fault.word.toNat ++ leBytes 2 cl.sends.length ++ leBytes 2 cl.recvs.length ++
        (cl.sends ++ cl.recvs).flatMap (fun m => leBytes 2 m.node ++ leBytes 2 m.cell ++ leBytes 1 m.chan))

/-- The sequence ends (R344 steps 4 and 5): LEAVE_REQ with URGENT goes to the coordinator, and resets that waited begin (R386). -/
def State.emergEnd (s : State) : State :=
  if s.rack.emerg && s.rack.emergLeft.isEmpty then
    let s := if !s.fab.inSystem then s
      else if s.fab.coord = s.fab.nodeId then
        s.modFab (fun f => { f with lost := insN f.nodeId f.lost, gatherAt := some (f.gatherAt.getD s.time) })
      else s.send 0x15 s.fab.coord [1]
    let s := s.modRack (fun r => { r with emerg := false })
    (List.range 16).foldl (fun s p =>
      if (s.part p).flrHeld then (s.modPart p (fun q => { q with flrHeld := false })).beginPartReset p 16 else s) s
  else s

/-- Whether what is left of a planned transfer fits EMERG_BUDGET at the current rate (R344 step 3). -/
def State.fitsBudget (s : State) (p : Nat) : Bool :=
  let q := s.part p
  decide (s.haltBound p q.sendSize - 1200000 - ((s.time - q.sendAt : Nat) : Rat) ≤ ((s.fld p Ty.snapshot p 8 2 * 1000 : Nat) : Rat))

/-- A partition has quiesced under the emergency sequence (R344 steps 2 and 3). -/
def State.emergPart (s : State) (p : Nat) : State :=
  let q := s.part p
  let b := (s.emergBytes p).map BitVec.toNat
  let s := s.fab.remounts.foldl (fun s r => s.send 0x5A r b) s
  let s := s.modPart p (fun q => { q with quiesce := false })
  let left (s : State) (add : List Nat) : State :=
    s.modRack (fun r => { r with emergLeft := r.emergLeft.filter (fun x => x != p) ++ add })
  let s := if q.sending && s.fitsBudget p then left s [16 + p]
    else if q.halting then (left s []).endHalt p false
    else left s []
  s.emergEnd

/-- The emergency sequence begins (R344 step 1): every partition halts, whatever its domain. -/
def State.emergBegin (s : State) : State :=
  let ps := (List.range 16).filter (fun p => decide (p ≤ s.hif.numVf))
  let s := s.modRack (fun r => { r with emerg := true, emergAt := s.time, emergLeft := ps })
  ps.foldl (fun s p =>
    if (s.part p).snap = 0 then s.haltPart p
    else if (s.part p).snap = 1 then s.modPart p (fun q => { q with quiesce := true })
    else s) s

/-- QUIESCE_DONE (R339 step 4, R344, R353, R386): the last instruction of a halted partition has completed. -/
def execQuiesceDone (p : Pn) (s : State) : Out :=
  let q := s.part p
  let emerg := s.rack.emerg && s.rack.emergLeft.contains p.val
  let idle := (s.cellsOf p).all (fun c => (s.cell c).quiet)
  if !idle || !(emerg || (q.snap == 1 && q.quiesce)) then .next s
  else if emerg then .next (s.emergPart p)
  else if q.snapReset || s.fab.remounts.isEmpty then .next (s.endHalt p false)
  else .next (s.sendImage p)

/-- SNAP_STORED (R339 step 5, R353): a remount has the image, or met a memory error.
DEDUCED: log entry 68. -/
def execSnapStored (h : Hdr) (p : Pn) (step : Nat) (ok : Bool) (s : State) : Out :=
  s.receive h (fun s =>
    let q := s.part p
    if !q.sending || step != q.snapStep || !s.fab.remounts.contains h.src then s
    else
      let s := s.modPart p (fun q => { q with stored := insN h.src q.stored })
      if !ok || s.fab.remounts.all (fun n => (s.part p).stored.contains n) then
        ((s.endHalt p (ok && !q.snapReset)).modRack (fun r => { r with emergLeft := r.emergLeft.filter (fun x => x != 16 + p.val) })).emergEnd
      else s)

/-- SNAP_DONE (R339 step 7). -/
def execSnapDone (h : Hdr) (p : Pn) (step : Nat) (ok : Bool) (s : State) : Out :=
  s.receive h (fun s => if s.leaderOf p = s.fab.nodeId then s.memberDone p h.src step ok else s)

/-- SNAP_LEADER_TIMEOUT (R339 step 7): nothing heard for ten times the halt bound. -/
def execSnapLeaderTimeout (p : Pn) (s : State) : Out :=
  let q := s.part p
  match q.await_ with
  | none => .next s
  | some k => .next (if s.leaderOf p = s.fab.nodeId && decide (10 * s.haltBound p (s.snapSize p) ≤ ((s.time - q.planAt : Nat) : Rat)) then
      s.abortStep p k else s)

/-- SNAP_SECURED (R336, R339, R341): the image commits at a remount, the step is secured at a member. -/
def execSnapSecured (h : Hdr) (p : Pn) (step : Nat) (s : State) : Out := s.receive h (fun s => s.snapSecured p step)

/-- SNAP_ABORT (R339). -/
def execSnapAbort (h : Hdr) (p : Pn) (step : Nat) (s : State) : Out := s.receive h (fun s => s.snapAborted p step)

/-- SNAP_REQ (R343): a request reaches the leader. -/
def execSnapReq (h : Hdr) (p : Pn) (_cause : Nat) (s : State) : Out :=
  s.receive h (fun s => if s.leaderOf p = s.fab.nodeId then s.snapRequest p else s)

/-- SNAP_REQ_LAPSE (R343): a request that has not started within 10 s lapses, and the leader's plan is the regular one again. -/
def execSnapReqLapse (p : Pn) (s : State) : Out :=
  match (s.part p).reqAt with
  | none => .next s
  | some t =>
    if !s.passed t 10000000000 then .next s
    else
      let s := s.modPart p (fun q => { q with reqAt := none })
      .next (if s.leaderOf p = s.fab.nodeId && (s.part p).plan.isSome then s.planStep p (s.nextPlan p) else s)

end Sys2Proof.Machine
end

