-- ==== Sys2Proof/Machine/Membership.lean ====
section
/-! DEFINITION. Machine/Membership: HELLO negotiation (R296 to R299), reachability and loss (R315 to R319), epochs (R310 to
R314, R320, R323), joining (R321, R322, R328). -/

namespace Sys2Proof.Machine

/-! ### Outside every system -/

/-- Every RUNNING cell of every partition of a list stops as by a host STOP (R56). -/
def State.stopParts (s : State) (ps : List Nat) : State := ps.foldl (fun s p => eachN s (s.cellsOf p) (fun s c => s.stopCell c)) s

/-- The module is outside every system: it drops its group records and its cells stop, contents kept (R319). -/
def State.dropOut (s : State) : State :=
  let gs := (s.recs.filter (fun e => keyType e.1 == Ty.group)).map (fun e => e.1)
  let s := { s with recs := s.recs.filter (fun e => !gs.contains e.1) }
  let s := s.stopParts (List.range 16)
  let up := (List.range 24).any (fun k => (s.port k).st == 4)
  (List.range 16).foldl State.setLeader (s.modFab (fun f => { f with
    groups := [], inSystem := false, epoch := 0xFFFFFFFF, coord := 0xFFFF, members := [], prop := none, pendChg := [], deferred := none
    probes := [], suspects := [], lost := [], gatherAt := none, joinSent := false, joinAt := if up then some s.time else none
    locked := false, grand := 0xFFFF, ftSet := none, ftEpoch := none, fresh := false, remounts := [], asked := [] }))

/-- The minority state (R318): every partition that has joined a group stops, and its host is told. -/
def State.enterMinority (s : State) : State :=
  if s.fab.minority then s
  else
    let ps := (List.range 16).filter s.joined
    let s := (s.stopParts ps).modFab (fun f => { f with minority := true, prop := none, deferred := none, gatherAt := none })
    let s := (ps.foldl (fun s p => (s.modPart p (fun q => { q with minority := true })).event p 6 1 s.fab.epoch 0) s)
    (s.log 6 Db.minority s.fab.epoch).gcount GEv.membMinority 1

/-- Members this module can still reach, itself among them, without those declared lost.
DEDUCED: log entry 71. -/
def State.component (s : State) : List Nat :=
  s.fab.members.filter (fun n => !s.fab.lost.contains n && (n == s.fab.nodeId || s.reachable n))

/-- Quorum of R318: more than half of the members, or exactly half with the lowest node ID among them.
DEDUCED: log entry 71. -/
def State.quorum (s : State) : Bool :=
  let c := s.component.length
  let n := s.fab.members.length
  decide (n < 2 * c) || (2 * c == n && s.component.contains (s.fab.members.headD 0xFFFF))

/-! ### Fabric time's master (R324) -/

/-- Whether this module claims to be the grandmaster by PPS_IN. -/
def State.claims (s : State) : Bool := s.fld 0 Ty.membership 0 2 1 == 1 && s.fab.ppsValid

/-- The grandmaster as this module knows it: the lowest claimant by PPS_IN, else the coordinator; the module is LOCKED where it
is the grandmaster itself. -/
def State.chooseGrand (s : State) (announced : Nat) : State :=
  let me := s.fab.nodeId
  let other := if s.fab.members.contains announced then announced else s.fab.coord
  let g := if s.claims && (other == s.fab.coord || decide (me < other)) then me else if other = me && !s.claims then s.fab.coord else other
  s.modFab (fun f => { f with grand := g, locked := f.locked || g == me, slew := if g = me && f.grand != me then 0 else f.slew })

/-! ### Joining (R321) -/

/-- A module outside every system asks the coordinator its partner named, once it has locked fabric time. -/
def State.tryJoin (s : State) : State :=
  let f := s.fab
  if f.inSystem || f.joinSent || f.notLocked || !f.locked || f.left_ || s.rack.withdraw != 0 || !s.boot.ready || s.boot.degraded || s.boot.modFault then s
  else match (List.range 24).find? (fun k => (s.port k).st == 4 && (s.port k).epoch != 0xFFFFFFFF) with
    | none => s
    | some k => (s.send 0x14 (s.port k).coord [1, 1]).modFab (fun f => { f with joinSent := true })

/-- JOIN_LOCK_TIMEOUT (R321): not locked within 1 s of the first UP port. -/
def execJoinLockTimeout (s : State) : Out :=
  match s.fab.joinAt with
  | none => .next s
  | some t => .next (if !s.fab.inSystem && !s.fab.locked && s.passed t 1000000000 then
      s.modFab (fun f => { f with notLocked := true, joinAt := none }) else s)

/-- Two modules outside every system form one at epoch 0 (R321, R324). -/
def State.formSystem (s : State) (n : Nat) : State :=
  let me := s.fab.nodeId
  let s := s.modFab (fun f => { f with
    inSystem := true, epoch := 0, coord := min me n, members := insN me [n], minority := false, joinAt := none, joinSent := false
    notLocked := false, fresh := decide (n < me), grand := min me n, locked := decide (me < n) })
  let s := (List.range 16).foldl (fun s p => (s.modPart p (fun q => { q with minority := false })).setLeader p) s
  s.chooseRemounts

/-- A membership message or a HELLO shows that this module has been left behind, or that its system dissolves (R319, R322).
DEDUCED: log entry 72. -/
def State.leftBehind (s : State) : State := (s.enterMinority).dropOut.modFab (fun f => { f with minority := true })

/-- A port reaches UP (R301, R321, R322). -/
def State.portUp (s : State) (k : Nat) : State :=
  let s := ((s.modPort k (fun q => { q with st := 4 })).gcount GEv.fabLinkUp 1 [(4, k)]).linkState
  let q := s.port k
  let f := s.fab
  if !f.inSystem then
    let s := s.modFab (fun f => { f with joinAt := some (f.joinAt.getD s.time) })
    if f.left_ || s.rack.withdraw != 0 || !s.boot.ready || s.boot.degraded || s.boot.modFault then s
    else if q.epoch = 0xFFFFFFFF && !f.minority then s.formSystem q.pNode
    else s.tryJoin
  else if q.epoch = 0xFFFFFFFF then s
  else if q.coord = f.coord then
    if f.epoch < q.epoch then s.leftBehind else s
  else if f.minority || q.coord < f.coord then s.leftBehind
  else s

/-! ### Negotiation (R296 to R299) -/

/-- A port goes REFUSED with a cause: 1 VERSION, 2 NODE_CONFLICT (R298). -/
def State.refusePort (s : State) (k cause : Nat) (m : HelloMsg) : State :=
  ((s.modPort k (fun q => { q with st := 5, cause := cause })).gcount GEv.fabRefused 1 [(4, k)]).log 6 Db.portRefused (k + 256 * cause)
    [m.node, m.serial]

/-- HELLO (R296 to R299).
DEDUCED: log entry 104. -/
def execHello (pt : PortN) (m : HelloMsg) (s : State) : Out :=
  let q := s.port pt
  if q.st != 3 || q.cause != 0 then .next s
  else
    let s := s.modPort pt (fun q => { q with
      pPort := m.port, pFeed := m.feed, pNode := m.node, isa := m.isa, serial := m.serial, epoch := m.epoch, coord := m.coord, gotHello := true })
    let clash := m.node == s.fab.nodeId || (s.fab.members.contains m.node &&
      (s.directPorts m.node).any (fun k => (s.port k).serial != m.serial))
    if !(decide (m.verMin ≤ 1) && decide (1 ≤ m.verMax)) then .next (s.refusePort pt 1 m)
    else if clash then .next (s.refusePort pt 2 m)
    else
      let s := (s.modPort pt (fun q => { q with ver := 1, sentAck := true })).send 0x02 m.node (s.helloFields pt)
      .next (if (s.port pt).gotAck then s.portUp pt else s)

/-- HELLO_ACK (R296): the exchange is complete once both ends have acknowledged.
DEDUCED: log entry 69. -/
def execHelloAck (pt : PortN) (_m : HelloMsg) (s : State) : Out :=
  let q := s.port pt
  if q.st != 3 || q.cause != 0 then .next s
  else
    let s := s.modPort pt (fun q => { q with gotAck := true })
    .next (if q.gotHello && q.sentAck then s.portUp pt else s)

/-! ### Applying an epoch (R312 step 4) -/

/-- Reason classes of a change list, bit k for reason k (R311).
DEDUCED: log entry 42. -/
def reasonBits (chg : List Change) : Nat := ((List.range 6).map (fun k => if chg.any (fun c => c.1 == k) then 2 ^ k else 0)).sum

/-- Pending communication-group barriers and collectives end at an epoch change (R43, R240). -/
def State.endGroupWork (s : State) : State :=
  let s := eachN s (s.cells.map (fun e => e.1)) (fun s c =>
    let cl := s.cell c
    if cl.st == 2 && cl.wait.kind == 3 then s.precise c Fc.barrierAbandoned 0
    else match cl.flight.find? (fun f => f.unit == 6 && f.left == 1) with
      | some f => (s.faultAt c Fc.collective 2 f.pc f.word 0 6).count c Ev.collFail 1
      | none => s)
  s.modFab (fun f => { f with groups := f.groups.map (fun e => (e.1, { e.2 with colls := [] })) })

/-- Groups with a member on a lost node or a dark cell become SUSPENDED (R320). -/
def State.suspendGroups (s : State) (gone : List Nat) (dark : List (Nat × Nat)) : State :=
  (s.fab.groups.map (fun e => e.1)).foldl (fun s g =>
    if (s.groupMembers g).any (fun m => gone.contains m.1 || dark.contains m) then
      s.modGrp g (fun gr => { gr with st := 2, digests := [] }) else s) s

/-- Unacknowledged messages to lost nodes, and RECVs posted on them, end in a partner-loss fault (R59, R304).
DEDUCED: log entry 72. -/
def State.partnersLost (s : State) (gone : List Nat) : State :=
  eachN s (s.cells.map (fun e => e.1)) (fun s c =>
    let cl := s.cell c
    match (cl.sends ++ cl.recvs).find? (fun m => gone.contains m.node) with
    | none => s
    | some m =>
      let keep (l : List Msg) := l.filter (fun m => !gone.contains m.node)
      let s := s.modCell c (fun cl => { cl with sends := keep cl.sends, recvs := keep cl.recvs, msgStatus := msgWord m 2 })
      s.faultAt c Fc.partnerLoss 0 m.pc m.word 0 0)

/-- Recovery begins in every domain that has lost a member, and again where it already runs (R346, R353, R491).
DEDUCED: log entry 72. -/
def State.recover (s : State) (gone : List Nat) (dark : List (Nat × Nat)) (remountGone : Bool) : State :=
  s.domains.foldl (fun s p =>
    let q := s.part p
    let ms := s.members p (s.gateGroup p)
    let hit := ms.any (fun m => gone.contains m.1 || dark.contains m)
    let again := q.snap == 2 && q.restore != 5
    if hit || again || (remountGone && q.halting) then
      let old := if again then q.lostCells else []
      let nodes := firsts (gone.filter (fun n => ms.any (fun m => m.1 == n)) ++ (old.filter (fun e => !s.survives e.1)).map (fun e => e.1))
      let cells := dark.filter ms.contains ++ (old.filter (fun e => s.survives e.1)).map (fun e => (e.1, e.2.1))
      s.enterRestoring p nodes cells
    else s) s

/-- Group packets of the epoch just committed that came early are acted on (R310). -/
def State.playHeld (s : State) : State :=
  s.fab.groups.foldl (fun s e =>
    let s := s.modGrp e.1 (fun gr => { gr with held := [] })
    if (s.grp e.1).st == 2 then s
    else e.2.held.foldl (fun s m =>
      if m.1 = 0 then s.arriveAt e.1 m.2.1
      else if m.1 = 1 then s.releaseGroup e.1
      else if m.1 = 2 then s.takeColl e.1 (CollMsg.ofNats m.2.1 m.2.2)
      else s.tookNoPart e.1 m.2.1 (m.2.2.headD 1)) s) s

/-- The times of LOSS epochs in a domain, and the interval its leader sets (R341). -/
def State.noteLoss (s : State) (gone : List Nat) : State :=
  s.domains.foldl (fun s p =>
    if (s.members p (s.gateGroup p)).any (fun m => gone.contains m.1) then
      let s := s.modPart p (fun q => { q with lossTimes := q.lossTimes ++ [s.time] })
      if s.leaderOf p = s.fab.nodeId then s.modPart p (fun q => { q with interval := s.snapInterval p }) else s
    else s) s

/-- The members of a new epoch. -/
def State.newMembers (s : State) (chg : List Change) : List Nat :=
  let base := if s.fab.inSystem then s.fab.members
    else (s.fab.routes.map (fun e => e.1)).foldl (fun l n => insN n l) []
  let out := chg.filterMap (fun c => if c.1 = 0 || c.1 = 5 then some c.2.1 else none)
  ((chg.filterMap (fun c => if c.1 = 3 then some c.2.1 else none)).foldl (fun l n => insN n l) base).filter (fun n => !out.contains n)

/-- An epoch is committed on this module (R310 to R312, R319, R320).
DEDUCED: log entry 72. -/
def State.applyEpoch (s : State) (e : Nat) (chg : List Change) : State :=
  let me := s.fab.nodeId
  let pick (k : Nat) := chg.filter (fun c => c.1 == k)
  let lost := (pick 0).map (fun c => c.2.1)
  let gone := lost ++ (pick 5).map (fun c => c.2.1)
  let dark := (pick 1).map (fun c => (c.2.1, c.2.2))
  let ms := s.newMembers chg
  let remountGone := s.fab.remounts.any gone.contains
  let s := s.modFab (fun f => { f with
    inSystem := true, epoch := e, members := ms, coord := ms.headD 0xFFFF, minority := false, prop := none, deferred := none
    gatherAt := none, lost := f.lost.filter (fun n => !gone.contains n), suspects := f.suspects.filter (fun x => !gone.contains x.1)
    probes := f.probes.filter (fun x => !gone.contains x.1), joinAt := none, joinSent := false, notLocked := false
    pendChg := f.pendChg.filter (fun c => !chg.contains c) })
  let s := s.chooseGrand s.fab.grand
  let s := (s.endGroupWork.dropDigests.suspendGroups gone dark).partnersLost gone
  -- spares of this module take their numbers (R17, R18)
  let s := ((pick 2 ++ pick 4).filter (fun c => c.2.1 == me)).foldl (fun s c => s.spareMove c.2.2) s
  let s := (List.range 16).foldl (fun s p => (s.modPart p (fun q => { q with minority := false })).setLeader p) s
  let s := s.noteLoss lost
  let s := s.chooseRemounts
  let s := if gone.isEmpty && dark.isEmpty then s else s.recover gone dark remountGone
  let s := (List.range 16).foldl (fun s p => s.event p 6 0 e (reasonBits chg)) s
  let s := s.log 6 Db.epochCommit e (reasonBits chg :: (chg.map (fun c => c.2.1)).take 3)
  let s := s.gcount GEv.membEpoch 1 ((chg.map (fun c => (7, c.1))))
  let s := s.playHeld
  if (pick 5).any (fun c => c.2.1 == me) then
    ((s.dropOut).modFab (fun f => { f with left_ := true })).modRack (fun r => { r with withdraw := 0 })
  else if lost.contains me then (s.dropOut).modFab (fun f => { f with minority := true })
  else s

/-! ### Proposals (R312 to R314) -/

/-- A change of class IMMEDIATE: LOSS, CAPACITY, DARK_SPARE (R311). -/
def immediate (chg : List Change) : Bool := chg.any (fun c => decide (c.1 ≤ 2))

/-- The commit is flooded once every member that is not declared lost has acknowledged. -/
def State.tryCommit (s : State) : State :=
  match s.fab.prop with
  | none => s
  | some k =>
    if (s.fab.members.filter (fun n => !s.fab.lost.contains n)).all k.acks.contains then
      (s.send 0x13 0xFFFF (k.epoch :: k.changes.flatMap (fun c => [c.1, c.2.1, c.2.2]))).applyEpoch k.epoch k.changes
    else s

/-- The coordinator sends a proposal; its own acknowledgement follows the same rule as a member's. -/
def State.sendProposal (s : State) (chg : List Change) : State :=
  let e := s.fab.epoch + 1
  if e = 0xFFFFFFFF then
    (List.range 16).foldl (fun s p => s.event p 6 (Config.hostCause 30) s.fab.epoch 0) (s.modFab (fun f => { f with prop := none, pendChg := [] }))
  else
    let k : Proposal := { epoch := e, changes := chg, acks := if immediate chg then [s.fab.nodeId] else [], at_ := s.time }
    let s := s.send 0x11 0xFFFF (e :: chg.flatMap (fun c => [c.1, c.2.1, c.2.2]))
    (s.modFab (fun f => { f with prop := some k, deferred := if immediate chg then none else some k })).tryCommit

/-- The coordinator proposes what is pending (R313). -/
def State.propose (s : State) : State :=
  if !s.fab.inSystem || s.fab.coord != s.fab.nodeId || s.fab.minority then s
  else
    let ready := s.fab.gatherAt.isNone
    let all := (if ready then s.fab.lost.map (fun n => (0, n, 0)) else []) ++
      s.fab.pendChg.filter (fun c => !(c.1 == 3 && s.fab.lost.contains c.2.1))
    match s.fab.prop with
    | none => if all.isEmpty then s else s.sendProposal all
    | some k =>
      if immediate k.changes then
        if all.any (fun c => c.1 == 0 && !k.changes.contains c) then s.sendProposal (all ++ k.changes.filter (fun c => !all.contains c)) else s
      else if immediate all then s.sendProposal (all ++ k.changes.filter (fun c => !all.contains c))
      else s

/-- What follows a commit at the coordinator: changes that waited are proposed.
DEDUCED: log entry 73. -/
def State.commitEpoch (s : State) (e : Nat) (chg : List Change) : State := (s.applyEpoch e chg).propose

/-! ### Reachability (R315 to R318) -/

/-- Whom SUSPECT goes to: the coordinator, or the lowest member still reached where it is the suspect (R315). -/
def State.suspectTo (s : State) (n : Nat) : Nat :=
  if n = s.fab.coord then (s.component.filter (fun m => m != n)).headD 0xFFFF else s.fab.coord

/-- The coordinator declares a node lost on SUSPECT from two distinct members, its own failed probe counting as one (R317). -/
def State.declare (s : State) (n : Nat) : State :=
  let own := match tfind s.fab.probes n with | some p => if p.suspected then [s.fab.nodeId] else [] | none => []
  let w := firsts ((s.fab.suspects.filter (fun x => x.1 == n)).map (fun x => x.2) ++ own)
  if 2 ≤ w.length && s.fab.members.contains n && !s.fab.lost.contains n then
    s.modFab (fun f => { f with lost := insN n f.lost, gatherAt := some (f.gatherAt.getD s.time) })
  else s

/-- A membership message from a system that has gone on without this module (R319). -/
def State.behind (s : State) (h : Hdr) : Bool := s.fab.inSystem && h.epoch != 0xFFFFFFFF && decide (s.fab.epoch + 1 < h.epoch)

/-- PING (R316). -/
def execPing (h : Hdr) (s : State) : Out := s.receive h (fun s => s.send 0x05 h.src [])

/-- PONG (R316, R323): probing and suspicion end. -/
def execPong (h : Hdr) (s : State) : Out :=
  s.receive h (fun s => s.modFab (fun f => { f with
    probes := tdel f.probes h.src, suspects := if f.lost.contains h.src then f.suspects else f.suspects.filter (fun x => x.1 != h.src) }))

/-- PING_TIMER (R316): every 1 ms, a PING to each node probed; 1 ms without a PONG makes it unreachable. -/
def execPingTimer (s : State) : Out :=
  let s := s.fab.probes.foldl (fun s e => s.send 0x04 e.1 []) s
  .next (s.modFab (fun f => { f with probes := f.probes.map (fun e => (e.1, { e.2 with unreach := e.2.unreach || s.passed e.2.lastPong 1000000 })) }))

/-- LOSS_TIMEOUT (R316): it has run since probing began, and the node is unreachable; a coordinator without a quorum stops
(R318, R497). -/
def execLossTimeout (n : Nat) (s : State) : Out :=
  match tfind s.fab.probes n with
  | none => .next s
  | some p =>
    if p.suspected || !p.unreach || !s.passed p.since (s.fld 0 Ty.membership 0 0 2 * 1000000) then .next s
    else
      let s := s.modFab (fun f => { f with probes := tins f.probes n { p with suspected := true } })
      let to_ := s.suspectTo n
      if to_ = s.fab.nodeId then .next (if s.quorum then s.declare n else s.enterMinority)
      else .next ((s.send 0x10 to_ [n]).gcount GEv.fabSuspectSent 1)

/-- SUSPECT (R317): a witness reports. -/
def execSuspect (h : Hdr) (n : Nat) (s : State) : Out :=
  s.receive h (fun s =>
    if s.behind h then s.leftBehind
    else if s.fab.inSystem && s.fab.members.contains h.src && s.suspectTo n = s.fab.nodeId then
      (s.modFab (fun f => { f with suspects := if f.suspects.contains (n, h.src) then f.suspects else f.suspects ++ [(n, h.src)] })).declare n
    else s)

/-- SUSPECT_GATHER_END (R317, R318): 1 ms after the first declaration, one LOSS epoch, if the component keeps a quorum. -/
def execSuspectGatherEnd (s : State) : Out :=
  match s.fab.gatherAt with
  | none => .next s
  | some t =>
    if !s.passed t 1000000 || s.fab.coord != s.fab.nodeId then .next s
    else if !s.quorum then .next s.enterMinority
    else .next ((s.modFab (fun f => { f with gatherAt := none })).propose)

/-- COORDINATOR_LOST (R315, R318): the lowest member still reached is the coordinator from here on; without a quorum the module
stops.
DEDUCED: log entry 71. -/
def execCoordinatorLost (s : State) : Out :=
  match tfind s.fab.probes s.fab.coord with
  | none => .next s
  | some p =>
    if !p.unreach || !s.passed p.since (s.fld 0 Ty.membership 0 0 2 * 1000000) || s.fab.minority then .next s
    else
      let old := s.fab.coord
      let c := s.suspectTo old
      if !s.quorum then .next s.enterMinority
      else
        let s := s.modFab (fun f => { f with coord := c, probes := tins f.probes old { p with suspected := true }, deferred := none })
        if c = s.fab.nodeId then .next (s.declare old)
        else .next (if p.suspected then s else (s.send 0x10 c [old]).gcount GEv.fabSuspectSent 1)

/-! ### The epoch messages (R312, R313) -/

/-- EPOCH_PROPOSE (R312): an IMMEDIATE proposal is acknowledged at once, a DEFERRED one when no cell waits. -/
def execEpochPropose (h : Hdr) (e : Nat) (chg : List Change) (s : State) : Out :=
  s.receive h (fun s =>
    if s.fab.inSystem && decide (s.fab.epoch + 1 < e) then s.leftBehind
    else if !s.fab.inSystem || e != s.fab.epoch + 1 || !s.fab.members.contains h.src || s.fab.minority then s
    else
      let s := s.modFab (fun f => { f with coord := h.src })
      if immediate chg then (s.modFab (fun f => { f with deferred := none })).send 0x12 h.src [e]
      else s.modFab (fun f => { f with deferred := some { Proposal.reset with epoch := e, changes := chg, at_ := s.time } }))

/-- Whether some cell waits in a communication-group BARRIER or a collective. -/
def State.groupWaits (s : State) : Bool :=
  s.cells.any (fun e => (e.2.st == 2 && e.2.wait.kind == 3) || e.2.flight.any (fun f => f.unit == 6 && f.left == 1))

/-- DEFERRED_ACK_TEST (R312): every 10 µs; JOIN_HOLD ends the waiting. -/
def execDeferredAckTest (s : State) : Out :=
  match s.fab.deferred with
  | none => .next s.propose
  | some k =>
    if s.groupWaits && !s.passed k.at_ (s.fld 0 Ty.membership 0 4 4 * 1000000) then .next s
    else
      let s := s.modFab (fun f => { f with deferred := none })
      if s.fab.coord = s.fab.nodeId then
        .next ((s.modFab (fun f => { f with prop := f.prop.map (fun k => { k with acks := insN f.nodeId k.acks }) })).tryCommit.propose)
      else .next (s.send 0x12 s.fab.coord [k.epoch])

/-- EPOCH_ACK (R312 step 3). -/
def execEpochAck (h : Hdr) (e : Nat) (s : State) : Out :=
  s.receive h (fun s =>
    match s.fab.prop with
    | none => s
    | some k =>
      if k.epoch != e then s
      else (s.modFab (fun f => { f with prop := some { k with acks := insN h.src k.acks } })).tryCommit.propose)

/-- IMMEDIATE_ACK_TIMEOUT (R313): members silent for 5 ms become suspects. -/
def execImmediateAckTimeout (s : State) : Out :=
  match s.fab.prop with
  | none => .next s
  | some k =>
    if !immediate k.changes || !s.passed k.at_ 5000000 then .next s
    else .next ((s.fab.members.filter (fun n => !k.acks.contains n && !s.fab.lost.contains n)).foldl (fun s n =>
      let s := s.startProbe n
      (s.modFab (fun f => { f with suspects := if f.suspects.contains (n, f.nodeId) then f.suspects else f.suspects ++ [(n, f.nodeId)] })).declare n) s)

/-- EPOCH_COMMIT (R312 steps 4 and 5). -/
def execEpochCommit (h : Hdr) (e : Nat) (chg : List Change) (s : State) : Out :=
  s.receive h (fun s =>
    let join := chg.any (fun c => c.1 == 3 && c.2.1 == s.fab.nodeId)
    if s.fab.inSystem then
      if e = s.fab.epoch + 1 && e != 0xFFFFFFFF then s.commitEpoch e chg
      else if s.fab.epoch + 1 < e then s.leftBehind
      else s
    else if join then s.applyEpoch e chg
    else s)

/-- JOIN_REQ (R321, R328).
DEDUCED: log entry 104. -/
def execJoinReq (h : Hdr) (lo hi : Nat) (s : State) : Out :=
  s.receive h (fun s =>
    if !s.fab.inSystem || s.fab.coord != s.fab.nodeId || s.fab.members.contains h.src then s
    else if s.fab.sysVer < lo || hi < s.fab.sysVer then s.log 6 Db.joinRefused h.src [1]
    else (s.modFab (fun f => { f with pendChg := if f.pendChg.contains (3, h.src, 0) then f.pendChg else f.pendChg ++ [(3, h.src, 0)] })).propose)

/-- LEAVE_REQ (R311, R344): an orderly withdrawal, or with URGENT a declaration of loss. -/
def execLeaveReq (h : Hdr) (urgent : Bool) (s : State) : Out :=
  s.receive h (fun s =>
    let n := h.src
    if !s.fab.inSystem || s.fab.coord != s.fab.nodeId || !s.fab.members.contains n then s
    else if urgent then
      s.modFab (fun f => { f with
        lost := insN n f.lost, gatherAt := some (f.gatherAt.getD s.time), pendChg := f.pendChg.filter (fun c => c != (5, n, 0)) })
    else (s.modFab (fun f => { f with pendChg := if f.pendChg.contains (5, n, 0) then f.pendChg else f.pendChg ++ [(5, n, 0)] })).propose)

end Sys2Proof.Machine
end

