-- ==== Sys2Proof/Machine/Power.lean ====
section
/-! DEFINITION. Machine/Power: the governor (R24 to R28), input limits (R392), regulators, joints and converters (R393 to
R395, R404, R405), region states and switch-on (R396 to R402), gaits, droop and islands (R406 to R413), bridges (R13).
Currents are in mA, voltages in mV unless a name says otherwise, temperatures in 1/64 °C. -/

namespace Sys2Proof.Machine

/-! ### Places -/

/-- Grid neighbours of a cell region, of any zone (R400). -/
def gridNeighbours (r : Nat) : List Nat :=
  let p := r % 272
  let b := r - p
  (if 16 ≤ p then [b + p - 16] else []) ++ (if p + 16 < 272 then [b + p + 16] else []) ++
    (if p % 16 != 0 then [b + p - 1] else []) ++ if p % 16 != 15 then [b + p + 1] else []

/-- Zone of a region (R391). -/
def zoneOf (r : Nat) : Nat := r % 16 / 4

/-- Region index, in the numbers of R516, of periphery pair k of R390. -/
def periRegion (k : Nat) : Nat := if k < 28 then 272 + k / 2 else 258 + k

/-- Region, in the numbers of R516, of a pair of a die. -/
def pairRegion (d pr : Nat) : Nat := d * 512 + if pr < 272 then pr else periRegion (pr - 272)

/-- Key under which the health of a pair is kept among the physical regions: a cell region's own, or one beyond them. -/
def pairKey (d pr : Nat) : Nat := if pr < 272 then d * 272 + pr else 1088 + d * 32 + (pr - 272)

/-! ### What falls with the converters (R392, R443, R545) -/

/-- A crossbar without power: its conductances, wear and calibration factors stay, and it starts STALE (R385, R443).
DEDUCED: log entry 79. -/
def Xbar.cold (b : Xbar) : Xbar :=
  { Xbar.reset with
    cond := b.cond, wear := b.wear, wearWarned := b.wearWarned, gain := b.gain, off := b.off, trim := b.trim, rowf := b.rowf
    tc := b.tc, tCal := b.tCal, sigma := b.sigmaCal, sigmaT := b.sigmaT, sigmaCal := b.sigmaCal, slope := b.slope, drillMark := b.drillMark }

/-- A region without power.
DEDUCED: log entry 79. -/
def Phys.cold (p : Phys) : Phys :=
  { Phys.reset with
    regA := p.regA, regB := p.regB, jointDerate := p.jointDerate, trimG := p.trimG, baseR := p.baseR, quar := p.quar
    repairMark := p.repairMark, calCount := p.calCount, xb := p.xb.map (fun e => (e.1, e.2.cold)) }

/-- A die without power. -/
def Die.cold (d : Die) : Die :=
  { Die.reset with
    chOff := d.chOff, chGain := d.chGain, chA := d.chA, chB := d.chB, sensFail := d.sensFail, vcFail := d.vcFail, periph := d.periph }

/-- The vertical and memory converters stop: module memory and every volatile state outside the groom and the host interface are
lost, conductances are kept (R392). -/
def State.dropMain (s : State) : State :=
  { s with
    cells := [], parts := [], mem := [], badMem := [], gctr := [], fab := Fab.reset
    phys := s.phys.map (fun e => (e.1, e.2.cold)), dies := s.dies.map (fun e => (e.1, e.2.cold))
    pow := { Pow.reset with aux := s.pow.aux, latchedOff := s.pow.latchedOff, vin := s.pow.vin, iin := s.pow.iin, auxFail := s.pow.auxFail
                            memFail := s.pow.memFail }
    rack := { Rack.reset with latch := s.rack.latch, latchAt := s.rack.latchAt }
    boot := { s.boot with running := false, held := false, ready := false, resetStage := 0, resetHeld := false, modFault := false, faultCause := 0
                          refin := false, memFault := false } }

/-- The groom asks for service (R395, R474).
DEDUCED: log entry 97. -/
def State.askService (s : State) (arg : Nat) : State := (s.modGroom (fun g => { g with service := true })).platform 2 arg

/-- A module fault with cause POWER or SENSING (R395, R430): every partition stops and the module leaves the system, as in a
module reset; under POWER a ready module shows PWR_DEGRADED and asks for service.
DEDUCED: log entry 78. -/
def State.powerFault (s : State) (cause unit : Nat) : State :=
  let s := (s.moduleFault cause unit).stopParts (List.range 16)
  let s := if cause = 1 && s.boot.ready then (s.modBoot (fun b => { b with degraded := true })).askService unit else s
  if s.fab.inSystem then s.dropOut else s

/-! ### The governor (R24 to R27) -/

/-- GOV_SAMPLE (R24, R392): input voltage (10 mV) and current (10 mA) every 10 µs; a warned excursion ends inside 40 to 48 V. -/
def execGovSample (vin iin : Nat) (s : State) : Out :=
  if !s.pow.main then .next s
  else .next (s.modPow (fun w => { w with
    vin := vin, iin := iin, sum := w.sum + vin * iin / 10000, n := w.n + 1, limit := s.govLimit vin
    ovWarn := w.ovWarn && decide (4800 < vin), uvWarn := w.uvWarn && decide (vin < 4000) }))

/-- Every cell that runs enters a stall-slot state (R25, R502). -/
def State.stallEdge (s : State) : State :=
  eachN s ((s.cells.filter (fun e => e.2.st == 2)).map (fun e => e.1)) (fun s c => s.countEdge c Ev.govStall)

/-- GOV_WINDOW (R25, R26): the window's mean against the limit in force.  Above it, the ceiling falls by one step, and below WALK
stall slots enter digital and vector issue, then analogue issue; a window within the limit ends them.
DEDUCED: log entry 77. -/
def execGovWindow (s : State) : Out :=
  let w := s.pow
  if w.n = 0 then .next s
  else
    let mean := w.sum / w.n
    let s := s.modPow (fun w => { w with power := mean, sum := 0, n := 0 })
    if w.limit < mean then
      if 0 < w.ceil then .next (s.modPow (fun w => { w with ceil := w.ceil - 1, below := 0 }))
      else
        let t := s.modPow (fun w => { w with stall := min (w.stall + 1) 2, below := 0 })
        .next (if w.stall = 0 then t.stallEdge else t)
    else .next (s.modPow (fun v => { v with stall := 0, below := if 100 * mean < 95 * v.limit then min (v.below + 1) 10 else 0 }))

/-- GOV_CEILING_RAISE (R26). -/
def execGovCeilingRaise (s : State) : Out :=
  .next (if 10 ≤ s.pow.below && s.pow.ceil < 3 then s.modPow (fun w => { w with ceil := w.ceil + 1, below := 0 }) else s)

/-- OVERCURRENT_STALL (R27): above 95 A for 20 µs. -/
def execOvercurrentStall (iin : Nat) (s : State) : Out :=
  if iin ≤ 9500 || s.pow.overcur || !s.pow.main then .next s
  else .next ((s.modPow (fun w => { w with overcur := true })).log 0 Db.overcurrent iin)

/-- OVERCURRENT_RELEASE (R27): below 90 A. -/
def execOvercurrentRelease (iin : Nat) (s : State) : Out :=
  .next (if s.pow.overcur && iin < 9000 then s.modPow (fun w => { w with overcur := false }) else s)

/-! ### Input limits (R392) -/

/-- INPUT_OVERVOLTAGE: above 50.0 V for 1 µs the converters stop until a power cycle; above 60 V nothing is defined (R546).
DEDUCED: log entry 4. -/
def execInputOvervoltage (vin : Nat) (s : State) : Out :=
  if 6000 < vin then .fault .stressBeyondLimit
  else if vin ≤ 5000 || !s.pow.aux || (s.pow.latchedOff && (!s.groom.trip || s.pow.ovWarn)) then .next s
  else
    let s := s.dropMain.modPow (fun w => { w with latchedOff := true, ovWarn := true, vin := vin })
    .next ((s.log 0 Db.inputOvStop vin).platform 3 vin)

/-- INPUT_OV_WARN: 48.0 to 50.0 V, one warning an excursion. -/
def execInputOvWarn (vin : Nat) (s : State) : Out :=
  if vin ≤ 4800 || 5000 < vin || s.pow.ovWarn || !s.pow.main then .next s
  else .next (((s.modPow (fun w => { w with ovWarn := true, vin := vin })).log 0 Db.inputWarn vin [0]).gcount GEv.pwrInputOv 1)

/-- INPUT_UNDERVOLTAGE: 36.0 to 40.0 V lowers the limit, one warning an excursion. -/
def execInputUndervoltage (vin : Nat) (s : State) : Out :=
  if vin < 3600 || 4000 ≤ vin || !s.pow.main then .next s
  else
    let t := s.modPow (fun w => { w with vin := vin, limit := s.govLimit vin, uvWarn := true })
    .next (if s.pow.uvWarn then t else (t.log 0 Db.inputWarn vin [1]).gcount GEv.pwrInputUv 1)

/-- POWER_FAIL_HOLD: below 36.0 V for 20 µs sequencers stall, write engines pause after their row, no switch-on starts. -/
def execPowerFailHold (vin : Nat) (s : State) : Out :=
  .next (if vin < 3600 && !s.pow.hold && s.pow.main then s.modPow (fun w => { w with hold := true, holdAt := s.time, vin := vin }) else s)

/-- POWER_FAIL_RELEASE: above 38.0 V again within 30 ms; writes go on from the next row. -/
def execPowerFailRelease (vin : Nat) (s : State) : Out :=
  if !s.pow.hold || vin ≤ 3800 || s.time > s.pow.holdAt + 30000000 then .next s
  else
    let s := s.modPow (fun w => { w with hold := false, vin := vin })
    .next { s with cells := s.cells.map (fun e => (e.1, { e.2 with wq := e.2.wq.map (fun j => { j with paused := false }) })) }

/-- INPUT_COLLAPSE: below 33.0 V the converters stop. -/
def execInputCollapse (vin : Nat) (s : State) : Out :=
  .next (if vin < 3300 && s.pow.aux && (s.pow.main || s.boot.running) then s.dropMain.modPow (fun w => { w with vin := vin }) else s)

/-! ### Gaits (R28, R406, R407, R412) -/

/-- Nominal rail of a gait, mV. -/
def nominalRail (g : Nat) : Int := if g = 0 then 550 else if g = 1 then 620 else if g = 2 then 700 else 780

/-- Rail of a region at a gait with its factory trim (R406). -/
def State.railOf (s : State) (r g : Nat) : Nat := (clampI 500 820 (nominalRail g + tget (s.phy r).trimG g 0)).toNat

/-- Whether a region's rail is frozen: switching on, self-calibrating, or under a sense fault (R412). -/
def State.frozen (s : State) (r : Nat) : Bool :=
  let p := s.phy r
  decide (2 ≤ p.swStage) || p.sense || (p.rst == 0 && p.xb.any (fun e => e.2.selfCal))

/-- Whether a rail fits every frozen neighbour that is ON within 0.30 V (R22, R412, N20). -/
def State.railFits (s : State) (r mv : Nat) : Bool :=
  (gridNeighbours r).all (fun n => (s.phy n).rst != 0 || !s.frozen n || (decide (mv ≤ (s.phy n).rail + 300) && decide ((s.phy n).rail ≤ mv + 300)))

/-- Whether a record's slots in the tack store are both invalid (R441).
DESIGN CHOICE: log entry 85. -/
def State.badSlots (s : State) (ty inst : Nat) : Bool :=
  match tfind s.store (recKey 0 ty inst) with
  | some t => t.a.isNone && t.b.isNone
  | none => false

/-- The inputs of R28 but the neighbour limits, each with its CEIL_CAUSE code.
DEDUCED: log entry 77. -/
def State.gaitInputs (s : State) (r : Nat) : List (Nat × Nat) :=
  let p := s.phy r
  let q := (s.cellOf r).map s.owner
  let sel := match q with | some k => s.mode k 3 1 | none => 4
  let bound := match q with | some k => s.mode k 4 1 | none => 3
  let weak := p.regA || p.regB || s.badSlots Ty.regulatorHealth (r / 272)
  [(if sel < 4 then sel else p.policyGait, 0), (bound, 1),
   (if 2 ≤ tget (s.die (r / 272)).vcFail (zoneOf r) 0 then 0 else s.pow.ceil, 2), (if weak then 2 else 3, 3),
   (if p.sense then 2 else 3, 5), (3 - min 3 (b2n p.jointDerate + b2n p.droopDerate + b2n p.tempSplit), 6)]

/-- The gait a region should run at, and the input that binds: the lowest code among those equal to the lowest gait (R28). -/
def State.gaitWant (s : State) (r : Nat) : Nat × Nat :=
  let ins := s.gaitInputs r
  let g := (ins.map (fun e => e.1)).foldl min 3
  let cap := ((List.range (g + 1)).reverse.find? (fun k => s.railFits r (s.railOf r k))).getD 0
  let m := min g cap
  let codes := (ins.filter (fun e => e.1 == m)).map (fun e => e.2) ++ if cap = m && cap < g then [4] else []
  (m, codes.foldl min 7)

/-- A neighbour's rail raised to within 0.30 V of a rail, at its unchanged clock (R412). -/
def State.bridgeRails (s : State) (r mv : Nat) : State :=
  (gridNeighbours r).foldl (fun s n =>
    let q := s.phy n
    if q.rst = 0 && !s.frozen n && q.rail + 300 < mv then
      let s := s.modPhy n (fun q => { q with rail := mv - 300, raised := true })
      match s.cellOf r with
      | some c => s.count c Ev.islBridge 1
      | none => s
    else s) s

/-- Least rail a region may take beside its neighbours that are ON. -/
def State.railFloor (s : State) (r : Nat) : Nat :=
  ((gridNeighbours r).filter (fun n => (s.phy n).rst == 0)).foldl (fun m n => max m ((s.phy n).rail - 300)) 0

/-- A region's rail at its gait, no lower than its neighbours allow (R412). -/
def State.settleRail (s : State) (r : Nat) : State :=
  let own := s.railOf r (s.phy r).gait
  let low := s.railFloor r
  s.modPhy r (fun p => { p with rail := max own low, raised := decide (own < low) })

/-- GAIT_CHANGE (R28, R407, R412): a new target; upward the rail slews first. -/
def execGaitChange (r : Rid) (g : Fin 4) (s : State) : Out :=
  let p := s.phy r
  let w := s.gaitWant r
  let from_ := if p.ramp then p.target else p.gait
  if p.rst != 0 || w.1 != g.val || from_ = g.val then .next s
  else
    let s := s.modPhy r (fun p => { p with target := g, ramp := true, cause := w.2 })
    let s := match s.cellOf r with
      | none => s
      | some c =>
        let s := if w.2 = 4 then s.count c Ev.islNeighbourCap 1 else s
        let sel := s.mode (s.owner c) 3 1
        if sel < 4 && g.val < sel && g.val < from_ then s.logC c Db.gaitLowered w.2 [g.val] else s
    if p.gait < g.val then
      let mv := s.railOf r g
      .next ((s.bridgeRails r mv).modPhy r (fun p => { p with rail := max p.rail mv }))
    else .next s

/-- GAIT_CLOCK_SWITCH (R407, R414): the clock switches at a boundary, not during a droop stretch; rails raised for this region fall
back as far as they may. -/
def execGaitClockSwitch (r : Rid) (s : State) : Out :=
  let p := s.phy r
  if !p.ramp || p.stretch || p.rst != 0 then .next s
  else
    let s := (s.modPhy r (fun p => { p with gait := p.target, ramp := false })).settleRail r
    .next ((gridNeighbours r).foldl (fun s n => if (s.phy n).raised && (s.phy n).rst = 0 && !s.frozen n then s.settleRail n else s) s)

/-- Whether the logical cell of a region counts an event. -/
def State.countR (s : State) (r ev n : Nat) : State :=
  match s.cellOf r with
  | some c => s.count c ev n
  | none => s

/-- DROOP_STRETCH (R408): below 96 % of its target a rail makes the island skip clocks, until it is above 97 % again. -/
def execDroopStretch (r : Rid) (mv : Nat) (s : State) : Out :=
  let p := s.phy r
  if p.rst != 0 then .next s
  else if !p.stretch && 100 * mv < 96 * p.rail then
    .next ((s.modPhy r (fun p => { p with stretch := true, stretchAt := s.time })).countR r Ev.droopStretch 1)
  else if p.stretch && 97 * p.rail < 100 * mv then .next (s.modPhy r (fun p => { p with stretch := false }))
  else .next s

/-- DROOP_DERATE (R408): after 10 µs of stretching the ceiling falls by one step for 1 ms. -/
def execDroopDerate (r : Rid) (s : State) : Out :=
  let p := s.phy r
  if p.stretch && !p.droopDerate && s.passed p.stretchAt 10000 then
    .next ((s.modPhy r (fun p => { p with droopDerate := true, droopUntil := s.time + 1000000 })).countR r Ev.droopDerate 1)
  else .next s

/-- DROOP_DERATE_END (R408). -/
def execDroopDerateEnd (r : Rid) (s : State) : Out :=
  .next (if (s.phy r).droopDerate && s.passed (s.phy r).droopUntil 0 then s.modPhy r (fun p => { p with droopDerate := false }) else s)

/-- TEMP_SPLIT (R413): neighbouring islands, in the numbers of R516, differ by more than 30 °C.
DEDUCED: log entry 80. -/
def execTempSplit (hot cold : Nat) (diff : Int) (s : State) : Out :=
  let r := hot / 512 * 272 + hot % 512
  let cell := decide (hot % 512 < 272) && decide (hot < 2048)
  if diff ≤ 1920 || (cell && (s.phy r).tempSplit) then .next s
  else
    let s := s.log (1 + hot / 512) Db.tempSplit (hot + 65536 * cold) [diff.toNat]
    if !cell then .next s
    else
      let s := (s.modPhy r (fun p => { p with tempSplit := true, splitOkAt := 0 })).countR r Ev.islTempSplit 1
      .next ((List.range 9).foldl (fun s x => if (s.xbar r x).st = 3 then s else s.requestCal 2 r x 0) s)

/-- TEMP_SPLIT_CLEAR (R413): the ceiling returns after 10 ms at or below 25 °C. -/
def execTempSplitClear (r : Rid) (diff : Int) (s : State) : Out :=
  let p := s.phy r
  if !p.tempSplit then .next s
  else if 1600 < diff then .next (s.modPhy r (fun p => { p with splitOkAt := 0 }))
  else if p.splitOkAt = 0 then .next (s.modPhy r (fun p => { p with splitOkAt := s.time + 1 }))
  else if s.passed p.splitOkAt 9999999 then .next (s.modPhy r (fun p => { p with tempSplit := false, splitOkAt := 0 }))
  else .next s

/-! ### Failures (R13, R393 to R395, R404, R405) -/

/-- A bridge end has failed; two failed bridges are a module fault (R13). -/
def State.bridgeFail (s : State) (d e : Nat) : State :=
  let link (k : Nat) : Nat := if k % 2 = 0 then k / 2 else (k / 2 + 3) % 4
  if tget s.fab.bridges (2 * d + e) false then s
  else
    let s := (s.modFab (fun f => { f with bridges := tset f.bridges (2 * d + e) true false })).log (1 + d) Db.bridgeFault (d + 256 * e)
    let bad := firsts (s.fab.bridges.map (fun x => link x.1))
    if 2 ≤ bad.length && !s.boot.modFault then s.moduleFault 4 (2 * d + e) else s

/-- BRIDGE_FAIL (R13).
DEDUCED: log entry 80. -/
def execBridgeFail (d : DieN) (e : Fin 2) (s : State) : Out := .next (s.bridgeFail d e)

/-- A flag of the regulator health record, and its write to the tack store (R394, R405). -/
def State.markHealth (s : State) (d pr k : Nat) : State :=
  let f := s.fld 0 Ty.regulatorHealth d (8 * pr) 1
  (s.setFld 0 Ty.regulatorHealth d (8 * pr) 1 (if bit f k then f else f + 2 ^ k)).askWrite Ty.regulatorHealth d

/-- A cell region without power: its cell is dark, a spare under way is given up for another, an idle spare stays OFF (R395). -/
def State.regionDark (s : State) (r : Nat) : State :=
  match s.cellOf r with
  | some c => s.cellLoss c
  | none =>
    let s := s.modPhy r (fun p => { p with rst := 2, want := 3, swStage := 0 })
    match s.cells.find? (fun e => e.2.subst == r + 1) with
    | some e => s.nextSpare e.1
    | none => s

/-- Both regulators of a pair have failed (R395). -/
def State.pairLost (s : State) (d pr : Nat) : State :=
  if pr < 272 then s.regionDark (d * 272 + pr)
  else
    let k := pr - 272
    if k < 16 || k = 28 || k = 29 then s.powerFault 1 (pairRegion d pr)
    else if k < 28 then (let pt := d * 6 + (k - 16) / 2
                         if 2 ≤ (s.port pt).st then s.portDown pt else s)
    else s.bridgeFail d (k - 30)

/-- REGULATOR_FAIL (R394, R395, R414): the controller isolates a regulator. -/
def execRegulatorFail (d : DieN) (pr : Fin 304) (b : Bool) (why : Nat) (s : State) : Out :=
  let k := pairKey d pr
  let p := s.phy k
  if (if b then p.regB else p.regA) then .next s
  else
    let s := s.modPhy k (fun p => { p with
      regA := p.regA || !b, regB := p.regB || b, stretched := p.stretched || decide (2 ≤ p.swStage), swStage := if 2 ≤ p.swStage then 0 else p.swStage })
    let s := ((s.markHealth d pr (b2n b)).gcount GEv.pwrRegFail 1)
    let s := if pr.val < 272 then s.logR (d * 272 + pr) Db.regFail (b2n b + 2 * pairRegion d pr) [why]
      else s.log (1 + d) Db.regFail (b2n b + 2 * pairRegion d pr) [why]
    let p := s.phy k
    .next (if p.regA && p.regB then s.pairLost d pr else s)

/-- SENSE_FAULT (R393): the sense voltage leaves 0.30 to 1.00 V. -/
def execSenseFault (d : DieN) (pr : Fin 304) (mv : Nat) (s : State) : Out :=
  let k := pairKey d pr
  if (300 ≤ mv && mv ≤ 1000) || (s.phy k).sense then .next s
  else .next (((s.modPhy k (fun p => { p with sense := true })).markHealth d pr 2).gcount GEv.pwrSenseFault 1)

/-- JOINT_SAMPLE (R404, R405): output and sense voltage in µV, current in mA.  A sample counts at 0.5 A or more, with the region
neither switching on nor changing gait.
DEDUCED: log entry 80. -/
def execJointSample (d : DieN) (pr : Fin 304) (vout vsense : Int) (i : Nat) (s : State) : Out :=
  let k := pairKey d pr
  let p := s.phy k
  if i < 500 || p.swStage != 0 || p.ramp then .next s
  else
    let t : Rat := mkRat p.temp 64
    let r25 : Rat := (1000 * (vout - vsense) : Int) / (i : Rat) / (1 + mkRat 39 10000 * (t - 25))
    let q : Rat := r25 / ((max p.baseR 1 : Nat) : Rat)
    let above (off : Nat) : Bool := decide (mkRat (s.fld 0 Ty.power 0 off 1) 10 < q)
    .next (s.modPhy k (fun p => { p with
      jr := (rneInt (q * 256)).toNat, jw := if above 3 then min (p.jw + 1) 16 else 0, jf := if above 4 then min (p.jf + 1) 16 else 0 }))

/-- JOINT_FAULT (R405): 16 ratios in a row above JOINT_WARN derate a cell region, above JOINT_FAIL retire it.
DEDUCED: log entry 97. -/
def execJointFault (d : DieN) (pr : Fin 304) (fail : Bool) (s : State) : Out :=
  let k := pairKey d pr
  let p := s.phy k
  if (if fail then p.jf else p.jw) < 16 || (!fail && p.jointDerate) then .next s
  else
    let log (s : State) : State := s.logE { DayEntry.reset with
      sev := if fail then 2 else 1, src := 1 + d.val, code := Db.jointFault, arg0 := pairRegion d pr, args := [p.jr, b2n fail] }
    let s := log ((s.modPhy k (fun p => { p with jw := 0, jf := if fail then 0 else p.jf })).gcount (if fail then GEv.pwrJointFail else GEv.pwrJointWarn) 1)
    if fail then
      if pr.val < 272 then
        match s.cellOf k with
        | some c => .next (s.substitute c false)
        | none => .next s
      else .next ((s.modPhy k (fun p => { p with regA := true, regB := true })).pairLost d pr)
    else .next (((s.modPhy k (fun p => { p with jointDerate := decide (pr.val < 272) })).markHealth d pr 3).askService (pairRegion d pr))

/-- VC_FAIL (R395): a vertical converter; the second of a zone holds its cells at WALK and is a module fault. -/
def execVcFail (d : DieN) (z : Fin 4) (amps : Nat) (s : State) : Out :=
  let n := tget (s.die d).vcFail z 0
  if 3 ≤ n then .next s
  else
    let s := (s.modDie d (fun e => { e with vcFail := tset e.vcFail z (n + 1) 0 })).gcount GEv.vcFail 1
    let s := (s.log (1 + d) Db.vcFail (d + 256 * z)).askService (d + 256 * z)
    if n = 0 then .next s
    else
      let s := if 60 < amps then (s.modPow (fun w => { w with stall := max w.stall 1 })).stallEdge else s
      .next (s.powerFault 1 (d * 4 + z))

/-- MEMORY_CONVERTER_FAIL (R395): its two stacks are lost with what they held.
DEDUCED: log entry 78. -/
def execMemoryConverterFail (k : Fin 16) (s : State) : Out :=
  if s.pow.memFail.contains k.val then .next s
  else
    let gone (a : Nat) : Bool := (a / 2 ^ 39) * 8 + a / 4096 % 8 == 2 * k.val || (a / 2 ^ 39) * 8 + a / 4096 % 8 == 2 * k.val + 1
    let s := s.modPow (fun w => { w with memFail := insN k w.memFail, stackLost := insN (2 * k) (insN (2 * k + 1) w.stackLost) })
    .next ({ s with mem := s.mem.filter (fun e => !gone e.1) }.powerFault 1 (2 * k))

/-- AUX_CONVERTER_FAIL (R395): the other carries the rail.
DEDUCED: log entry 78. -/
def execAuxConverterFail (k : Fin 2) (s : State) : Out :=
  let bad := s.pow.auxFail
  if bit bad k.val then .next s
  else
    let s := s.modPow (fun w => { w with auxFail := bad + 2 ^ k.val })
    .next (s.log 0 Db.vcFail (0x100 + k.val))

/-! ### Region states (R396, R397, R399 to R402, N20, N23) -/

/-- REGION_LEAVE_ON (R254, R396, R414): a held RETAIN or OFF request takes effect once the cell does not run, its write engine is
idle and no gait ramp is under way. -/
def execRegionLeaveOn (r : Rid) (s : State) : Out :=
  let p := s.phy r
  let idle := match s.cellOf r with
    | some c => (s.cell c).st != 2 && (s.cell c).wq.isEmpty
    | none => true
  if p.want = 0 || p.want = 3 || p.ramp || !idle || p.rst = 2 || p.rst = p.want then .next s
  else
    let s := s.modPhy r (fun q => { q with rst := p.want, want := 3, swStage := 0 })
    -- a recalibration under way is abandoned and queued again (R437)
    let s := ((s.die (r / 272)).calRun.filter (fun e => e.1 == r.val)).foldl (fun s e => s.calAbort r e.2 true) s
    match s.cellOf r with
    | none => .next s
    | some c =>
      let s := s.dropRelay c
      if p.want = 1 then .next s
      else
        let cl := s.cell c
        .next (s.setCell c { Cell.reset with
          ctr := cl.ctr, xbind := cl.xbind, pbind := cl.pbind, relayRepair := cl.relayRepair, nextKey := cl.nextKey, drillCount := cl.drillCount
          dark := cl.dark, mapDark := cl.mapDark, subst := cl.subst, substStage := cl.substStage, substDark := cl.substDark })

/-- A region is ON: a cell that was OFF self-calibrates its column converters (R396); a spare goes on to its next stage
(R16), or takes its number at once during bring-up (R444). -/
def State.regionUp (s : State) (r : Nat) : State :=
  let was := (s.phy r).rst
  let s := s.modPhy r (fun p => { p with
    rst := 0, want := 3, swStage := 0, stretched := false, ramp := false, stretch := false })
  let s := if was = 1 then s else (List.range 9).foldl (fun s x => s.modXbar r x (fun b => { b with selfCal := true })) s
  let s := s.settleRail r
  match s.cells.find? (fun e => e.2.subst == r + 1 && e.2.substStage == 1) with
  | some e => if s.boot.running then s.spareMove e.1 else s.modCell e.1 (fun cl => { cl with substStage := 2 })
  | none => s

/-- REGION_SWITCH_ON (R400, R401): neigh is the largest neighbour current, mA, and zone the segment current, A.
DESIGN CHOICE: log entry 81. -/
def execRegionSwitchOn (r : Rid) (neigh zone : Nat) (s : State) : Out :=
  let p := s.phy r
  let d := r.val / 272
  let on (n : Nat) : Bool := decide (2 ≤ (s.phy n).swStage)
  let crowd := (gridNeighbours r).any on || decide (16 ≤ ((List.range 272).filter (fun i => on (d * 272 + i))).length)
  if p.want != 0 || p.rst = 0 || 2 ≤ p.swStage || (p.regA && p.regB) || !s.pow.main || s.pow.hold then .next s
  else if p.rst = 1 then .next (s.regionUp r)
  else if crowd then .next s
  else
    let work := 3 - tget (s.die d).vcFail (zoneOf r) 0
    let busy := decide (s.fld 0 Ty.power 0 2 1 * 250 ≤ neigh) || decide (9 * 60 * work ≤ 10 * zone)
    if busy && !s.passed p.swAt (s.fld 0 Ty.power 0 6 2 * 1000) then
      .next (if p.swStage = 1 then s else (s.modPhy r (fun p => { p with swStage := 1 })).gcount GEv.swonDelayed 1)
    else
      let t := s.modPhy r (fun p => { p with swStage := 2, stretched := p.stretched || busy, swAt := s.time })
      .next (if busy || p.stretched then t.gcount GEv.swonStretched 1 else t)

/-- SWITCH_ON_STAGE (R399, R400, R414): a stage reaches its target; the next waits while the segment, in 100 µV, is below 1.560 V or
a power-fail hold stands; after the last the clock starts. -/
def execSwitchOnStage (r : Rid) (seg : Nat) (s : State) : Out :=
  let p := s.phy r
  if p.swStage < 2 then .next s
  else if p.swStage = 6 then .next (s.regionUp r)
  else if seg < 15600 || s.pow.hold then .next (s.modDie (r / 272) (fun d => { d with segV := seg }))
  else .next ((s.modDie (r / 272) (fun d => { d with segV := seg })).modPhy r (fun p => { p with swStage := p.swStage + 1 }))

/-- SWITCH_ON_FAULT (R402): the stage-1 target is missed; the region is held OFF and counts as dark. -/
def execSwitchOnFault (r : Rid) (s : State) : Out :=
  let p := s.phy r
  if p.swStage != 2 || !s.passed p.swAt (if p.stretched then 200000 else 50000) then .next s
  else
    let s := s.modPhy r (fun p => { p with swStage := 0, want := 3 })
    .next ((s.logR r Db.switchOnFault (r / 272 * 512 + r % 272)).regionDark r)

end Sys2Proof.Machine
end

