-- ==== Sys2Proof/Machine/Sensing.lean ====
section
/-! DEFINITION. Machine/Sensing: the monitor channels and their converters, REFIN, the temperature sensors (R415 to R430, R437,
R545), and what the policy engine sets at the end of its window (R87, R249). -/

namespace Sys2Proof.Machine

/-! ### Channels (R415 to R419, R430) -/

/-- Whether the module has more than one partition (R418, R419). -/
def State.multi (s : State) : Bool := (List.range 1024).any (fun c => s.owner c != s.owner 0)

/-- The partition of a region's logical cell. -/
def State.regionPart (s : State) (r : Nat) : Option Nat := (s.cellOf r).map s.owner

/-- The partition a monitor channel belongs to, none for a module channel (R419). -/
def State.chanPart (s : State) (d ch : Nat) : Option Nat :=
  if !s.multi then none
  else if 200 ≤ ch && ch < 472 then s.regionPart (d * 272 + (ch - 200))
  else if 64 ≤ ch && ch < 200 then
    let r := d * 272 + 2 * (ch - 64)
    let a := s.regionPart r
    if a = s.regionPart (r + 1) then a else none
  else none

/-- The converter that serves a channel: its home, or that converter's partner where it is retired (R417, R430). -/
def Die.conv (d : Die) (ch : Nat) : Nat := if d.retired.contains (ch % 16) then (ch % 16 + 8) % 16 else ch % 16

/-- Whether a channel is a regulator pair, with three quantities (R416). -/
def isPair (ch : Nat) : Bool := decide (200 ≤ ch) && decide (ch < 504)

/-- The channels a converter sweeps, ascending, and those of a partition it converts in a burst (R418, R419, R430). -/
def State.chansOf (s : State) (d k : Nat) (p : Option Nat) : List Nat :=
  (List.range 512).filter (fun ch => (s.die d).conv ch == k && s.chanPart d ch == p)

/-- The first channel of a list above one, else its first. -/
def nextIn (l : List Nat) (ch : Nat) : Option Nat :=
  match l.find? (fun c => ch < c) with
  | some c => some c
  | none => l.head?

/-- What a converter turns to when a conversion of a channel has ended (R418 to R422, R437): an urgent request comes first, then the
rest of a burst, then another partition's burst, the lower first, then the sweep. -/
def State.nextConv (s : State) (d k ch : Nat) : State :=
  let di := s.die d
  let part := s.chanPart d ch
  let mine : List Nat := match part with
    | some p => if bit (tget di.burst p 0) k then (s.chansOf d k (some p)).filter (fun c => decide (ch < c)) else []
    | none => []
  let inBurst := decide (1024 ≤ tget di.running k 0)
  let s := match part with
    | some p => if inBurst && mine.isEmpty && bit (tget di.burst p 0) k then
        s.modDie d (fun e => { e with burst := tset e.burst p (tget e.burst p 0 - 2 ^ k) 0 }) else s
    | none => s
  let di := s.die d
  let set (v : Nat) : State := s.modDie d (fun e => { e with running := tset e.running k v 0 })
  if tget di.urgent k 0 != 0 then set (tget di.urgent k 0)
  else if inBurst && !mine.isEmpty then set (mine.headD 0 + 1025)
  else match (List.range 16).find? (fun p => bit (tget di.burst p 0) k) with
    | some p => set ((s.chansOf d k (some p)).headD 0 + 1025)
    | none => set (match nextIn (s.chansOf d k none) ch with
        | some c => c + 1
        | none => 0)

/-! ### Temperatures (R415, R428, R432) -/

/-- The sensor of a position within a die (R415). -/
def sensorAt (pos : Nat) : Nat := min (pos / 16) 15 / 2 * 8 + pos % 16 / 2

/-- Square of the distance of two sensors on their grid.
DEDUCED: log entry 82. -/
def sensorDist (a b : Nat) : Nat :=
  let d (x y : Nat) : Nat := (x - y) + (y - x)
  d (a / 8) (b / 8) * d (a / 8) (b / 8) + d (a % 8) (b % 8) * d (a % 8) (b % 8)

/-- The sensor that serves a position: its own, or the nearest that works, the lower number at a tie (R428). -/
def Die.sensorFor (d : Die) (pos : Nat) : Nat :=
  let own := sensorAt pos
  if !d.sensFail.contains own then own
  else ((List.range 64).filter (fun t => !d.sensFail.contains t)).foldl
    (fun best t => if d.sensFail.contains best || sensorDist own t < sensorDist own best then t else best) own

/-- Whether a reading of a sensor is implausible: outside −40 to +150 °C, or more than 40 °C from the mean of the working neighbours
that agree within 5 °C (R428).
DEDUCED: log entry 82. -/
def Die.implausible (d : Die) (t : Nat) (v : Int) : Bool :=
  let ns := ((if 8 ≤ t then [t - 8] else []) ++ (if t < 56 then [t + 8] else []) ++ (if t % 8 != 0 then [t - 1] else []) ++
    (if t % 8 != 7 then [t + 1] else [])).filter (fun n => !d.sensFail.contains n)
  let vs := ns.map (fun n => tget d.sens n 1600)
  let lo := vs.foldl min (vs.headD 0)
  let hi := vs.foldl max (vs.headD 0)
  v < -2560 || 9600 < v ||
    (!vs.isEmpty && decide (hi - lo ≤ 320) && decide (2560 < rabs ((v : Rat) - mkRat vs.sum vs.length)))

/-- A region takes a reading of the sensor that serves it: the 95 °C state of R99 and the test of each crossbar against its T_CAL
(R432). -/
def State.regionReads (s : State) (r : Nat) (v : Int) : State :=
  let s := s.modPhy r (fun p => { p with temp := v, hot := if 6080 < v then true else if v ≤ 5952 then false else p.hot })
  let delta := s.fld 0 Ty.calibrationPolicy 0 0 1 * 64
  (List.range 9).foldl (fun s x =>
    let b := s.xbar r x
    let off := (v - b.tCal).natAbs
    if (b.st = 0 || b.st = 2) && delta < off then s.requestCal 3 r x (off - delta) else s) s

/-- A reading of a sensor arrives (R416, R428, R432, R545). -/
def State.sensorReads (s : State) (d t : Nat) (v : Int) : State :=
  let di := s.die d
  let bad := di.implausible t v
  let s := s.modDie d (fun e => { e with
    sens := tset e.sens t v 1600
    sensBad := tset e.sensBad t (if bad then min (tget e.sensBad t 0 + 1) 16 else 0) 0
    tripRun := tset e.tripRun t (if 6720 < v then min (tget e.tripRun t 0 + 1) 2 else 0) 0 })
  if di.sensFail.contains t then s
  else ((List.range 272).filter (fun pos => di.sensorFor pos == t)).foldl (fun s pos => s.regionReads (d * 272 + pos) v) s

/-! ### Conversions (R416 to R425) -/

/-- VALUE of a raw code and whether it clips (R424, R425). -/
def Die.value (d : Die) (ch raw : Nat) : Int × Bool :=
  let x : Rat := ((raw : Rat) - mkRat (tget d.chOff ch 0) 4) * ((tget d.chGain ch 32768 : Nat) : Rat) / 32768
  let v := rneInt (tget d.chA ch 1 * x + tget d.chB ch 0)
  (clampI (-32768) 32767 v, raw == 0 || raw == 4095 || decide (v < -32768) || decide (32767 < v))

/-- A queue entry (R424). -/
def monEntry (src ch q conv : Nat) (clip : Bool) (v : Int) (time : Nat) : BitVec 64 :=
  BitVec.ofNat 64 (2 ^ 62 + src * 2 ^ 60 + ch * 2 ^ 51 + q * 2 ^ 49 + conv * 2 ^ 45 + b2n clip * 2 ^ 44 + unsgn 16 v * 2 ^ 24 +
    time / 8 % 2 ^ 24)

/-- Whether a source is one that may convert a channel now: an urgent request for it, a burst of its partition under its trigger, or
the sweep of a module channel (R418 to R422).
DEDUCED: log entry 82. -/
def State.srcFits (s : State) (d ch src : Nat) : Bool :=
  let di := s.die d
  if src = 3 then tget di.urgent (di.conv ch) 0 == ch + 1
  else match s.chanPart d ch with
    | none => src == 0
    | some p => src == 1 + s.fld 0 Ty.monitor p 0 1 % 2 && bit (tget di.burst p 0) (di.conv ch)

/-- MON_CONVERSION (R416, R423 to R425, R427, R428, R432): a conversion ends with a raw code and its result enters the queue. -/
def execMonConversion (d : DieN) (ch : Fin 512) (q : Fin 3) (raw : BitVec 12) (src : Fin 4) (s : State) : Out :=
  let di := s.die d
  let k := di.conv ch
  if !s.pow.main || !di.selfCal.contains k || !s.srcFits d ch src || (q.val != 0 && !isPair ch && !(q.val = 1 && 64 ≤ ch.val && ch.val < 200)) then
    .next s
  else
    let vc := di.value ch raw.toNat
    let e := monEntry src ch q k vc.2 vc.1 s.time
    let s := s.gcount GEv.monConversions 1 [(5, d)]
    let s := if 1024 ≤ di.wr then s.gcount GEv.monQueueOverwrite 1 [(5, d)] else s
    let s := s.modDie d (fun e' => { e' with
      ring := tset e'.ring (e'.wr % 1024) e 0, wr := (e'.wr + 1) % 2 ^ 32, baseTime := s.time, latest := tset e'.latest (ch * 4 + q) e 0 })
    let last := !isPair ch || q.val = 2
    let s := if !last then s
      else (if src.val = 3 then s.modDie d (fun e => { e with urgent := tset e.urgent k 0 0 }) else s).nextConv d k ch
    .next (if ch.val < 64 then s.sensorReads d ch vc.1
      else if ch.val = 508 then
        let off := (vc.1 - 25000).natAbs
        s.modDie d (fun e => { e with
          refBad := if 250 < off then min (e.refBad + 1) 16 else 0, refGood := if 2 * off ≤ 375 then min (e.refGood + 1) 16 else 0 })
      else if ch.val = 511 then (List.range 32).foldl (fun s i => s.modPhy (1088 + 32 * d + i) (fun p => { p with temp := vc.1 })) s
      else if 504 ≤ ch.val && ch.val < 508 then s.modDie d (fun e => { e with segV := vc.1.toNat })
      else s)

/-- MON_BURST_TRIGGER (R419, R420, R437): a partition's burst starts on a die, unless its previous one still runs. -/
def execMonBurstTrigger (p : Pn) (d : DieN) (s : State) : Out :=
  let di := s.die d
  if !s.multi || !s.pow.main then .next s
  else if tget di.burst p 0 != 0 then .next (s.gcount GEv.monTrigOverrun 1 [(5, d)])
  else
    let ks := (List.range 16).filter (fun k => !(s.chansOf d k (some p.val)).isEmpty)
    let s := s.modDie d (fun e => { e with burst := tset e.burst p ((ks.map (fun k => 2 ^ k)).sum) 0 })
    .next (ks.foldl (fun s k =>
      let di := s.die d
      let now := tget di.running k 0
      if 1024 ≤ now || (now != 0 && now = tget di.urgent k 0) then s
      else s.modDie d (fun e => { e with running := tset e.running k ((s.chansOf d k (some p.val)).headD 0 + 1025) 0 })) s)

/-- MON_URGENT (R422, R519): a channel to convert next, or a dropped request.
DEDUCED: log entry 82. -/
def execMonUrgent (d : DieN) (ch : Fin 512) (s : State) : Out :=
  let di := s.die d
  let k := di.conv ch
  let now := tget di.running k 0
  let cause := if now % 1024 = ch.val + 1 then 1 else if 1024 ≤ now then 2 else if tget di.urgent k 0 != 0 then 3 else 0
  if cause = 0 then
    .next ((s.modBoot (fun b => { b with urgRes := 1, urgCause := 0 })).modDie d (fun e => { e with urgent := tset e.urgent k (ch.val + 1) 0 }))
  else .next ((s.modBoot (fun b => { b with urgRes := 2, urgCause := cause })).gcount GEv.monUrgentDrop 1 [(7, cause)])

/-! ### REFIN (R427) -/

/-- Channel 508 as last converted, in 50 µV. -/
def Die.refValue (d : Die) : Nat := bits (tget d.latest (508 * 4) 0).toNat 39 24

/-- REFIN_FAULT (R427): calibration stops with its old factors in force; its requests wait. -/
def execRefinFault (d : DieN) (s : State) : Out :=
  let di := s.die d
  if di.refBad < 16 || di.refFault then .next s
  else
    let t := (s.modDie d (fun e => { e with refFault := true })).modBoot (fun b => { b with refin := true })
    let t := (t.log (1 + d) Db.refinFault 1 [di.refValue]).gcount GEv.refinFault 1 [(5, d)]
    .next ((t.dies.flatMap (fun e => e.2.calRun)).foldl (fun s e => s.calAbort e.1 e.2 true) t)

/-- REFIN_FAULT_CLEAR (R427). -/
def execRefinFaultClear (d : DieN) (s : State) : Out :=
  let di := s.die d
  if di.refGood < 16 || !di.refFault then .next s
  else
    let t := s.modDie d (fun e => { e with refFault := false })
    let t := t.modBoot (fun b => { b with refin := t.dies.any (fun e => e.2.refFault) })
    .next (t.log (1 + d) Db.refinFault 0 [di.refValue])

/-! ### Sensors and converters that fail (R428, R430) -/

/-- SENSOR_FAIL (R428): 16 implausible readings in a row; its regions take the nearest working sensor. -/
def execSensorFail (d : DieN) (t : Fin 64) (s : State) : Out :=
  let di := s.die d
  if tget di.sensBad t 0 < 16 || di.sensFail.contains t.val then .next s
  else
    let served := (List.range 272).filter (fun pos => di.sensorFor pos == t.val)
    let s := s.modDie d (fun e => { e with sensFail := insN t e.sensFail })
    let s := (s.setFld 0 Ty.regulatorHealth d 2432 8 (((s.die d).sensFail.map (fun i => 2 ^ i)).sum)).askWrite Ty.regulatorHealth d
    let s := (s.gcount GEv.sensorFail 1 [(5, d)]).log (1 + d) Db.sensorFail (d + 256 * t) [unsgn 16 (tget di.sens t 1600)]
    let di := s.die d
    .next (served.foldl (fun s pos =>
      let n := di.sensorFor pos
      if di.sensFail.contains n then s else s.modPhy (d * 272 + pos) (fun p => { p with temp := tget di.sens n 1600 })) s)

/-- MONITOR_SELF_CAL (R429, R430): a converter's factors are stored, or it is retired and its partner takes its channels. -/
def execMonitorSelfCal (d : DieN) (k : Fin 16) (ok : Bool) (s : State) : Out :=
  let di := s.die d
  if !s.pow.main || di.retired.contains k.val then .next s
  else if ok then
    let s := s.modDie d (fun e => { e with selfCal := insN k e.selfCal })
    .next (if tget di.running k 0 = 0 then
      s.modDie d (fun e => { e with running := tset e.running k ((s.chansOf d k none).headD 0 + 1) 0 }) else s)
  else
    let s := s.modDie d (fun e => { e with
      retired := insN k e.retired, selfCal := e.selfCal.filter (fun i => i != k.val), running := tdel e.running k, urgent := tdel e.urgent k
      burst := e.burst.filterMap (fun b => let m := b.2 - (if bit b.2 k then 2 ^ k.val else 0)
                                           if m = 0 then none else some (b.1, m)) })
    let s := (s.gcount GEv.monConvRetired 1 [(5, d)]).log (1 + d) Db.monConvRetired (d + 256 * k)
    .next (if di.retired.contains ((k + 8) % 16) then s.powerFault 3 (d + 256 * k) else s)

/-- THERMAL_TRIP (R545): two readings above 105 °C stop the converters until a power cycle. -/
def execThermalTrip (d : DieN) (t : Fin 64) (s : State) : Out :=
  let di := s.die d
  if tget di.tripRun t 0 < 2 || di.sensFail.contains t.val || s.groom.trip then .next s
  else
    let v := unsgn 16 (tget di.sens t 1600)
    let s := (s.modGroom (fun g => { g with trip := true })).dropMain.modPow (fun w => { w with latchedOff := true })
    .next (s.log 0 Db.thermalTrip (d + 256 * t) [v])

/-! ### The policy engine (R87, R249) -/

/-- POLICY_ENGINE_WINDOW (R28, R87, R249, N19): conf are crossbars and the read-confidence mode each takes, within CONF_MODE and
CONF_CEIL; gaits are regions and the gait chosen for each.  Under HALT and RESTORING no gait is chosen.
DEDUCED: log entry 83. -/
def execPolicyEngineWindow (conf : List (Nat × Nat × Nat)) (gaits : List (Nat × Nat)) (s : State) : Out :=
  let s := conf.foldl (fun s e =>
    match s.regionPart e.1 with
    | some p =>
      if e.2.1 < 9 && s.fld p Ty.arrayRead p 1 1 ≤ e.2.2 && e.2.2 ≤ s.fld p Ty.arrayRead p 2 1 then
        s.modXbar e.1 e.2.1 (fun b => { b with conf := e.2.2 })
      else s
    | none => s) s
  .next (gaits.foldl (fun s e =>
    match s.regionPart e.1 with
    | some p => if (s.part p).snap = 0 && e.2 < 4 then s.modPhy e.1 (fun r => { r with policyGait := e.2 }) else s
    | none => s) s)

end Sys2Proof.Machine
end

