-- ==== Sys2Proof/Machine/Boot.lean ====
section
/-! DEFINITION. Machine/Boot: bring-up (R439 to R446), the tack store (R441, R480), the loss of the auxiliary rail (R389), the module
reset (R383, R386) and the requests for a power cycle (R384, R470). -/

namespace Sys2Proof.Machine

/-! ### Stages -/

/-- A bring-up stage begins and is logged (R439, R443). -/
def State.beginStage (s : State) (n : Nat) : State :=
  (s.modBoot (fun b => { b with stage := n, running := true, held := false, retry := false, failCause := 0 })).log 0 Db.stage n

/-- Bring-up holds (R441, R444): 1 GROOM, 2 FW_INVALID, 3 REPAIR_MAP, 4 TIMEOUT. -/
def State.holdBoot (s : State) (cause : Nat) : State :=
  ((s.modBoot (fun b => { b with held := true, failCause := cause })).log 0 Db.bootHold cause).platform 6 cause

/-- The groom asks the tray for a power cycle (R384): 0 PWR_CYCLE_REQ, 1 module-reset overrun, 2 supervisor, 3 bring-up overrun. -/
def State.askPowerCycle (s : State) (cause : Nat) : State :=
  let s := (s.log 0 Db.powerCycleRequest cause).modGroom (fun g => { g with pwrReq := true })
  if cause = 2 then s else s.platform 1 cause

/-- INPUT_RISE (R389, R439, R446): the input rises through 40.0 V and bring-up starts.  Converters stopped until a power cycle do not
restart.
DEDUCED: log entry 79. -/
def execInputRise (s : State) : Out :=
  if s.pow.main || s.boot.running || s.pow.latchedOff then .next s
  else
    let s := { s with time := 0 }
    .next ((s.modPow (fun w => { w with aux := true })).beginStage 1)

/-- What stays without any power: the tack store, the firmware in it, conductances and what follows the crossbars, the positions of
the latch and of the straps, and host memory, which is not the module's. -/
def State.powerOff (s : State) : State :=
  { State.reset with
    pending := s.pending, store := s.store, hostMem := s.hostMem
    phys := s.phys.map (fun e => (e.1, e.2.cold)), dies := s.dies.map (fun e => (e.1, e.2.cold))
    pow := { Pow.reset with auxFail := s.pow.auxFail, memFail := s.pow.memFail }
    boot := { Boot.reset with overran := s.boot.overran }, hif := { HostIf.reset with perst := s.hif.perst }
    groom := { Groom.reset with fw := s.groom.fw, fwOk := s.groom.fwOk, pkgs := s.groom.pkgs, feedPins := s.groom.feedPins }
    rack := { Rack.reset with latch := s.rack.latch } }

/-- AUXILIARY_RAIL_LOSS (R389, R485): below 30 V everything volatile is gone, the daybook included, and every output floats. -/
def execAuxiliaryRailLoss (s : State) : Out := .next (if s.pow.aux then s.powerOff else s)

/-! ### Firmware images (R476, R477) -/

/-- A field of an image. -/
def imgFld (t : Tbl Byte) (off n : Nat) : Nat := leNat (tgets t off n 0)

/-- Whether an image's public key is the one the boot ROM holds a digest of for a slot (R477). -/
def keyDigestOk (t : Tbl Byte) (slot : Nat) : Bool := Config.signingKey slot (sha3 (tgets t 0x20 1312 0))

/-- Whether an image verifies (R477). -/
def State.imageVerifies (s : State) (t : Tbl Byte) : Bool :=
  let len := imgFld t 0x10 4
  let slot := imgFld t 5 1
  let zero (o n : Nat) : Bool := (tgets t o n 0).all (fun b => b == 0)
  imgFld t 0 4 == 0x48464757 && imgFld t 4 1 == 1 && slot < 2 && len ≤ 2 ^ 25 &&
    zero 6 2 && zero 0x14 12 && zero 0xEB4 332 && keyDigestOk t slot &&
    !(slot == 0 && s.fld 0 Ty.firmwareSecurity 0 4 1 == 1) && s.fld 0 Ty.firmwareSecurity 0 0 4 ≤ imgFld t 0xC 4 &&
    Config.mlDsaVerify slot (sha3 (tgets t 0 0x20 0 ++ tgets t 0x1000 len 0)) (tgets t 0x540 2420 0)

/-- Whether the image in the tack store verifies; fwOk stands for the factory's image, of which no byte is listed.
DESIGN CHOICE: log entry 85. -/
def State.storedOk (s : State) : Bool := if s.groom.fw.isEmpty then s.groom.fwOk else s.imageVerifies s.groom.fw

/-- Digest of the image in the tack store, header and body (R440, R483). -/
def State.fwDigest (s : State) : List Byte :=
  if s.groom.fw.isEmpty then Config.factoryFw else sha3 (tgets s.groom.fw 0 (0x1000 + imgFld s.groom.fw 0x10 4) 0)

/-! ### The tack store (R441, R480) -/

/-- Place of a record type in the load order of R441. -/
def loadRank (ty : Nat) : Nat :=
  match ty with
  | 0x0002 => 1 | 0x0001 => 2 | 0x0003 => 3 | 0x0004 => 4 | 0x0005 => 4 | 0x0011 => 5 | 0x0012 => 5 | 0x0013 => 6 | _ => 7

/-- Records of the store with no valid slot, in load order: type and instance. -/
def State.invalidRecs (s : State) : List (Nat × Nat) :=
  let bad := (s.store.filter (fun e => e.2.a.isNone && e.2.b.isNone)).map (fun e => (keyType e.1, e.1 % 65536))
  (List.range 8).flatMap (fun k => bad.filter (fun e => loadRank e.1 == k))

/-- A stored record, where one has been written since manufacture. -/
def State.stored (s : State) (ty inst : Nat) : Option RecImg := (tfind s.store (recKey 0 ty inst)).bind Slot.newer

/-- Regulator health of a die as its record gives it (R394, R441): with no valid record, every regulator healthy and untrimmed. -/
def State.loadHealth (s : State) (d : Nat) : State :=
  match s.stored Ty.regulatorHealth d with
  | some r =>
    let s := s.modDie d (fun e => { e with sensFail := (List.range 64).filter (fun t => bit (r.fld 2432 8) t) })
    (List.range 304).foldl (fun s pr =>
      let f := r.fld (8 * pr) 1
      let trims := (List.range 4).foldl (fun t g => tset t g (sgn 8 (r.fld (8 * pr + 1 + g) 1)) 0) ([] : Tbl Int)
      s.modPhy (pairKey d pr) (fun p => { p with
        regA := bit f 0, regB := bit f 1, jointDerate := bit f 3 && decide (pr < 272), trimG := trims, baseR := r.fld (8 * pr + 6) 2 })) s
  | none =>
    let bad := s.badSlots Ty.regulatorHealth d
    let own (k : Nat) : Bool := if k < 1088 then k / 272 == d else (k - 1088) / 32 == d
    let s := s.modDie d (fun e => { e with sensFail := [] })
    (s.phys.filter (fun e => own e.1)).foldl (fun s e => s.modPhy e.1 (fun p => { p with
      regA := false, regB := false, jointDerate := false, trimG := if bad then [] else p.trimG })) s

/-- The repair map and its quarantine marks (R15, R360). -/
def State.loadRepair (s : State) : State :=
  let m := s.rcd 0 Ty.repairMap 0
  (List.range 1088).foldl (fun s r =>
    let e := m.fld (2 * r) 2
    let s := if bit e 15 = (s.phy r).quar then s else s.modPhy r (fun p => { p with quar := bit e 15, repairMark := bit e 15 })
    if bit e 13 then s
    else
      let c := e % 1024
      let s := if defaultRegion c = r then s else { s with repair := tins s.repair c r }
      if bit e 14 then s.modCell c (fun cl => { cl with mapDark := true }) else s) { s with repair := [] }

/-- Factors of a crossbar from a calibration record (R536). -/
def Xbar.ofCal (b : Xbar) (r : RecImg) (x : Nat) : Xbar :=
  let o := 3092 * x
  { b with
    gain := (List.range 516).foldl (fun t j => tset t j (r.fld (o + 2 * j) 2) 32768) []
    off := (List.range 516).foldl (fun t j => tset t j (sgn 8 (r.fld (o + 1032 + j) 1)) 0) []
    trim := (List.range 516).foldl (fun t j => tset t j (sgn 8 (r.fld (o + 1548 + j) 1)) 0) []
    rowf := (List.range 512).foldl (fun t i => tset t i (r.fld (o + 2064 + 2 * i) 2) 32768) []
    tc := sgn 16 (r.fld (o + 3088) 2), tCal := sgn 16 (r.fld (o + 3090) 2) }

/-- The factors of a region as its record gives them; with no valid record it calibrates in full before first use (R436, R441). -/
def State.loadCal (s : State) (r : Nat) : State :=
  match s.stored Ty.calibration r with
  | some im => (List.range 9).foldl (fun s x => s.modXbar r x (fun b => b.ofCal im x)) s
  | none =>
    if s.badSlots Ty.calibration r then
      let s := s.log (1 + r / 272) Db.calRecordBad r
      (List.range 9).foldl (fun s x => (s.modXbar r x (fun b => { b with calOk := false })).requestCal 1 r x 0) s
    else s

/-- Records in force take their effect on the module (R441, R538). -/
def State.recordsInForce (s : State) : State :=
  let s := s.modHif (fun h => { h with numVf := s.fld 0 Ty.hostInterface 0 0 1, bar4Log := s.fld 0 Ty.hostInterface 0 1 1 })
  let s := s.modPow (fun w => { w with limit := s.govLimit w.vin })
  let s := (List.range 24).foldl (fun s i =>
    let en := s.fld 0 Ty.port 0 i 1 == 1
    s.modPort i (fun q => { q with st := if en then (if q.st = 0 then 1 else q.st) else 0 })) s
  (List.range 16).foldl (fun s p =>
    (s.modPart p (fun q => { q with selImg := (s.rcd p Ty.counterSelection p).bytes, selPend := false })).setLeader p) s

/-- The tack load of stage 0x04 (R441, R443): every record but those of communication groups.
DESIGN CHOICE: log entry 85. -/
def State.loadRecords (s : State) : State :=
  let s := s.invalidRecs.foldl (fun s e => s.log 0 Db.recordInvalid e.1 [e.2]) s
  let s := s.reload (fun _ => true)
  let s := { s with recs := s.recs.filter (fun e => keyType e.1 != Ty.group) }
  let s := ((List.range 4).foldl State.loadHealth s).loadRepair
  let s := (s.store.filter (fun e => keyType e.1 == Ty.calibration)).foldl (fun s e => s.loadCal (e.1 % 65536)) s
  let s := (s.invalidRecs.filter (fun e => e.1 == Ty.wear)).foldl (fun s e =>
    let full : Tbl Nat := (List.range 512).map (fun i => (i, 500000))
    (List.range 9).foldl (fun s x =>
      (s.modXbar e.2 x (fun b => { b with wear := full, wearWarned := true })).logR e.2 Db.wearWarning x [500000]) s) s
  let s := s.modGroom (fun g => { g with pkgs := g.pkgs.filter (fun k => !s.badSlots Ty.drillPackage k.1) })
  s.recordsInForce

/-- TACK_STORE_WRITE (R480): the first write requested goes to the older slot, with the next sequence number.  A record not written
since manufacture has the factory's in one slot. -/
def execTackStoreWrite (s : State) : Out :=
  match s.groom.writeQ with
  | [] => .next s
  | (tp, inst, im) :: rest =>
    if !s.pow.aux then .next s
    else
      let p := tp / 65536
      let ty := tp % 65536
      let t : Slot := (tfind s.store (recKey p ty inst)).getD { a := some (0, recDefault ty), b := none }
      let seqA : Nat := (t.a.map (fun e => e.1 + 1)).getD 0
      let seqB : Nat := (t.b.map (fun e => e.1 + 1)).getD 0
      let e := some (max seqA seqB, im)
      let t := if seqB ≤ seqA then { t with b := e } else { t with a := e }
      .next ({ s with store := tins s.store (recKey p ty inst) t }.modGroom (fun g => { g with writeQ := rest }))

/-! ### The work of the stages (R440, R444) -/

/-- Regions that bring-up switches on: those that carry a number, not dark, with a working pair, whose record says ON (R397, R440). -/
def State.bootRegions (s : State) : List Nat :=
  ((List.range 1024).filter (fun c =>
    let p := s.phy (s.reg c)
    !(s.cell c).mapDark && !(p.regA && p.regB) && s.fld 0 Ty.region 0 c 1 == 0)).map s.reg

/-- MODULE_READY is set (R440, R477). -/
def State.becomeReady (s : State) : State :=
  let s := s.modBoot (fun b => { b with
    ready := true, running := false, held := false, failCause := 0, overran := false, resetStage := 0
    degraded := b.degraded || (b.modFault && b.faultCause == 1) })
  let s := if s.boot.degraded then s.askService 0 else s
  let s := s.modGroom (fun g => { g with spdm := true })
  let low := s.fld 0 Ty.firmwareSecurity 0 0 4 < s.boot.svn
  let revoke := s.boot.keySlot == 1 && bit s.boot.ibootVer 31 && s.fld 0 Ty.firmwareSecurity 0 4 1 == 0
  let s := if low then s.setFld 0 Ty.firmwareSecurity 0 0 4 s.boot.svn else s
  let s := if revoke then s.setFld 0 Ty.firmwareSecurity 0 4 1 1 else s
  let s := if low || revoke then s.askWrite Ty.firmwareSecurity 0 else s
  (((s.event 0 0xB 0 0 0).log 0 Db.ready 0).platform 7 0).tryJoin

/-- The next stage begins; at stage 0x04 FEED_ID is sampled (R542), at 0x06 the regions are asked to switch on. -/
def State.enterStage (s : State) (n : Nat) : State :=
  let s := s.beginStage n
  if n = 4 then s.modGroom (fun g => { g with feed := g.feedPins, feedSet := true })
  else if n = 6 then s.bootRegions.foldl (fun s r => s.modPhy r (fun p => { p with want := 0, swAt := s.time })) s
  else s

/-- The work of a stage that ends well; none where bring-up holds.
DEDUCED: log entry 84. -/
def State.stageWork (s : State) : Option State :=
  match s.boot.stage with
  | 3 =>
    if s.storedOk then
      some ((s.modBoot (fun b => { b with
        ibootVer := imgFld s.groom.fw 8 4, svn := imgFld s.groom.fw 0xC 4, keySlot := imgFld s.groom.fw 5 1 % 2
        fwMeas := s.fwDigest })).modGroom (fun g => { g with fwPend := false }))
    else none
  | 4 => if s.badSlots Ty.repairMap 0 then none else some s.loadRecords
  | 5 =>
    let s := s.modPow (fun w => { w with main := true, limit := s.govLimit w.vin, stackLost := w.memFail.flatMap (fun k => [2 * k, 2 * k + 1]) })
    let s := s.pow.memFail.foldl (fun s k => s.powerFault 1 (2 * k)) s
    some ((List.range 16).foldl (fun s i => if 2 ≤ tget (s.die (i / 4)).vcFail (i % 4) 0 then s.powerFault 1 i else s) s)
  | 6 =>
    let s := (List.range 4).foldl (fun s d => (List.range 16).foldl (fun s k =>
      let di := s.die d
      if di.retired.contains k || di.selfCal.contains k then s
      else s.modDie d (fun e => { e with
        selfCal := insN k e.selfCal, running := tset e.running k ((s.chansOf d k none).headD 0 + 1) 0 })) s) s
    some ((s.phys.filter (fun e => e.2.want == 0 && e.2.rst == 2)).foldl (fun s e => s.regionUp e.1) s)
  | 7 =>
    let s := { s with mem := [], badMem := [] }
    some (if s.boot.refin then s
      else (s.phys.filter (fun e => decide (e.1 < 1088) && e.2.rst == 0)).foldl (fun s e =>
        (List.range 9).foldl (fun s x => s.modXbar e.1 x (fun b => { b with selfCal := false })) s) s)
  | _ => some s

/-- BOOT_STAGE_COMPLETE (R439 to R446): the running stage ends its work, well or with the failure R444 names for it, and the next
begins.  With the latch open bring-up holds after it (R446).
DEDUCED: log entry 84. -/
def execBootStageComplete (ok : Bool) (s : State) : Out :=
  let n := s.boot.stage
  if !s.boot.running || s.boot.held || s.pow.hold then .next s
  else if !ok then
    .next (match n with
      | 1 => { s with pow := { s.pow with aux := false } }.modBoot (fun b => { b with running := false })
      | 2 => if s.boot.retry then s.holdBoot 1 else s.modBoot (fun b => { b with retry := true })
      | 7 => if s.boot.retry then (s.moduleFault 2 0).modBoot (fun b => { b with memFault := true, retry := false })
             else s.modBoot (fun b => { b with retry := true })
      | _ => s)
  else
    match s.stageWork with
    | none => .next (s.holdBoot (if n = 3 then 2 else 3))
    | some t =>
      if n = 9 then .next t.becomeReady
      else if t.rack.latch then .next (t.modBoot (fun b => { b with held := true }))
      else .next (t.enterStage (n + 1))

/-- BOOT_STAGE_TIMEOUT (R444): the first overrun asks for a power cycle, the next holds. -/
def execBootStageTimeout (s : State) : Out :=
  if !s.boot.running || s.boot.held || s.boot.stage = 1 then .next s
  else if s.boot.overran then .next (s.holdBoot 4)
  else .next ((s.modBoot (fun b => { b with overran := true })).askPowerCycle 3)

/-! ### Module reset (R378, R379, R383, R386) -/

/-- A cell as a module reset leaves it (R379). -/
def Cell.afterModule (cl : Cell) : Cell := { cl.afterPartition with heartbeat := 0, ctr := [] }

/-- A module reset begins (R383): every cell drains, MODULE_READY falls. -/
def State.beginModuleReset (s : State) (who : Nat) : State :=
  let s := s.logE { DayEntry.reset with sev := dbSeverity Db.reset, code := Db.reset, arg0 := 4 + 256 * who, args := [0, 0xFFFF] }
  let s := s.modBoot (fun b => { b with
    ready := false, resetStage := 1, resetHeld := false, resetCount := (b.resetCount + 1) % 2 ^ 32 })
  let cs := s.cells.map (fun e => e.1)
  let s := cs.foldl (fun s c => s.modCell c (fun cl => { cl with hostStopBy := [], resetBy := [] })) s
  cs.foldl (fun s c => s.beginReset c 3 []) s

/-- A module reset is asked for: held during bring-up and during the emergency sequence, absorbed by one under way (R386, R446). -/
def State.askModuleReset (s : State) (who : Nat) : State :=
  if s.boot.resetStage != 0 || !s.pow.aux then s
  else if s.boot.running || s.rack.emerg then s.modBoot (fun b => { b with resetHeld := true })
  else if s.boot.ready then s.beginModuleReset who
  else s

/-- What a module reset takes away once its cells have drained (R379): partition state, queues, counters, membership and routes.
DEDUCED: log entry 86. -/
def State.dropModule (s : State) : State :=
  let s := s.cells.foldl (fun s e => (s.endCut e.1).dropRelay e.1) s
  let s := (List.range 24).foldl (fun s k => if 1 < (s.port k).st then s.portDown k else s) s
  let s := { s with recs := s.recs.filter (fun e => keyType e.1 != Ty.group) }
  { s with
    cells := s.cells.map (fun e => (e.1, e.2.afterModule))
    parts := s.parts.map (fun e => (e.1, { Part.reset with trainStep := e.2.trainStep }))
    funcs := [], gctr := []
    fab := { Fab.reset with nodeId := s.fab.nodeId, noNode := s.fab.noNode, ports := s.fab.ports, bridges := s.fab.bridges }
    hif := { s.hif with up := false } }

/-- MODULE_RESET_STAGE (R383): the running row of the sequence ends; one that was held begins.
DEDUCED: log entry 86. -/
def execModuleResetStage (s : State) : Out :=
  match s.boot.resetStage with
  | 0 => .next (if s.boot.resetHeld && s.boot.ready && !s.rack.emerg then s.beginModuleReset 16 else s)
  | 1 =>
    if s.cells.all (fun e => s.drained e.1) then .next (s.dropModule.modBoot (fun b => { b with resetStage := 2 })) else .next s
  | 2 =>
    if !s.groom.writeQ.isEmpty then .next s
    else
      let old := s.owner
      let t := s.reload (fun _ => true)
      let t := { t with recs := t.recs.filter (fun e => keyType e.1 != Ty.group) }
      .next ((t.moveOwners old).recordsInForce.modBoot (fun b => { b with resetStage := 3 }))
  | 4 => .next ((s.modHif (fun h => { h with up := !h.perst && !h.fail })).modBoot (fun b => { b with resetStage := 5 }))
  | 6 => .next s.becomeReady
  | n => .next (s.modBoot (fun b => { b with resetStage := n + 1 }))

/-- MODULE_RESET_OVERRUN (R383, R384). -/
def execModuleResetOverrun (s : State) : Out := .next (if s.boot.resetStage = 0 then s else s.askPowerCycle 1)

/-- MODULE_RESET (R378, R519): the physical function writes 0x5254. -/
def execModuleReset (fn : Pn) (v : Nat) (s : State) : Out :=
  .next (if fn.val = 0 && s.hif.up && v % 65536 = 0x5254 then s.askModuleReset 0 else s)

/-- PWR_CYCLE_REQ (R384, R519): the physical function writes 0x5043. -/
def execPwrCycleReq (fn : Pn) (v : Nat) (s : State) : Out :=
  .next (if fn.val = 0 && s.hif.up && v % 65536 = 0x5043 then s.askPowerCycle 0 else s)

/-- PCIE_HOT_RESET (R378).
DEDUCED: log entry 86. -/
def execPcieHotReset (s : State) : Out := .next (if s.hif.up then s.askModuleReset 16 else s)

/-- SUPERVISOR_EXPIRY (R384, R470): asked for by the pin alone. -/
def execSupervisorExpiry (s : State) : Out :=
  .next (if s.pow.aux && 2 ≤ s.boot.stage then (s.log 0 Db.supervisor 0).askPowerCycle 2 else s)

end Sys2Proof.Machine
end

