-- ==== Sys2Proof/Machine/Fabric.lean ====
section
/-! DEFINITION. Machine/Fabric: fabric time (R324 to R327), SEND packets and their acknowledgements (R304), remote signals,
group digests (R307) and unknown messages (R305). -/

namespace Sys2Proof.Machine

/-! ### Fabric time (R324 to R327) -/

/-- Whether a port lies on a shortest route to the grandmaster. -/
def State.towardGrand (s : State) (k : Nat) : Bool :=
  let g := s.fab.grand
  g != s.fab.nodeId && ((s.port k).pNode == g || (tget s.fab.routes g ([], 255)).1.contains k)

/-- TIME_SYNC (R324, R325): answered at once; the grandmaster and a forward step it announces are taken over from the port that
leads to it. -/
def execTimeSync (pt : PortN) (h : Hdr) (t1 grand : Nat) (ftStep : Option (Nat × Nat)) (s : State) : Out :=
  s.receive h (fun s =>
    if (s.port pt).st != 4 then s
    else
      let s := s.send 0x21 h.src [pt, t1, s.time, s.time]
      if !s.fab.inSystem then s.modFab (fun f => { f with grand := grand })
      else
        let s := s.chooseGrand grand
        match ftStep with
        | some x => if s.towardGrand pt && s.fab.locked && decide (s.time < x.1) then s.modFab (fun f => { f with ftSet := some x }) else s
        | none => s)

/-- An offset towards the grandmaster has been measured: it is slewed, and LOCKED follows from it; a system formed at epoch 0
starts at its coordinator's count (R324, R325).
DEDUCED: log entry 74. -/
def State.discipline (s : State) (off : Int) : State :=
  let was := s.fab.locked
  let jump := s.fab.fresh && decide (0 < off)
  let s := if jump then { s with time := (s.time + off.toNat) % 2 ^ 64 } else s
  let off := if jump then 0 else off
  let ok := decide (-20 ≤ off) && decide (off ≤ 20)
  let s := s.modFab (fun f => { f with slew := off, fresh := false, locked := ok })
  let s := if ok && !was then s.log 6 Db.timeLock (s.time - off.natAbs) [s.time] else s
  s.tryJoin

/-- TIME_REPLY (R325): link delay and offset from the four times of an exchange. -/
def execTimeReply (pt : PortN) (h : Hdr) (t1 t2 t3 : Nat) (s : State) : Out :=
  s.receive h (fun s =>
    if (s.port pt).st != 4 then s
    else
      let t4 : Int := s.time
      let dly := ((t4 - t1) - ((t3 : Int) - t2)) / 2
      let off := (((t2 : Int) - t1) + ((t3 : Int) - t4)) / 2
      let s := s.modPort pt (fun q => { q with dly := dly.toNat })
      if s.towardGrand pt || (!s.fab.inSystem && (s.port pt).epoch != 0xFFFFFFFF) then s.discipline off else s)

/-- TIME_SYNC_TIMER (R324, R325): every 1 ms, each UP port sends TIME_SYNC, with a forward step announced. -/
def execTimeSyncTimer (s : State) : Out :=
  .next (((List.range 24).filter (fun k => (s.port k).st == 4)).foldl (fun s k =>
    s.send 0x20 (s.port k).pNode ([k, s.time, s.fab.grand] ++ (match s.fab.ftSet with | some x => [x.1, x.2] | none => []))) s)

/-- FTIME_SET (R324): the physical function of the grandmaster, once an epoch, at or above the count at the next whole second.
DEDUCED: log entry 74. -/
def execFtimeSet (fn : Pn) (v : Nat) (s : State) : Out :=
  if fn.val != 0 || !s.hif.up || !s.fab.inSystem || s.fab.grand != s.fab.nodeId || s.fab.ftEpoch == some s.fab.epoch then .next s
  else
    let sec := (s.time / 1000000000 + 1) * 1000000000
    if v < sec then .next (s.log 0 Db.ftimeDiscarded v [sec])
    else .next (s.modFab (fun f => { f with ftSet := some (sec, v - sec), ftEpoch := some f.epoch }))

/-- Dump instants that a forward step jumps over: each adds 1 to LOST and counts DUMP_LOST (R324, R507).
DEDUCED: log entry 59. -/
def State.skipDumps (s : State) (old new : Nat) : State :=
  (List.range 16).foldl (fun s p =>
    let sel := (s.part p).selImg
    let per := leNat (tgets sel 388 4 0) * 1000
    if tget sel 384 0 = 0 || per = 0 then s
    else
      let n := (new - 1) / per - old / per
      if n = 0 then s else (s.modPart p (fun q => { q with dumpLost := q.dumpLost + n })).pcount p PEv.dumpLost n) s

/-- FTIME_STEP (R324): at the whole second a LOCKED member steps its count forward.
DEDUCED: log entry 74. -/
def execFtimeStep (s : State) : Out :=
  match s.fab.ftSet with
  | none => .next s
  | some (sec, amt) =>
    if s.time < sec then .next s
    else
      let s := s.modFab (fun f => { f with ftSet := none })
      if !s.fab.locked || amt = 0 then .next s
      else .next ({ s with time := (s.time + amt) % 2 ^ 64 }.skipDumps s.time (s.time + amt))

/-- PPS_IN_EDGE (R324, R326): an edge more than 1 ms from its second is ignored and counted, and three in a row end the claim;
another aligns the grandmaster's seconds. -/
def execPpsInEdge (s : State) : Out :=
  if s.fld 0 Ty.membership 0 2 1 != 1 || !s.pow.aux then .next s
  else
    let x := s.time % 1000000000
    let off : Int := if x < 500000000 then -(x : Int) else 1000000000 - (x : Int)
    if 1000000 < off.natAbs then
      let bad := min (s.fab.ppsBad + 1) 3
      let s := (s.modFab (fun f => { f with ppsBad := bad, ppsValid := f.ppsValid && decide (bad < 3) })).gcount GEv.timePpsIgnored 1
      .next (if s.fab.inSystem then s.chooseGrand s.fab.grand else s)
    else
      let s := s.modFab (fun f => { f with ppsBad := 0, ppsValid := true })
      let s := if s.fab.inSystem then s.chooseGrand s.fab.grand else s
      .next (if s.fab.grand = s.fab.nodeId then s.modFab (fun f => { f with slew := off }) else s)

/-- PPS_OUT_SECOND (R326): the pulse at a whole second, while LOCKED. -/
def execPpsOutSecond (s : State) : Out :=
  .next (s.modFab (fun f => { f with ppsOut := f.locked && s.time % 1000000000 == 0 }))

/-! ### SEND packets (R220 to R222, R304) -/

/-- A packet of a message reaches its RECV: elements land where the FORMs agree, and after the last the message ends (R222).
DEDUCED: log entry 75. -/
def State.landPacket (s : State) (h : Hdr) (m : DataMsg) (j : Nat) (r : Msg) : State :=
  let same := m.form == r.buf.form
  let s := if same then s.landElems m.dstCell r.buf m.off m.elems m.scales else s
  let have_ := m.off + m.elems.length
  if have_ < m.total then s.modCell m.dstCell (fun cl => { cl with recvs := cl.recvs.set j { r with have_ := have_ } })
  else
    let bad := !same || m.total != r.buf.count
    let s := s.modCell m.dstCell (fun cl => { cl with recvs := cl.recvs.eraseIdx j })
    let s := s.msgEnd m.dstCell r bad
    (s.send 0x31 h.src [m.srcCell * 16384 + m.dstCell * 16 + m.chan, m.seq, b2n bad]).settleCell m.dstCell

/-- DATA (R304): a duplicate is acknowledged again and discarded; the next packet of its flow lands once a RECV is posted for it,
and is acknowledged; any other waits for the sender to send again. -/
def execData (h : Hdr) (m : DataMsg) (s : State) : Out :=
  s.receive h (fun s =>
    let flow := m.srcCell * 16384 + m.dstCell * 16 + m.chan
    let key := h.src * 2 ^ 24 + flow
    let want := tget s.fab.seqRx key 0
    if m.dstCell < 1024 && m.seq = want then
      match findIdx (fun r : Msg => r.node == h.src && r.cell == m.srcCell && r.chan == m.chan && r.mb == m.mb && r.have_ == m.off)
          (s.cell m.dstCell).recvs with
      | none => s
      | some (j, r) =>
        let s := s.modFab (fun f => { f with seqRx := tset f.seqRx key ((want + 1) % 2 ^ 32) 0 })
        let last := m.off + m.elems.length ≥ m.total
        let s := s.landPacket h m j r
        if last then s else s.send 0x31 h.src [flow, m.seq, 0]
    else if (want + 2 ^ 32 - m.seq) % 2 ^ 32 < 2 ^ 31 then s.send 0x31 h.src [flow, m.seq, 0]
    else s)

/-- E2E_ACK (R220, R304): the message the packet belongs to has landed, and SDONE counts. -/
def execE2eAck (h : Hdr) (flow seq : Nat) (bad : Bool) (s : State) : Out :=
  s.receive h (fun s =>
    let c := flow / 16384
    match findIdx (fun m : Msg => m.sent && m.node == h.src && m.cell == flow / 16 % 1024 && m.chan == flow % 16 && m.seq == seq) (s.cell c).sends with
    | none => s
    | some (i, m) =>
      let s := s.modCell c (fun cl => { cl with sends := cl.sends.eraseIdx i })
      ((s.msgEnd c m bad).latency (s.owner c) 4 0 (s.time - m.at_)).settleCell c)

/-- E2E_RESEND (R304, R316): a packet unacknowledged for 200 µs is sent again; where a resend was unacknowledged too, its node
is probed.
DEDUCED: log entry 75. -/
def execE2eResend (c : Cid) (i : Nat) (s : State) : Out :=
  match (s.cell c).sends[i]? with
  | none => .next s
  | some m =>
    if !m.sent || !s.passed m.sentAt 200000 then .next s
    else
      let s := if m.resent then s.startProbe m.node else s
      let s := s.modCell c (fun cl => { cl with sends := cl.sends.set i { m with sentAt := s.time, resent := true } })
      .next ((s.send 0x30 m.node ([c.val, m.cell, m.chan, m.mb, m.seq, m.buf.form, m.buf.count] ++ s.rawAll c m.buf ++ s.rawScales c m.buf)).gcount
        GEv.fabE2eResend 1)

/-! ### Other messages -/

/-- SIGNAL on the fabric (R39, R305): its count is added at the target cell. -/
def execRemoteSignal (h : Hdr) (c : Cid) (k n : Nat) (s : State) : Out :=
  s.receive h (fun s => if 1 ≤ k && k ≤ 15 && n < 65536 then s.addFlag c k n else s)

/-- TYPE values of R305.
DEDUCED: log entry 76. -/
def knownTypes : List Nat :=
  [0x01, 0x02, 0x03, 0x04, 0x05, 0x10, 0x11, 0x12, 0x13, 0x14, 0x15, 0x16, 0x20, 0x21, 0x30, 0x31, 0x32, 0x40, 0x41, 0x42, 0x43] ++
    (List.range 16).map (fun k => 0x50 + k)

/-- UNKNOWN_MESSAGE (R305): a TYPE outside the table is dropped and counted.
DEDUCED: log entry 76. -/
def execUnknownMessage (_h : Hdr) (ty : Nat) (s : State) : Out :=
  .next (if knownTypes.contains ty then s else s.gcount GEv.fabTypeDrop 1)

/-- GROUP_DIGEST (R307): the digest of a member node's group record.
DESIGN CHOICE: log entry 52. -/
def execGroupDigest (h : Hdr) (g : Nat) (dg : List Byte) (s : State) : Out :=
  s.receive h (fun s => (s.modGrp g (fun gr => { gr with digests := tins gr.digests h.src dg })).tryActive g)

end Sys2Proof.Machine
end

