-- ==== Sys2Proof/Machine/Host.lean ====
section
/-! DEFINITION. Machine/Host: the commands of the submission queues (R454 to R464, R385): fetch, refusal and completion, and what each
command does. -/

namespace Sys2Proof.Machine

/-! ### Fetch (R442, R454 to R459) -/

/-- The opcodes of R456. -/
def hostOpcodes : List Nat := [1, 2, 3, 4, 5, 6, 7, 8, 9, 0xA, 0xB, 0xC, 0xD, 0xE, 0xF, 0x10]

/-- The 64 bytes at the head of a submission ring. -/
def Queue.entry (k : Queue) : List Byte := tgets k.ring (64 * (k.head % k.sqLen)) 64 0

/-- A submission entry as a command of queue q (R455). -/
def cmdOf (q : Nat) (b : List Byte) : Cmd :=
  let f (o n : Nat) : Nat := leNat ((b.drop o).take n)
  { q := q, at_ := 0, op := f 0 1, flags := f 1 1, cid := f 2 2, first := f 4 2, count := f 6 2, set := f 8 1
    a0 := f 0x10 8, a1 := f 0x18 8, a2 := f 0x20 8, a3 := f 0x28 8 }

/-- Whether the reserved bytes of an entry are zero (R455). -/
def entryClean (b : List Byte) : Bool :=
  ((b.drop 9).take 7).all (fun x => x == 0) && (b.drop 0x30).all (fun x => x == 0) && leNat ((b.drop 1).take 1) < 8

/-- A command completes: STATUS, CAUSE and INFO0 (R458, R459). -/
def State.finish (s : State) (p : Nat) (k : Cmd) (status cause : Nat) (info0 : Nat := 0) : State :=
  s.complete p k.q k.cid status cause info0 0 (bit k.flags 1)

/-- A command completes REFUSED with a named cause: 1 RESERVED, 2 OWNER, 3 OPCODE, 4 STATE, 5 SPACE, 6 HOST_TIMEOUT, 7 MEM_ERROR, 8 REGION,
11 ARGUMENT, 12 RESTORING, 13 FAULTED MODULE, 20 + n drill package refused.
DESIGN CHOICE: log entry 88. -/
def State.refuse (s : State) (p : Nat) (k : Cmd) (cause : Nat) : State := s.finish p k 2 (Config.hostCause cause)

/-- The token by which cells owe a command its completion. -/
def Cmd.tok (k : Cmd) : Nat := k.q * 2 ^ 17 + b2n (bit k.flags 1) * 2 ^ 16 + k.cid

/-- Whether the module can fetch from a queue now (R454, R455, R458, R467). -/
def State.canFetch (s : State) (p q : Nat) : Bool :=
  let k := s.queue p q
  s.hif.up && decide (p ≤ s.hif.numVf) && k.st == 1 && k.head != k.sqTail && k.cwait.isEmpty && !k.cqFull &&
    !(s.part p).resetting && !(bit (leNat ((k.entry.drop 1).take 1)) 0 && !k.open_.isEmpty)

/-- The entry at the head of a queue is fetched (R442, R455, R456): the state with what ends it at once, or the state and the command,
where it is of the opcode named.
DEDUCED: log entry 87. -/
def State.fetchCmd (s : State) (p q op : Nat) : State ⊕ State × Cmd :=
  if !s.canFetch p q then .inl s
  else
    let b := (s.queue p q).entry
    let k := { cmdOf q b with at_ := s.time }
    let t := s.modQueue p q (fun x => { x with head := (x.head + 1) % x.sqLen, open_ := x.open_ ++ [k] })
    if !hostOpcodes.contains k.op then .inl (t.refuse p k 3)
    else if k.op != op then .inl s
    else if !s.boot.ready && op != 0x10 then .inl (t.finish p k 3 0)
    else if !entryClean b then .inl (t.refuse p k 1)
    else .inr (t, k)

/-- One command: fetched, then f. -/
def State.command (s : State) (p q op : Nat) (f : State → Cmd → State) : Out :=
  match s.fetchCmd p q op with
  | .inl t => .next t
  | .inr (t, k) => .next (f t k)

/-! ### Arguments (R455, R456) -/

/-- An argument's address: host or device; none where reserved bits are set. -/
def argAddr (a : Nat) : Option (Bool × Nat) :=
  if 2 ^ 63 ≤ a then some (true, a % 2 ^ 63) else if a < 2 ^ 48 then some (false, a) else none

/-- Why n bytes at an address may not be used: 1 RESERVED, 2 OWNER. -/
def State.addrBad (s : State) (p a n : Nat) : Option Nat :=
  match argAddr a with
  | none => some 1
  | some (true, _) => none
  | some (false, d) => if s.ownsMem p d n then none else some 2

/-- n bytes at an argument's address. -/
def State.rdArg (s : State) (a n : Nat) : List Byte :=
  match argAddr a with
  | some (true, h) => s.rdHost h n
  | some (false, d) => s.rdMem d n
  | none => []

/-- Device address of an uncorrectable error among the bytes a command reads. -/
def State.argError (s : State) (a n : Nat) : Option Nat :=
  match argAddr a with
  | some (false, d) => s.badIn d n
  | _ => none

/-- The cells a command names (R455): the range, or the bitmap at ARG3.
DEDUCED: log entry 95. -/
def State.cmdCells (s : State) (k : Cmd) : List Nat :=
  if k.set = 0 then (List.range k.count).map (fun i => k.first + i)
  else
    let m := s.rdArg k.a3 128
    (List.range 1024).filter (fun c => bit ((m.getD (c / 8) 0).toNat) (c % 8))

/-- A command over a cell set: ZERO_WORK for none, REFUSED for a cell outside the partition, else f over the cells.
DEDUCED: log entry 95. -/
def State.overCells (s : State) (p : Nat) (k : Cmd) (f : List Nat → State) : State :=
  if 1 < k.set then s.refuse p k 1
  else match (if k.set = 1 then s.addrBad p k.a3 128 else none) with
    | some e => s.refuse p k e
    | none =>
      let cs := s.cmdCells k
      if cs.isEmpty then s.finish p k 1 0
      else if cs.any (fun c => decide (1024 ≤ c) || s.owner c != p) then s.refuse p k 2
      else f cs

/-! ### LOAD (R50 to R52, R213, R397, R444) -/

/-- The first check of R51 that an image fails, 0 for none.  b is the image as far as its source goes.
DEDUCED: log entry 89. -/
def State.imageFail (s : State) (p : Nat) (b : List Byte) : Nat :=
  let f (o n : Nat) : Nat := leNat ((b.drop o).take n)
  let zero (o n : Nat) : Bool := ((b.drop o).take n).all (fun x => x == 0)
  let words := f 0xC 2
  let entry := f 0xE 2
  let ts := (List.range 1024).filter (fun c => bit (f (0x20 + c / 8) 1) (c % 8))
  if b.length < 256 || f 0 4 != 0x48555047 || f 4 1 != 1 then 1
  else if b.length < 256 + 16 * words || crc32c (b.take 16 ++ leBytes 4 0 ++ (b.drop 20).take (236 + 16 * words)) != f 0x10 4 then 2
  else if f 5 1 != 0x10 then 3
  else if 4 ≤ f 6 2 || !zero 0x14 12 || !zero 0xA0 96 then 4
  else if 4096 < words || (if words = 0 then entry != 0 else decide (words ≤ entry)) then 5
  else if ts.any (fun c => s.owner c != p) then 6
  else if ts.any (fun c => (s.cell c).mapDark || (s.cell c).dark) then 7
  else if ts.any (fun c => (s.cell c).st == 2) then 8
  else if bit (f 6 2) 1 && s.mode p 2 1 == 0 then 9
  else 0

/-- A cell as LOAD leaves it (R52, R64, R213): READY at ENTRY, flag counters, loop stack, fault record and heartbeat cleared. -/
def Cell.loaded (cl : Cell) (b : List Byte) (now : Nat) : Cell :=
  let f (o n : Nat) : Nat := leNat ((b.drop o).take n)
  let words := f 0xC 2
  let code := (List.range words).foldl (fun t i => tset t i (BitVec.ofNat 128 (f (256 + 16 * i) 16)) 0) ([] : Tbl (BitVec 128))
  { cl with
    st := 1, stopHost := false, pc := f 0xE 2, entry := f 0xE 2, progId := f 8 4, eval := bit (f 6 2) 0, repro := bit (f 6 2) 1
    codeWords := words, imageCrc := f 0x10 4, imageHdr := b.take 256, ibuf := code, fbuf := code, flags := [], loops := []
    heartbeat := 0, fault := FaultRec.reset, unitStatus := [], timedOut := false, skip := false, rejected := false
    flight := [], ins := [], arbs := [], coll := [], wait := Wait.reset, startPend := false, draining := 0, fetches := 0, loadAt := now }

/-- LOAD: all targeted cells or none.
DESIGN CHOICE: log entry 88. -/
def execLoad (fn : Pn) (q : Fin 63) (s : State) : Out :=
  s.command fn q 1 (fun s k =>
    let n := min k.a1 (256 + 65536)
    if k.a1 = 0 then s.finish fn k 1 0
    else match s.addrBad fn k.a0 n with
      | some e => s.refuse fn k e
      | none =>
        if s.boot.memFault then s.refuse fn k 13
        else match s.argError k.a0 n with
          | some a => s.finish fn k 5 (Config.hostCause 7) a
          | none =>
            let b := s.rdArg k.a0 n
            let ts := (List.range 1024).filter (fun c => bit (leNat ((b.drop (0x20 + c / 8)).take 1)) (c % 8))
            let e := s.imageFail fn b
            if e != 0 then s.finish fn k 2 e
            else if leNat ((b.drop 0xC).take 2) = 0 || ts.isEmpty then s.finish fn k 1 0
            else if ts.any (fun c => !s.regionOn c) then s.refuse fn k 8
            else
              let s := ts.foldl (fun s c => (s.modCell c (fun cl => cl.loaded b s.time)).loadPlaced fn c) s
              (s.finish fn k 0 0).tryReady fn)

/-! ### START, STOP, RESUME (R55 to R57) -/

/-- A cell begins issue at ENTRY (R55). -/
def State.startCell (s : State) (c : Nat) : State :=
  s.modCell c (fun cl => { cl with
    st := 2, stopHost := false, pc := cl.entry, flags := [], loops := [], wait := Wait.reset, startPend := false, startAt := 0 })

/-- Whether R55 lets a cell start. -/
def Cell.startable (cl : Cell) : Bool := cl.st == 1 || (cl.st == 3 && !cl.stopHost)

/-- START (R55, R397): the whole set or none; a fabric time still to come is kept.
DEDUCED: log entry 89. -/
def execStart (fn : Pn) (q : Fin 63) (s : State) : Out :=
  s.command fn q 2 (fun s k => s.overCells fn k (fun cs =>
    if cs.any (fun c => !(s.cell c).startable) then s.refuse fn k 4
    else if cs.any (fun c => !s.regionOn c) then s.refuse fn k 8
    else
      let s := cs.foldl (fun s c =>
        if k.a0 ≤ s.time then s.startCell c else s.modCell c (fun cl => { cl with startPend := true, startAt := k.a0 })) s
      s.finish fn k 0 0))

/-- START_TIME_REACHED (R55). -/
def execStartTimeReached (c : Cid) (s : State) : Out :=
  let cl := s.cell c
  .next (if cl.startPend && cl.startAt ≤ s.time && cl.startable then s.startCell c else s)

/-- Running cells are told to stop for one command, which completes once the last of them has stopped (R56). -/
def State.stopCells (s : State) (cs : List Nat) (tok : Nat) : State :=
  let s := cs.foldl (fun s c => s.modCell c (fun cl => { cl with
    draining := if cl.draining == 1 then 1 else 2, hostStopBy := cl.hostStopBy ++ [tok] })) s
  cs.foldl State.settleCell s

/-- STOP (R56, R57): each running cell drains; a stopped or faulted one completes with no effect.
DEDUCED: log entry 89. -/
def execHostStop (fn : Pn) (q : Fin 63) (s : State) : Out :=
  s.command fn q 3 (fun s k => s.overCells fn k (fun cs =>
    let s := cs.foldl (fun s c => s.modCell c (fun cl => { cl with startPend := false })) s
    let run := cs.filter (fun c => (s.cell c).st == 2 && (s.cell c).resetLevel == 0)
    if run.isEmpty then s.finish fn k 0 0 else s.stopCells run k.tok))

/-- RESUME (R56): cells stopped for reason HOST go on at their program counter. -/
def execResume (fn : Pn) (q : Fin 63) (s : State) : Out :=
  s.command fn q 4 (fun s k => s.overCells fn k (fun cs =>
    if cs.any (fun c => (s.cell c).st != 3 || !(s.cell c).stopHost) then s.refuse fn k 4
    else (cs.foldl (fun s c => s.modCell c (fun cl => { cl with st := 2, stopHost := false })) s).finish fn k 0 0))

/-! ### Resets (R378, R380, R386) -/

/-- A context or engine reset of a set of cells. -/
def State.resetCells (s : State) (p : Nat) (k : Cmd) (level ev : Nat) (cs : List Nat) : State :=
  if (s.part p).snap = 2 then s.refuse p k 12
  else cs.foldl (fun s c => ((s.logReset level p (some c) p).pcount p ev 1).beginReset c level [k.tok]) s

/-- RESET_CONTEXT; held while the emergency sequence runs (R386). -/
def execResetContext (fn : Pn) (q : Fin 63) (s : State) : Out :=
  if s.rack.emerg then .next s
  else s.command fn q 5 (fun s k => s.overCells fn k (fun cs => s.resetCells fn k 1 PEv.resetContext cs))

/-- RESET_ENGINE: one cell.
DEDUCED: log entry 89. -/
def execResetEngine (fn : Pn) (q : Fin 63) (s : State) : Out :=
  if s.rack.emerg then .next s
  else s.command fn q 6 (fun s k => s.overCells fn { k with set := 0 } (fun cs =>
    if cs.length != 1 then s.refuse fn k 11 else s.resetCells fn k 2 PEv.resetEngine cs))

/-! ### DMA_COPY (R462) -/

/-- DMA_COPY: between host and module memory, in either direction. -/
def execDmaCopy (fn : Pn) (q : Fin 63) (s : State) : Out :=
  s.command fn q 7 (fun s k =>
    if k.a2 = 0 then s.finish fn k 1 0
    else match s.addrBad fn k.a0 k.a2, s.addrBad fn k.a1 k.a2 with
      | some e, _ => s.refuse fn k e
      | none, some e => s.refuse fn k e
      | none, none =>
        if decide (2 ^ 63 ≤ k.a0) = decide (2 ^ 63 ≤ k.a1) then s.refuse fn k 5
        else s.modFunc fn (fun f => { f with dma := f.dma ++ [k] }))

/-- The k-th copy in flight leaves the list. -/
def State.endCopy (s : State) (p k : Nat) : State := s.modFunc p (fun f => { f with dma := f.dma.eraseIdx k })

/-- DMA_COPY_DONE: the copy ends; an uncorrectable error stops a copy to the host before the bad line. -/
def execDmaCopyDone (fn : Pn) (k : Nat) (s : State) : Out :=
  match (s.func fn).dma[k]? with
  | none => .next s
  | some m =>
    let t := (s.endCopy fn k).latency fn 6 0 (s.time - m.at_)
    if 2 ^ 63 ≤ m.a0 then .next ((t.wrMem m.a1 (t.rdHost (m.a0 % 2 ^ 63) m.a2)).finish fn m 0 0)
    else
      let h := m.a1 % 2 ^ 63
      match t.badIn m.a0 m.a2 with
      | some a => .next ((t.wrHost h (t.rdMem m.a0 (a / 64 * 64 - m.a0))).finish fn m 5 (Config.hostCause 7) a)
      | none => .next ((t.wrHost h (t.rdMem m.a0 m.a2)).finish fn m 0 0)

/-- HOST_READ_TIMEOUT: a copy from the host fails after done bytes. -/
def execHostReadTimeout (fn : Pn) (k done : Nat) (s : State) : Out :=
  match (s.func fn).dma[k]? with
  | none => .next s
  | some m =>
    if m.a0 < 2 ^ 63 || m.a2 ≤ done then .next s
    else
      let t := (s.endCopy fn k).latency fn 6 0 (s.time - m.at_)
      .next ((t.wrMem m.a1 (t.rdHost (m.a0 % 2 ^ 63) done)).finish fn m 5 (Config.hostCause 6))

/-! ### TACK, TCOMMIT, FLAG (R244, R245, R268) -/

/-- The groom is asked to write a partition's record to the tack store. -/
def State.persist (s : State) (p ty inst : Nat) : State := s.askWrite (ty + 65536 * p) inst

/-- TACK: a whole record image. -/
def execHostTack (fn : Pn) (q : Fin 63) (s : State) : Out :=
  s.command fn q 8 (fun s k =>
    let len := leNat ((s.rdArg k.a0 8).drop 4)
    match s.addrBad fn k.a0 32, s.addrBad fn k.a0 (min (max len 32) (2 ^ 20)) with
    | some e, _ => s.refuse fn k e
    | none, some e => s.refuse fn k e
    | none, none =>
      match s.argError k.a0 (min (max len 32) (2 ^ 20)) with
      | some a => s.finish fn k 5 (Config.hostCause 7) a
      | none =>
        let r := s.tackImage fn false (2 ^ 21) (fun n => s.rdArg k.a0 n)
        if r.2.1 = 0 then ((if bit k.flags 2 then r.1.persist fn r.2.2.1 r.2.2.2 else r.1).finish fn k 0 0) else r.1.finish fn k 2 r.2.1)

/-- TCOMMIT: the function's shadows of a type. -/
def execHostTcommit (fn : Pn) (q : Fin 63) (s : State) : Out :=
  s.command fn q 9 (fun s k =>
    let r := s.commitShadows fn (k.a0 % 65536) false
    if r.2.1 = 0 then
      (if bit k.flags 2 then r.2.2.foldl (fun s c => s.persist fn c.ty c.inst) r.1 else r.1).finish fn k 0 0
    else r.1.finish fn k 2 r.2.1)

/-- FLAG: the update doorbell. -/
def execFlag (fn : Pn) (q : Fin 63) (s : State) : Out :=
  s.command fn q 0xA (fun s k => s.overCells fn k (fun cs =>
    let f := bits k.a0 3 0
    let n := bits k.a0 31 16
    if f = 0 then s.refuse fn k 11
    else if n = 0 then s.finish fn k 1 0
    else (cs.foldl (fun s c => s.addFlag c f n) s).finish fn k 0 0))

/-! ### ATTACH (R385) -/

/-- ATTACH: planes and load header are taken, the check table formed; the drift check follows.
DEDUCED: log entry 90. -/
def execAttach (fn : Pn) (q : Fin 63) (s : State) : Out :=
  s.command fn q 0xB (fun s k =>
    let c := k.first
    let lx := bits k.a0 2 0
    let extra := k.a3 != 0
    if 1024 ≤ c || s.owner c != fn then s.refuse fn k 2
    else match s.addrBad fn k.a1 262144, s.addrBad fn k.a2 64, (if extra then s.addrBad fn k.a3 524288 else none) with
      | some e, _, _ => s.refuse fn k e
      | none, some e, _ => s.refuse fn k e
      | none, none, some e => s.refuse fn k e
      | none, none, none =>
        let cl := s.cell c
        let x := cl.phys lx
        if !s.regionOn c then s.refuse fn k 8
        else if (s.xbar (s.reg c) x).st = 3 || cl.wq.any (fun j => j.phys == x) then s.refuse fn k 4
        else match s.argError k.a1 262144, s.argError k.a2 64 with
          | some a, _ => s.finish fn k 5 (Config.hostCause 7) a
          | none, some a => s.finish fn k 5 (Config.hostCause 7) a
          | none, none =>
            let pl (n : Nat) := s.planeBase c (cl.set lx) n
            let codes := s.rdArg k.a1 262144
            let hdr := s.rdArg k.a2 64
            let carry := if extra then (s.rdArg k.a3 524288).take 262144 else List.replicate 262144 0
            let ach := if extra then (s.rdArg k.a3 524288).drop 262144 else List.replicate 262144 0
            let s := ((s.wrMem (pl 0) codes).wrMem (pl 1) carry).wrMem (pl 2) ach
            let dv := (List.range 4).map (fun g => divisor ((List.range 512).map (fun i => checkSum (s.codeRow (pl 0) i) g)))
            let s := s.modXbar (s.reg c) x (fun b =>
              let b := b.loadHeader hdr
              s.formTable { b with dv := (List.range 4).foldl (fun t g => tset t g (dv.getD g 1) 1) [] } (pl 0))
            (s.markDirty c lx).modCell c (fun cl => { cl with attach := cl.attach ++ [(lx, k.tok)] }))

/-- ATTACH_DRIFT_CHECK (R385, R445): levels are the verify-reads of rows 0, 16, …, 496, in 1/64 level and row order, codes the
conversions of the reference read.  It waits while the converters have not calibrated.
DEDUCED: log entry 90. -/
def execAttachDriftCheck (c : Cid) (levels codes : List Int) (s : State) : Out :=
  let cl := s.cell c
  match cl.attach with
  | [] => .next s
  | (lx, tok) :: rest =>
    let r := s.reg c
    let x := cl.phys lx
    if s.boot.refin || (s.xbar r x).selfCal || !s.regionOn c then .next s
    else
      let base := s.planeBase c (cl.set lx) 0
      let near := (List.range 16384).all (fun n =>
        decide ((levels.getD n 2048 - 64 * s.codeAt base (16 * (n / 512)) (n % 512)).natAbs ≤ 32))
      let s := s.modXbar r x (fun b => { b with progTime := s.time })
      let k := s.refK r x codes
      let t := s.modCell c (fun cl => { cl with attach := rest })
      if near && mkRat 9 10 ≤ k && k ≤ mkRat 11 10 then
        let t := t.modXbar r x (fun b => { b.programmed s.time with st := 0, k := rneNat (k * 32768) })
        .next (t.complete (s.owner c) (tok / 2 ^ 17) (tok % 65536) 0 0 0 0 (tok / 65536 % 2 == 1))
      else
        let t := (t.modXbar r x (fun b => { b with st := 4, progTime := 0 })).count c Ev.driftCheckFail 1 (xq x)
        .next ((t.logC c Db.driftCheckFail x).complete (s.owner c) (tok / 2 ^ 17) (tok % 65536) 5 (Config.hostCause 14) 0 0 (tok / 65536 % 2 == 1))

/-! ### SNAP_REQ, DRILL_PKG, SHARD_MAP, PLAN_BUF, STATUS (R343, R368, R463, R464) -/

/-- SNAP_REQ, cause HOST (R343). -/
def execHostSnapReq (fn : Pn) (q : Fin 63) (s : State) : Out :=
  s.command fn q 0xC (fun s k => (s.askSnap fn 1).finish fn k 0 0)

/-- Patterns of a drill package: ID and the attribute bits above it (R368). -/
def pkgPatterns (b : List Byte) : List (Nat × Nat) :=
  (List.range (leNat ((b.drop 0x14).take 2))).map (fun i =>
    let w := leNat ((b.drop (32 + 16 * i)).take 16)
    (w % 65536, w / 65536))

/-- Why a drill package is refused: 0 accepted, 1 signature, 2 form or reserved field, 3 pattern under another package, 4 SEQ, 5 no
room (R368).
DEDUCED: log entry 90. -/
def State.pkgFail (s : State) (b : List Byte) : Nat :=
  let f (o n : Nat) : Nat := leNat ((b.drop o).take n)
  let n := f 0x14 2
  let id := f 6 2
  let ps := pkgPatterns b
  let others := s.groom.pkgs.filter (fun g => g.1 != id)
  if b.length != 32 + 16 * n + 2420 || 65536 < b.length || f 0 4 != 0x4844524C || f 4 1 != 1 || n = 0 || 1024 < n || id < 0x100 then 2
  else if !Config.mlDsaVerify 2 (b.take (32 + 16 * n)) (b.drop (32 + 16 * n)) then 1
  else if f 5 1 != 0 || f 0x16 10 != 0 || ps.any (fun p => decide (2 ^ 16 ≤ p.2) || bits p.2 1 0 == 3 || 4 ≤ bits p.2 7 2) then 2
  else if ps.any (fun p => others.any (fun g => g.2.2.2.any (fun t => t.1 == p.1))) then 3
  else if s.groom.pkgs.any (fun g => g.1 == id && f 8 4 ≤ g.2.1) then 4
  else if 4 ≤ others.length then 5
  else 0

/-- A package in PKG_ID order, in place of one with its number. -/
def insPkg (k : Nat × Nat × Nat × List (Nat × Nat)) (l : List (Nat × Nat × Nat × List (Nat × Nat))) : List (Nat × Nat × Nat × List (Nat × Nat)) :=
  match l with
  | [] => [k]
  | g :: r => if k.1 < g.1 then k :: g :: r else if k.1 = g.1 then k :: r else g :: insPkg k r

/-- A package is offered (R368): installed and written to the tack store, or refused with its cause logged. -/
def State.installPkg (s : State) (b : List Byte) : State × Nat :=
  let f (o n : Nat) : Nat := leNat ((b.drop o).take n)
  let id := f 6 2
  let e := s.pkgFail b
  if e != 0 then (s.log 0 Db.drillPkgRefused id [e], e)
  else
    let s := { s with recs := tins s.recs (recKey 0 Ty.drillPackage id) { len := b.length, bytes := tputs [] 0 b 0 } }
    ((s.modGroom (fun g => { g with pkgs := insPkg (id, f 8 4, f 0xC 8, pkgPatterns b) g.pkgs })).askWrite Ty.drillPackage id, 0)

/-- DRILL_PKG: the physical function only. -/
def execDrillPkg (fn : Pn) (q : Fin 63) (s : State) : Out :=
  s.command fn q 0xD (fun s k =>
    let n := min k.a1 65537
    if fn.val != 0 then s.refuse fn k 2
    else if k.a1 = 0 then s.finish fn k 1 0
    else match s.addrBad fn k.a0 n with
      | some e => s.refuse fn k e
      | none =>
        match s.argError k.a0 n with
        | some a => s.finish fn k 5 (Config.hostCause 7) a
        | none =>
          let r := s.installPkg (s.rdArg k.a0 n)
          if r.2 = 0 then r.1.finish fn k 0 0 else r.1.refuse fn k (20 + r.2))

/-- SHARD_MAP (R463): the first map acts at once, a later one at a step boundary.
DEDUCED: log entry 90. -/
def execShardMap (fn : Pn) (q : Fin 63) (s : State) : Out :=
  s.command fn q 0xE (fun s k =>
    if k.a2 = 0 then s.finish fn k 1 0
    else if k.a0 < 2 ^ 63 || 2 ^ 63 ≤ k.a1 then s.refuse fn k 5
    else match s.addrBad fn k.a1 k.a2 with
      | some e => s.refuse fn k e
      | none =>
        let m := (k.a0 % 2 ^ 63, k.a1, k.a2)
        (s.modPart fn (fun p => if p.shardMap.2.2 = 0 then { p with shardMap := m } else { p with shardMapNext := some m })).finish fn k 0 0)

/-- PLAN_BUF (R464): recovery that waits for a buffer writes its plan again. -/
def execPlanBuf (fn : Pn) (q : Fin 63) (s : State) : Out :=
  s.command fn q 0xF (fun s k =>
    if k.a1 = 0 then s.finish fn k 1 0
    else if k.a0 < 2 ^ 63 then s.refuse fn k 5
    else
      let s := (s.modPart fn (fun p => { p with planBuf := (k.a0 % 2 ^ 63, k.a1) })).finish fn k 0 0
      if (s.part fn).planWait then s.givePlan fn else s)

/-- The status register of the module block, offset 0x0010 (R519). -/
def State.statusWord (s : State) : Nat :=
  let b := s.boot
  let h := s.hif
  b2n b.ready + 2 * b2n b.refin + 4 * b2n b.degraded + 8 * b2n h.degraded + 16 * b2n h.fail + 32 * b2n b.modFault + 2 ^ 8 * (b.stage % 256) +
    2 ^ 16 * (b.failCause % 256) + 2 ^ 24 * (b.faultCause % 256) + 2 ^ 32 * (h.rate % 16) + 2 ^ 36 * (h.width % 32)

/-- STATUS: answered before MODULE_READY too. -/
def execStatus (fn : Pn) (q : Fin 63) (s : State) : Out :=
  s.command fn q 0x10 (fun s k => s.finish fn k 0 0 s.statusWord)

end Sys2Proof.Machine
end

