-- ==== Sys2Proof/Machine/Hif.lean ====
section
/-! DEFINITION. Machine/Hif: the PCI Express link (R447, R448, R467), queue pairs and doorbells (R451, R454, R461), the BAR4 window and the
errors of the link (R452, R453, R465). -/

namespace Sys2Proof.Machine

/-- Whether a function exists and its link is up. -/
def State.fnUp (s : State) (p : Nat) : Bool := s.hif.up && decide (p ≤ s.hif.numVf)

/-! ### Doorbells (R451, R453, R454, R458) -/

/-- Bytes written to a submission ring from an entry on, around its end. -/
def ringPut (ring : Tbl Byte) (size at_ : Nat) (l : List Byte) : Tbl Byte :=
  (List.zip (List.range l.length) l).foldl (fun t e => tset t ((at_ + e.1) % size) e.2 0) ring

/-- SQ_DOORBELL: the driver's new tail, after what it wrote to its own memory and to the ring from its old tail on; a tail outside the
ring is an ERROR.
DESIGN CHOICE: log entry 13. -/
def execSqDoorbell (fn : Pn) (q : Fin 63) (tail : Nat) (entries : List Byte) (host : List (Nat × List Byte)) (s : State) : Out :=
  let k := s.queue fn q
  if !s.fnUp fn then .next s
  else
    let s := host.foldl (fun s e => s.wrHost e.1 e.2) s
    if k.st != 1 then .next s
    else if k.sqLen ≤ tail then .next (s.modQueue fn q (fun k => { k with st := 2 }))
    else .next (s.modQueue fn q (fun k => { k with
      ring := ringPut k.ring (64 * k.sqLen) (64 * k.sqTail) (entries.take (64 * k.sqLen)), sqTail := tail }))

/-- CQ_HEAD_DOORBELL: the driver has read up to a head; completions that waited take the room (R458). -/
def execCqHeadDoorbell (fn : Pn) (q : Fin 63) (head : Nat) (s : State) : Out :=
  let k := s.queue fn q
  if !s.fnUp fn || k.st != 1 || k.cqLen ≤ head then .next s
  else .next ((s.modQueue fn q (fun k => { k with cqHead := head })).drainCqe fn q k.cwait.length)

/-- Q_CREATE (R454, R461, R467, R520): refused by its fields or before queue 0; copies ended by a link loss then complete ABORTED.
DEDUCED: log entry 87. -/
def execQCreate (fn : Pn) (q : Fin 63) (s : State) : Out :=
  let k := s.queue fn q
  if !s.fnUp fn || k.st != 0 || 12 < k.sqLog || 12 < k.cqLog || (if fn.val = 0 then 64 else 16) ≤ k.vec || k.cqBase % 4096 != 0 ||
      1000 < k.coUs || (q.val != 0 && (s.queue fn 0).st == 0) then .next s
  else
    let s := s.modQueue fn q (fun k => { k with
      st := 1, head := 0, sqTail := 0, cqTail := 0, cqHead := 0, phase := true, cwait := [], unsig := 0, open_ := [] })
    let due := (s.func fn).aborted.filter (fun e => e.1 == q.val)
    let s := s.modFunc fn (fun f => { f with aborted := f.aborted.filter (fun e => e.1 != q.val) })
    .next (due.foldl (fun s e => s.complete fn q e.2 4 0 0 0 true) s)

/-- A queue pair as it is once gone: its fields stay, its entries do not. -/
def Queue.gone (k : Queue) : Queue :=
  { k with st := 0, head := 0, sqTail := 0, cqTail := 0, cqHead := 0, phase := true, cwait := [], unsig := 0, open_ := [] }

/-- Q_DELETE (R454). -/
def execQDelete (fn : Pn) (q : Fin 63) (s : State) : Out :=
  .next (if s.fnUp fn && (s.queue fn q).st != 0 then s.modQueue fn q Queue.gone else s)

/-- CQ_COALESCE_TIMER (R461). -/
def execCqCoalesceTimer (fn : Pn) (q : Fin 63) (s : State) : Out :=
  let k := s.queue fn q
  .next (if k.st = 1 && s.fnUp fn && k.unsig != 0 && k.coUs != 0 && s.passed k.unsigAt (k.coUs * 1000) then
    (s.modQueue fn q (fun k => { k with unsig := 0 })).fire fn k.vec else s)

/-! ### The BAR4 window and errors (R452, R465) -/

/-- log2 of a function's BAR4 size (R450). -/
def State.barLog (s : State) (p : Nat) : Nat := if p = 0 then s.hif.bar4Log else s.fld 0 Ty.hostInterface 0 2 1

/-- A completion of a host read: status and data.
DEDUCED: log entry 91. -/
def State.hostRead (s : State) (status : Nat) (data : List Byte) : State := s.modHif (fun h => { h with rdStatus := status, rdData := data })

/-- A HOST_ERROR event: kind and address (R460, R465). -/
def State.hostError (s : State) (p kind addr : Nat) : State := s.event p 0xA (Config.hostCause kind) (Config.hostCause kind) addr

/-- An access outside the memory a partition owns (R452). -/
def State.winViolation (s : State) (p a : Nat) : State := (s.gcount GEv.hifWinViolation 1).log 5 Db.hifWinViolation p [a]

/-- BAR4_ACCESS (R452, R465): a read, or a write of wr, of n bytes at an offset of the window.
DEDUCED: log entry 91. -/
def execBar4Access (fn : Pn) (off len : Nat) (wr : Option (List Byte)) (s : State) : Out :=
  let a := (s.func fn).winBase + off
  let n := match wr with
    | some l => l.length
    | none => len
  if !s.fnUp fn || n = 0 then .next s
  else if 2 ^ s.barLog fn < off + n then .next (match wr with
    | some _ => s
    | none => s.hostRead 1 [])
  else
    let bad := (List.range n).find? (fun i => !s.ownsMem fn (a + i) 1)
    match wr with
    | some l =>
      let t := (List.zip (List.range n) l).foldl (fun t e => if s.ownsMem fn (a + e.1) 1 then t.wrMem (a + e.1) [e.2] else t) s
      .next (match bad with
        | some i => t.winViolation fn (a + i)
        | none => t)
    | none =>
      match bad, s.badIn a n with
      | some i, _ => .next ((s.hostRead 1 []).winViolation fn (a + i))
      | none, some e => .next ((s.hostRead 2 []).hostError fn 7 e)
      | none, none => .next (s.hostRead 0 (s.rdMem a n))

/-- POISONED_TLP (R465): a poisoned write to BAR2 or BAR4 is discarded. -/
def execPoisonedTlp (fn : Pn) (bar : Fin 6) (addr : Nat) (s : State) : Out :=
  .next (if s.fnUp fn && (bar.val = 2 || bar.val = 4) then s.hostError fn 10 addr else s)

/-! ### The link (R442, R446 to R448, R467) -/

/-- The link leaves DL_Active (R467): queues end and must be created again; copies in flight end and are owed an ABORTED completion. -/
def State.linkDown (s : State) : State :=
  if !s.hif.up then s
  else
    let s := s.modHif (fun h => { h with up := false, rate := 0, width := 0 })
    { s with funcs := s.funcs.map (fun e => (e.1, { e.2 with
      qs := e.2.qs.map (fun k => (k.1, k.2.gone)), dma := [], aborted := e.2.aborted ++ e.2.dma.map (fun k => (k.q, k.cid)) })) }

/-- LINK_LOSS (R467). -/
def execLinkLoss (s : State) : Out := .next s.linkDown

/-- MALFORMED_TLP: handled as link loss (R465). -/
def execMalformedTlp (s : State) : Out := .next s.linkDown

/-- PERST_DEASSERT (R442). -/
def execPerstDeassert (s : State) : Out := .next (s.modHif (fun h => { h with perst := false }))

/-- PERST_ASSERT (R378, R446): during bring-up the host interface alone resets; afterwards it is a fundamental reset of the module.
DESIGN CHOICE: log entry 101. -/
def execPerstAssert (s : State) : Out :=
  let t := s.linkDown.modHif (fun h => { h with perst := true })
  .next (if s.boot.running then { t with funcs := [] } else t.askModuleReset 16)

/-- PCIE_LINK_UP (R442, R448): the link trains after the tack load; below 16 GT/s or ×8 it is held in Detect.
DEDUCED: log entry 105. -/
def execPcieLinkUp (rate width : Nat) (s : State) : Out :=
  let open_ := (s.boot.running && decide (5 ≤ s.boot.stage)) || s.boot.ready || decide (4 ≤ s.boot.resetStage)
  if !s.pow.aux || s.hif.perst || s.hif.up || !open_ then .next s
  else if rate < 4 || 6 < rate || (width != 8 && width != 16) then .next (s.modHif (fun h => { h with fail := true }))
  else
    let low := rate < 6 || width < 16
    let t := s.modHif (fun h => { h with up := true, rate := rate, width := width, degraded := low, fail := false })
    .next (if low then t.log 5 Db.hifLinkDegraded (rate + 256 * width) else t)

end Sys2Proof.Machine
end

