-- ==== Sys2Proof/Machine/Groom.lean ====
section
/-! DEFINITION. Machine/Groom: PLDM sensors, events and effecters (R471 to R475), updates (R478, R479), SPDM attestation (R481 to R483),
the daybook's readers (R485) and the Ryulopen mailbox (R486). -/

namespace Sys2Proof.Machine

/-! ### Bindings (R471, R472) -/

/-- Whether the groom answers on a binding, from a bring-up stage on: 0 I3C, 1 SMBus, 2 PCI Express VDM, 3 the DOE mailbox. -/
def State.answers (s : State) (b stage : Nat) : Bool :=
  s.pow.aux && (decide (b < 2) || s.hif.up) && (decide (stage ≤ s.boot.stage) || s.boot.ready) && !(s.boot.held && s.boot.failCause == 1)

/-- A response on a binding: protocol 0 control, 1 PLDM, 5 SPDM, 0x7E vendor-defined (R472). -/
def State.respond (s : State) (b proto : Nat) (fields : List Nat) : State :=
  s.modGroom (fun g => { g with resp := g.resp ++ [b :: proto :: fields] })

/-- SET_ENDPOINT_ID (R471): each binding keeps its own. -/
def execSetEndpointId (b : Fin 3) (eid : Nat) (s : State) : Out :=
  .next (if s.answers b 2 then (s.modGroom (fun g => { g with eid := tset g.eid b (eid % 256) 0 })).respond b 0 [eid % 256] else s)

/-! ### Sensors, events, effecters (R473 to R475) -/

/-- Hottest working sensor of a die, in 0.1 °C. -/
def Die.hottest (d : Die) : Int :=
  let ts := ((List.range 64).filter (fun t => !d.sensFail.contains t)).map (fun t => tget d.sens t 1600)
  rneInt (mkRat (10 * ts.foldl max (ts.headD 0)) 64)

/-- Value of a PLDM sensor (R473). -/
def State.sensor (s : State) (id : Nat) : Option Nat :=
  match id with
  | 0x0001 => some s.pow.vin
  | 0x0002 => some s.pow.iin
  | 0x0003 => some s.pow.power
  | 0x0004 => some s.pow.limit
  | 0x0010 => some (unsgn 32 (s.die 0).hottest)
  | 0x0011 => some (unsgn 32 (s.die 1).hottest)
  | 0x0012 => some (unsgn 32 (s.die 2).hottest)
  | 0x0013 => some (unsgn 32 (s.die 3).hottest)
  | 0x0014 => some (s.die 0).refValue
  | 0x0020 => some s.boot.stage
  | 0x0021 => some (b2n s.boot.ready + 2 * b2n s.boot.refin + 4 * b2n s.boot.degraded + 8 * b2n s.hif.fail)
  | 0x0022 => some s.fab.epoch
  | _ => none

/-- PLDM_SENSOR_READ (R473, R474): events go out where a sensor was read last. -/
def execPldmSensorRead (b : Fin 3) (id : Nat) (s : State) : Out :=
  .next (if !s.answers b 4 then s
    else
      let s := s.modGroom (fun g => { g with lastBind := b })
      match s.sensor id with
      | some v => s.respond b 1 [id, 0, v]
      | none => s.respond b 1 [id, 1])

/-- PLATFORM_EVENT_RETRY (R474): an unacknowledged event is repeated, ten times at most. -/
def execPlatformEventRetry (id : Nat) (s : State) : Out :=
  match s.groom.events.find? (fun e => e.1 == id && e.2.2 < 10) with
  | none => .next s
  | some e =>
    let t := s.modGroom (fun g => { g with events := g.events.map (fun x => if x = e then (x.1, x.2.1, x.2.2 + 1) else x) })
    .next (if s.answers s.groom.lastBind 3 then t.respond s.groom.lastBind 1 [0xFA, id, e.2.1] else t)

/-- An event is acknowledged. -/
def State.ackEvent (s : State) (id : Nat) : State := s.modGroom (fun g => { g with events := g.events.filter (fun e => e.1 != id) })

/-- PLATFORM_EVENT_ACK (R474). -/
def execPlatformEventAck (id : Nat) (s : State) : Out := .next (if s.pow.aux then s.ackEvent id else s)

/-- SET_STATE_EFFECTER_STATES (R475): effecter 0x0001, state 1 a module reset, state 2 a power-cycle acknowledgement, which answers the
outstanding request of R384.
DEDUCED: log entry 93. -/
def execSetStateEffecterStates (b : Fin 3) (eff st : Nat) (s : State) : Out :=
  .next (if !s.answers b 4 then s
    else if eff != 1 || (st != 1 && st != 2) then s.respond b 1 [eff, st, 1]
    else
      let s := s.respond b 1 [eff, st, 0]
      if st = 1 then s.askModuleReset 17 else s.ackEvent 1)

/-! ### Updates (R478, R479) -/

/-- An update ends: component and result, 0 written, 1 invalid image, 2 refused. -/
def State.logUpdate (s : State) (comp res : Nat) : State :=
  s.logE { DayEntry.reset with sev := if res = 2 then 2 else 0, code := Db.fwUpdate, arg0 := comp, args := [res] }

/-- A firmware image offered (R477 to R479): while running it is verified before it is written; at stage 0x03 it is written and verified
in the tack store, and the stage starts again. -/
def State.takeImage (s : State) (t : Tbl Byte) : State × Nat :=
  let ok := s.imageVerifies t
  let rom := s.boot.running && s.boot.stage == 3
  let s := if ok || rom then s.modGroom (fun g => { g with fw := t, fwOk := ok, fwPend := !rom }) else s
  let res := if ok then 0 else 1
  let s := s.logUpdate 1 res
  (if ok && rom then s.enterStage 3 else s, res)

/-- A repair map written by the tray controller during the hold of R441, as a record image: bring-up starts again at stage 0x04. -/
def State.takeMap (s : State) (b : List Byte) : State × Nat :=
  let h := hdrOf b
  if !(s.boot.running && s.boot.failCause == 3) then (s.logUpdate 2 2, 2)
  else if h.ty != Ty.repairMap || h.rver != 0x10 || !h.clean || h.length != 32 + recSize Ty.repairMap || b.length != h.length ||
      crc32c (b.take 28 ++ leBytes 4 0 ++ b.drop 32) != h.check then (s.logUpdate 2 1, 1)
  else
    let s := { s with store := tins s.store (recKey 0 Ty.repairMap 0) { a := some (1, bodyOf b), b := none } }
    ((s.logUpdate 2 0).enterStage 4, 0)

/-- PLDM_FIRMWARE_UPDATE (R478, R479): a component received whole; one at a time. -/
def execPldmFirmwareUpdate (b : Fin 3) (comp : Nat) (data : List Byte) (s : State) : Out :=
  if !s.answers b 3 then .next s
  else if s.groom.upd.isSome then .next ((s.logUpdate comp 2).respond b 1 [comp, 2])
  else
    let r := match comp with
      | 1 => s.takeImage (tputs [] 0 data 0)
      | 2 => s.takeMap data
      | 3 => let q := s.installPkg data
             let res := if q.2 = 0 then 0 else if q.2 ≤ 2 then 1 else 2
             (q.1.logUpdate 3 res, res)
      | _ => (s.logUpdate comp 2, 2)
    .next (r.1.respond b 1 [comp, r.2])

/-- ACTIVATE_FIRMWARE (R478): a pending power cycle. -/
def execActivateFirmware (b : Fin 3) (s : State) : Out :=
  .next (if s.answers b 3 then s.respond b 1 [0x1A, b2n s.groom.fwPend] else s)

/-! ### SPDM (R481 to R483) -/

/-- A request reaches the responder: ResponseNotReady before it opens (R481); an error for a request out of order.
PRESUMED: log entry 92. -/
def State.spdm (s : State) (b : Nat) (inOrder : Bool) (f : State → State) : Out :=
  .next (if !s.answers b 3 then s
    else if !s.groom.spdm then s.respond b 5 [0x7F, 0x42]
    else if !inOrder then s.respond b 5 [0x7F, 0x04]
    else f s)

/-- SPDM_GET_VERSION: version 1.3, and a new negotiation.
PRESUMED: log entry 92. -/
def execSpdmGetVersion (b : Fin 4) (s : State) : Out :=
  s.spdm b true (fun s => (s.modGroom (fun g => { g with spdmVer := 0x13, spdmAlg := false })).respond b 5 [0x04, 0x13])

/-- SPDM_GET_CAPABILITIES: CERT, CHAL, MEAS with signature and MEAS_FRESH. -/
def execSpdmGetCapabilities (b : Fin 4) (s : State) : Out :=
  s.spdm b (s.groom.spdmVer == 0x13) (fun s => s.respond b 5 [0x61, 1, 1, 1, 1])

/-- SPDM_NEGOTIATE_ALGORITHMS: SHA3-256 and ML-DSA-44, where the requester offers them. -/
def execSpdmNegotiateAlgorithms (b : Fin 4) (sha3 mldsa : Bool) (s : State) : Out :=
  s.spdm b (s.groom.spdmVer == 0x13) (fun s =>
    (s.modGroom (fun g => { g with spdmAlg := sha3 && mldsa })).respond b 5 [0x63, b2n sha3, b2n mldsa])

/-- SPDM_GET_CERTIFICATE: the chain of slot 0 or 1. -/
def execSpdmGetCertificate (b : Fin 4) (slot : Nat) (s : State) : Out :=
  s.spdm b s.groom.spdmAlg (fun s =>
    if 2 ≤ slot then s.respond b 5 [0x7F, 0x01] else s.respond b 5 (0x02 :: slot :: (Config.certChain slot).map BitVec.toNat))

/-- A measurement block (R483), none for an index not listed.
PRESUMED: log entry 92.
DEDUCED: log entry 93.
DESIGN CHOICE: log entry 99. -/
def State.measure (s : State) (i : Nat) : List Byte :=
  match i with
  | 1 => Config.romDigest
  | 2 => s.boot.fwMeas
  | 3 => leBytes 4 s.boot.ibootVer ++ leBytes 4 s.boot.svn ++ leBytes 4 (s.fld 0 Ty.firmwareSecurity 0 0 4)
  | 4 =>
    let keys := s.store.filter (fun e => keyType e.1 != Ty.repairMap && keyType e.1 != Ty.drillPackage)
    Config.storeDigest ((List.range 0x200).flatMap (fun ty => (keys.filter (fun e => keyType e.1 == ty)).flatMap (fun e =>
      match e.2.newer with
      | some r => leBytes 8 e.1 ++ tgets r.bytes 0 r.len 0
      | none => [])))
  | 5 => sha3 (tgets (s.rcd 0 Ty.repairMap 0).bytes 0 (recSize Ty.repairMap) 0)
  | 6 => sha3 (s.groom.pkgs.flatMap (fun g => let r := s.rcd 0 Ty.drillPackage g.1; tgets r.bytes 0 r.len 0))
  | 7 => leBytes 8 Config.serialNumber ++ Config.dieIds
  | _ => []

/-- SPDM_CHALLENGE: signed with the key of the slot named (R482). -/
def execSpdmChallenge (b : Fin 4) (slot nonce : Nat) (s : State) : Out :=
  s.spdm b s.groom.spdmAlg (fun s =>
    if 2 ≤ slot then s.respond b 5 [0x7F, 0x01]
    else
      let own := Config.nonce s.groom.resp.length
      let sum := sha3 ((List.range 8).flatMap s.measure)
      let body := leBytes 1 slot ++ leBytes 32 nonce ++ own ++ sum
      s.respond b 5 (0x03 :: (body ++ Config.mlDsaSign body).map BitVec.toNat))

/-- SPDM_GET_MEASUREMENTS (R483): index 0 the number of blocks, 0xFF every block, else one; signed with the key of the slot. -/
def execSpdmGetMeasurements (b : Fin 4) (idx slot : Nat) (s : State) : Out :=
  s.spdm b s.groom.spdmAlg (fun s =>
    if 2 ≤ slot || (7 < idx && idx != 0xFF) then s.respond b 5 [0x7F, 0x01]
    else
      let blocks := if idx = 0 then leBytes 1 7 else if idx = 0xFF then (List.range 8).flatMap s.measure else s.measure idx
      let body := leBytes 1 slot ++ leBytes 1 idx ++ blocks ++ Config.nonce s.groom.resp.length
      s.respond b 5 (0x60 :: (body ++ Config.mlDsaSign body).map BitVec.toNat))

/-! ### The daybook's readers (R484, R485) -/

/-- The 64 bytes of a daybook entry (R484). -/
def DayEntry.layout (e : DayEntry) : List Byte :=
  leBytes 8 e.time ++ leBytes 4 e.seq ++ leBytes 1 (16 + 4 * e.sev) ++ leBytes 1 e.src ++ leBytes 2 e.code ++ leBytes 2 e.lcell ++
    leBytes 2 e.pcell ++ leBytes 1 e.part ++ leBytes 3 0 ++ leBytes 8 e.arg0 ++
    (List.range 4).flatMap (fun i => leBytes 8 (e.args.getD i 0))

/-- SEQ of the oldest entry the ring still holds. -/
def State.oldest (s : State) : Nat := s.daySeq - 65536

/-- Entries a reader gets from a SEQ on, and how many of those asked for are gone (R485). -/
def State.readLog (s : State) (seq n : Nat) : Nat × List DayEntry :=
  let a := max seq s.oldest
  (min n (s.oldest - seq), (List.range (min n (s.daySeq - a))).map (fun i => tget s.day ((a + i) % 65536) DayEntry.reset))

/-- A binding has read up to an entry. -/
def State.markRead (s : State) (b : Nat) (es : List DayEntry) : State :=
  match es.getLast? with
  | none => s
  | some e => if tget s.groom.readSeq b 0 ≤ e.seq then
      s.modGroom (fun g => { g with readSeq := tset g.readSeq b (e.seq + 1) 0, highSent := false }) else s

/-- READ_LOG (R485): 1 to 16 entries. -/
def execReadLog (b : Fin 3) (seq count : Nat) (s : State) : Out :=
  .next (if !s.answers b 4 then s
    else if count = 0 || 16 < count then s.respond b 0x7E [1]
    else
      let r := s.readLog seq count
      (s.markRead b r.2).respond b 0x7E (0 :: r.1 :: (r.2.flatMap DayEntry.layout).map BitVec.toNat))

/-- DAYBOOK_HIGH_WATER (R485). -/
def execDaybookHighWater (s : State) : Out :=
  let top := (List.range 3).foldl (fun m b => max m (tget s.groom.readSeq b 0)) 0
  .next (if s.pow.aux && !s.groom.highSent && top + 49152 ≤ s.daySeq then
    (s.modGroom (fun g => { g with highSent := true })).platform 5 s.daySeq else s)

/-! ### The mailbox (R486) -/

/-- A mailbox response: status, then bytes.  It replaces one not yet read. -/
def State.mail (s : State) (status : Nat) (body : List Byte := []) : State :=
  s.modGroom (fun g => { g with mbox := some (status :: body.map BitVec.toNat) })

/-- A mailbox command: NOT_READY during stages 0x01 and 0x02, nothing without power. -/
def State.mailbox (s : State) (f : State → State) : Out :=
  .next (if !s.pow.aux then s else if s.boot.stage < 3 && !s.boot.ready then s.mail 4 else f s)

/-- GET_STATUS: state 0 BOOTING, 1 READY, 2 HOLD, 3 FAULT; stage; cause. -/
def execGetStatus (s : State) : Out :=
  let b := s.boot
  let st := if b.held then 2 else if b.modFault then 3 else if b.ready then 1 else 0
  .next (if s.pow.aux then s.mail 0 (leBytes 1 st ++ leBytes 1 b.stage ++ leBytes 1 b.failCause) else s)

/-- GET_IDENTITY: "LH-9608", the serial number, FW_VERSION. -/
def execGetIdentity (s : State) : Out :=
  s.mailbox (fun s => s.mail 0 ([0x4C, 0x48, 0x2D, 0x39, 0x36, 0x30, 0x38] ++ leBytes 8 Config.serialNumber ++ leBytes 4 s.boot.ibootVer))

/-- READ_SENSOR. -/
def execReadSensor (id : Nat) (s : State) : Out :=
  s.mailbox (fun s => match s.sensor id with
    | some v => s.mail 0 (leBytes 4 v)
    | none => s.mail 3)

/-- The mailbox READ_LOG: LOST and the first half of 1 to 4 entries; it moves the SMBus binding's SEQ.
DEDUCED: log entry 93. -/
def execMailboxReadLog (seq count : Nat) (s : State) : Out :=
  s.mailbox (fun s =>
    if count = 0 || 4 < count then s.mail 3
    else
      let r := s.readLog seq count
      (s.markRead 1 r.2).mail 0 (leBytes 4 r.1 ++ r.2.flatMap (fun e => e.layout.take 32)))

/-- Values of several sensors, four bytes each. -/
def State.sensors (s : State) (l : List Nat) : List Byte := l.flatMap (fun i => leBytes 4 ((s.sensor i).getD 0))

/-- GET_POWER. -/
def execGetPower (s : State) : Out := s.mailbox (fun s => s.mail 0 (s.sensors [1, 2, 3, 4]))

/-- GET_THERMAL. -/
def execGetThermal (s : State) : Out := s.mailbox (fun s => s.mail 0 (s.sensors [0x10, 0x11, 0x12, 0x13]))

/-- GET_ALERT: bit n for event ID n of R474.
DEDUCED: log entry 93. -/
def execGetAlert (s : State) : Out :=
  s.mailbox (fun s => s.mail 0 (leBytes 1 ((firsts (s.groom.events.map (fun e => e.1))).map (fun i => 2 ^ i)).sum))

/-- CLEAR_ALERT: the events whose bits are set are acknowledged. -/
def execClearAlert (bits : Nat) (s : State) : Out :=
  s.mailbox (fun s => ((List.range 8).foldl (fun s i => if bit bits i then s.ackEvent i else s) s).mail 0)

/-- REQUEST_RESET: 1 a module reset (R475). -/
def execRequestReset (v : Nat) (s : State) : Out := s.mailbox (fun s => if v = 1 then (s.mail 0).askModuleReset 17 else s.mail 3)

/-- FW_START: an update of component 0x0001 begins, one at a time.  During stage 0x03 the boot ROM writes over the stored image. -/
def execFwStart (len : Nat) (s : State) : Out :=
  s.mailbox (fun s =>
    if s.groom.upd.isSome then s.mail 1
    else if len = 0 || 2 ^ 25 + 0x1000 < len then s.mail 3
    else
      let rom := s.boot.running && s.boot.stage == 3
      (s.modGroom (fun g => { g with
        upd := some 257, updNext := 0, updLen := len, updData := [], fw := if rom then [] else g.fw, fwOk := g.fwOk && !rom })).mail 0)

/-- FW_DATA: the next bytes of the image, 32 at most. -/
def execFwData (off : Nat) (data : List Byte) (s : State) : Out :=
  s.mailbox (fun s =>
    let g := s.groom
    if g.upd.isNone || off != g.updNext || data.isEmpty || 32 < data.length || g.updLen < off + data.length then s.mail 3
    else (s.modGroom (fun g => { g with updData := tputs g.updData off data 0, updNext := off + data.length })).mail 0)

/-- FW_FINISH: the image received is verified, and written where it passes. -/
def execFwFinish (s : State) : Out :=
  s.mailbox (fun s =>
    let g := s.groom
    if g.upd.isNone || g.updNext != g.updLen then s.mail 3
    else
      let r := (s.modGroom (fun g => { g with upd := none, updData := [], updNext := 0, updLen := 0 })).takeImage g.updData
      r.1.mail 0 (leBytes 1 r.2))

/-- MAILBOX_READ_RESPONSE: the pending response is read. -/
def execMailboxReadResponse (s : State) : Out :=
  match s.groom.mbox with
  | none => .next s
  | some l => .next ((s.modGroom (fun g => { g with mbox := none })).respond 1 0xFF l)

/-- MAILBOX_BAD_CMD: any other code; 0x0F belongs to MCTP and 0xFF is the read. -/
def execMailboxBadCmd (code : Nat) (s : State) : Out :=
  if (1 ≤ code && code ≤ 12) || code = 0x0F || code = 0xFF then .next s else s.mailbox (fun s => s.mail 2)

end Sys2Proof.Machine
end

