-- ==== Sys2Proof/Machine/Rack.lean ====
section
/-! DEFINITION. Machine/Rack: the press, touch and latch inputs (R487 to R494), the safe-to-pull condition (R495) and the LEDs (R496). -/

namespace Sys2Proof.Machine

/-- A daybook entry of the rack: 0 press ignored, 1 withdrawal started, 2 cancelled, 3 press refused, 4 latch logged, 5 withdrawal
timeout (R554). -/
def State.logRack (s : State) (kind : Nat) : State := s.log 0 Db.rack kind

/-- A field of the rack record (R489). -/
def State.rackFld (s : State) (off n : Nat) : Nat := s.fld 0 Ty.rack 0 off n

/-! ### Presses (R487, R488, R490, R492) -/

/-- SVC_PRESS (R487, R488, R498): a press is recognised; one within 21 ms of the latch is ignored. -/
def execSvcPress (s : State) : Out :=
  if !s.pow.aux || s.rack.pressed then .next s
  else
    let s := s.gcount GEv.rackPress 1
    if s.rack.latchAt != 0 && s.time ≤ s.rack.latchAt - 1 + 21000000 then .next (s.logRack 0)
    else .next (s.modRack (fun r => { r with pressed := true, pressAt := s.time, longDone := false }))

/-- The partitions of this module that belong to a snapshot domain. -/
def State.snapParts (s : State) : List Nat := (List.range 16).filter s.snaps

/-- The flash pattern of a refused press (R496). -/
def State.refusePress (s : State) : State := (s.logRack 3).modRack (fun r => { r with flashAmber := true, flashBlue := false, flashAt := s.time })

/-- An orderly withdrawal starts (R490 steps 1 and 2).
DEDUCED: log entry 94. -/
def State.withdraw (s : State) : State :=
  let s := s.modRack (fun r => { r with withdraw := 1, wdAt := s.time, secured := false, touch := false })
  s.snapParts.foldl (fun s p => s.askSnap p 0) ((s.logRack 1).gcount GEv.rackWithdraw 1)

/-- SHORT_PRESS (R488, R490, R497): the release of a press; of 50 ms or more, and before 5.0 s, it acts.
DEDUCED: log entry 94. -/
def execShortPress (s : State) : Out :=
  let r := s.rack
  if !r.pressed then .next s
  else
    let t := s.modRack (fun r => { r with pressed := false, longDone := false })
    if r.longDone || !s.passed r.pressAt 50000000 || s.passed r.pressAt 5000000000 then .next t
    else if !s.boot.ready then .next t.refusePress
    else if r.withdraw != 0 || s.fab.left_ then .next t
    else if s.rackFld 0 1 = 0 then .next (t.logRack 0)
    else .next t.withdraw

/-- LONG_PRESS (R488, R492): a press held 5.0 s cancels a withdrawal whose LEAVE_REQ has not gone out, or is refused. -/
def execLongPress (s : State) : Out :=
  let r := s.rack
  if !r.pressed || r.longDone || !s.passed r.pressAt 5000000000 then .next s
  else
    let t := s.modRack (fun r => { r with longDone := true })
    if r.withdraw = 1 then
      .next (((t.modRack (fun r => { r with withdraw := 0, flashBlue := true, flashAmber := false, flashAt := s.time })).logRack 2).gcount GEv.rackCancel 1)
    else .next t.refusePress

/-- The withdrawing module asks to leave (R490 step 4, R313). -/
def State.leave (s : State) : State :=
  let s := s.modRack (fun r => { r with withdraw := 2 })
  if s.fab.coord = s.fab.nodeId then (s.reportChange 5 0).propose else s.send 0x15 s.fab.coord [0]

/-- WITHDRAW_SECURED (R490 steps 3 to 5): a step planned after the press is secured, or WITHDRAW_TIMEOUT has passed.  A module in no
communication group stops its partitions instead, once the write engines are idle. -/
def execWithdrawSecured (s : State) : Out :=
  let r := s.rack
  if r.withdraw != 1 then .next s
  else if !s.fab.inSystem || !(List.range 16).any s.joined then
    .next (if s.cells.all (fun e => e.2.wq.isEmpty) then
      (s.modRack (fun r => { r with withdraw := 2 })).stopParts (List.range 16) else s)
  else if r.secured || s.snapParts.isEmpty then .next s.leave
  else if s.passed r.wdAt (s.rackFld 2 2 * 1000000000) then .next (s.logRack 5).leave
  else .next s

/-! ### Touch and latch (R493, R494) -/

/-- HANDLE_TOUCH (R493, R498). -/
def execHandleTouch (s : State) : Out :=
  if !s.pow.aux then .next s
  else
    let open_ := s.rack.touch && !s.passed s.rack.touchAt 10000000000
    let s := (s.gcount GEv.rackTouch 1).modRack (fun r => { r with touch := true, touchAt := s.time })
    if open_ || s.rack.withdraw = 1 then .next s
    else .next ((s.snapParts.filter (fun p => s.fld p Ty.snapshot p 3 1 == 1)).foldl (fun s p => s.askSnap p 0) s)

/-- TOUCH_LAPSE (R487). -/
def execTouchLapse (s : State) : Out :=
  .next (if s.rack.touch && s.passed s.rack.touchAt 10000000000 then s.modRack (fun r => { r with touch := false }) else s)

/-- LATCH_OPEN (R446, R488, R494, R498): the emergency sequence in an epoch, else an entry alone; a press within 21 ms is ignored. -/
def execLatchOpen (s : State) : Out :=
  if !s.pow.aux || s.rack.latch then .next s
  else
    let near := s.rack.pressed && !s.passed s.rack.pressAt 21000001
    let s := (s.gcount GEv.rackLatch 1).modRack (fun r => { r with latch := true, latchAt := s.time + 1, touch := false })
    let s := if near then (s.modRack (fun r => { r with pressed := false })).logRack 0 else s
    if s.boot.running then .next s
    else if s.boot.ready && s.fab.inSystem && !s.fab.minority && !s.fab.left_ then
      if s.rack.emerg then .next s
      else .next ((s.modRack (fun r => { r with withdraw := if r.withdraw = 1 then 2 else r.withdraw })).emergBegin)
    else .next (s.logRack 4)

/-- LATCH_CLOSED (R494, R446): the module may enter a system again by JOIN; a bring-up that held for the latch goes on.
DEDUCED: log entry 84. -/
def execLatchClosed (s : State) : Out :=
  if !s.rack.latch then .next s
  else
    let s := (s.modRack (fun r => { r with latch := false })).modFab (fun f => { f with left_ := false })
    if s.boot.running && s.boot.held && s.boot.failCause = 0 then .next (s.enterStage (s.boot.stage + 1)) else .next s.tryJoin

/-- SAFE_LOG_WAIT_EXPIRY (R495). -/
def execSafeLogWaitExpiry (s : State) : Out :=
  match s.rack.safeSince with
  | some t => .next (if s.idleOut && s.passed t (s.rackFld 4 2 * 1000000000) then s.modRack (fun r => { r with logWaived := true }) else s)
  | none => .next s

/-- LED_FLASH_END (R496): the two amber flashes end after 2 s, the three blue ones after 1 s. -/
def execLedFlashEnd (s : State) : Out :=
  let r := s.rack
  if r.flashAmber && s.passed r.flashAt 2000000000 then .next (s.modRack (fun r => { r with flashAmber := false }))
  else if r.flashBlue && s.passed r.flashAt 1000000000 then .next (s.modRack (fun r => { r with flashBlue := false }))
  else .next s

/-! ### Safe to pull, and the LEDs (R495, R496) -/

/-- Whether R495 holds. -/
def State.safeToPull (s : State) : Bool :=
  s.idleOut && s.groom.writeQ.isEmpty && s.groom.upd.isNone && s.rack.safeSince.isSome &&
    (s.rack.logWaived || (List.range 3).any (fun b => decide (s.rack.safeSeq < tget s.groom.readSeq b 0)))

/-- What an LED shows: off, steady, a blink in tenths of a hertz, or a number of flashes. -/
inductive Led where
  | off | steady
  | blink (deciHz : Nat)
  | flash (n : Nat)
  deriving DecidableEq, Repr

/-- The green LED (R496).
DESIGN CHOICE: log entry 101. -/
def State.ledGreen (s : State) : Led := if !s.pow.aux then .off else if s.boot.ready then .steady else .blink 10

/-- The amber LED (R496). -/
def State.ledAmber (s : State) : Led :=
  if !s.pow.aux then .off
  else if s.rack.emerg then .blink 40
  else if s.boot.modFault || (s.boot.running && s.boot.held) then .steady
  else if s.groom.service || s.boot.degraded then .blink 10
  else if s.rack.flashAmber then .flash 2
  else .off

/-- The blue LED (R496). -/
def State.ledBlue (s : State) : Led :=
  if !s.pow.aux then .off
  else if s.safeToPull then .steady
  else if s.rack.withdraw != 0 || s.fab.left_ then .blink 10
  else if s.rack.touch && !s.passed s.rack.touchAt 10000000000 then .blink 5
  else if s.rack.flashBlue then .flash 3
  else .off

end Sys2Proof.Machine
end

