-- ==== Sys2Proof/Machine/Regs.lean ====
section
/-! DEFINITION. Machine/Regs: BAR0 as software reads and writes it (R516 to R528, R537), the latching reads (R504, R523, R527), counter
dumps and tag records (R505 to R511), and the feed strap (R542, R553). -/

namespace Sys2Proof.Machine

/-! ### What the blocks show (R519 to R528) -/

/-- A field of n bits at a bit position. -/
def at_ (lo n v : Nat) : Nat := (v % 2 ^ n) * 2 ^ lo

/-- The module block, by offset of a 64-bit register (R519).
DEDUCED: log entry 98. -/
def State.readModule (s : State) (o : Nat) : Nat :=
  match o with
  | 0x00 => 0x119608
  | 0x08 => Config.serialNumber % 2 ^ 64
  | 0x10 => s.statusWord
  | 0x20 => at_ 0 16 s.fab.nodeId + at_ 16 16 s.fab.coord + at_ 32 32 s.fab.epoch
  | 0x28 => s.time
  | 0x38 => at_ 0 32 s.boot.resetCount + at_ 32 1 (b2n s.fab.locked)
  | 0x40 => at_ 60 2 s.boot.urgCause + at_ 62 2 s.boot.urgRes
  | 0x48 => at_ 0 32 (s.daySeq - 1)
  | 0x50 => at_ 0 2 s.pow.ceil + at_ 2 1 (b2n (s.pow.stall != 0)) + at_ 16 16 s.pow.power + at_ 32 16 s.pow.limit
  | _ => 0

/-- The function block of a function (R520).
DEDUCED: log entry 98. -/
def State.readFunc (s : State) (p o : Nat) : Nat :=
  let f := s.func p
  if o = 0 then f.winBase
  else if o = 8 then at_ 0 1 (b2n f.userEn) + at_ 1 1 (b2n f.userLock) + at_ 4 2 f.bank + at_ 16 10 f.userCell
  else if 0x100 ≤ o && o < 0x100 + 63 * 0x20 then
    let k := s.queue p ((o - 0x100) / 0x20)
    match (o - 0x100) % 0x20 with
    | 0 => at_ 0 4 k.sqLog + at_ 4 4 k.cqLog + at_ 8 6 k.vec + at_ 14 8 k.coN + at_ 22 10 k.coUs + at_ 32 2 k.st
    | 8 => k.cqBase
    | 16 => at_ 0 32 k.head + at_ 32 32 k.cqTail
    | _ => 0
  else 0

/-- The partition status block (R521). -/
def State.readPart (s : State) (p o : Nat) : Nat :=
  let q := s.part p
  match o with
  | 0x00 => at_ 32 32 q.progHi + at_ 0 32 q.progLo
  | 0x08 => at_ 0 32 q.trainStep + at_ 32 2 q.snap + at_ 34 1 (b2n q.stepSkip)
  | 0x10 => at_ 0 32 q.lastSecured + at_ 32 16 q.snapLeader
  | 0x18 => at_ 0 13 q.outbox.length
  | _ => 0

/-- Wait reason as WAIT_KIND codes it: a held SIGNAL shows as a FENCE, a halt where nothing else holds issue (R65, R522). -/
def Cell.waitKind (cl : Cell) : Nat := if cl.wait.kind = 8 then 4 else if cl.wait.kind = 0 && cl.halt then 7 else cl.wait.kind

/-- A binding word: nine numbers of 4 bits, those not listed the identity (R522). -/
def bindWord (t : Tbl Nat) : Nat := ((List.range 9).map (fun b => at_ (4 * b) 4 (tget t b b))).sum

/-- The region status record, by offset of a 64-bit word (R526). -/
def State.readRegion (s : State) (r o : Nat) : Nat :=
  let p := s.phy r
  match o with
  | 0x00 => at_ 0 8 p.rst + at_ 8 8 p.calCause + at_ 16 16 (unsgn 16 p.calTemp) + at_ 32 32 p.calCount
  | 0x08 => p.calTime
  | _ => 0

/-- The cell block, by offset of a 64-bit word (R522). -/
def State.readCell (s : State) (c o : Nat) : Nat :=
  let cl := s.cell c
  let r := s.reg c
  let p := s.phy r
  match o with
  | 0x00 =>
    at_ 0 3 cl.st + at_ 3 1 (b2n cl.halt) + at_ 4 1 (b2n cl.stopHost) + at_ 5 1 (b2n p.quar) + at_ 8 12 cl.pc + at_ 20 4 cl.waitKind +
      at_ 24 4 cl.wait.sel + at_ 28 12 cl.wait.group
  | 0x08 => at_ 0 32 cl.wait.count
  | 0x10 => cl.wait.start
  | 0x18 => cl.heartbeat
  | 0x20 => at_ 0 8 cl.fault.code + at_ 8 8 cl.fault.cause + at_ 16 12 cl.fault.pc
  | 0x28 => cl.fault.time
  | 0x30 => cl.fault.word.toNat % 2 ^ 64
  | 0x38 => cl.fault.word.toNat / 2 ^ 64
  | 0x40 =>
    ((List.range 9).map (fun u => at_ (4 * u) 4 (tget cl.unitStatus u 15))).sum + at_ 36 1 (b2n cl.timedOut) + at_ 37 1 (b2n cl.skip) +
      at_ 38 1 (b2n cl.rejected)
  | 0x48 => at_ 0 16 cl.wrStatus
  | 0x50 => at_ 0 28 cl.msgStatus
  | 0x58 => at_ 0 36 cl.drillStatus
  | 0xA0 =>
    at_ 0 11 (pidOf r) + at_ 11 4 (s.owner c) + at_ 15 2 p.gait +
      at_ 17 2 (((s.gaitInputs r).drop 1).foldl (fun m e => min m e.1) 3) + at_ 19 3 p.cause
  | 0xA8 => bindWord cl.xbind
  | 0xB0 => bindWord cl.pbind
  | 0xB8 => at_ 0 8 cl.calStatus
  | _ =>
    if 0x60 ≤ o && o < 0xA0 then at_ 0 32 (tget cl.flags ((o - 0x60) / 4 + 1) 0) + at_ 32 32 (if o < 0x98 then tget cl.flags ((o - 0x60) / 4 + 2) 0 else 0)
    else if 0xC0 ≤ o && o < 0xE0 then s.readRegion r (o - 0xC0)
    else 0

/-- Largest wear counter of a crossbar (R121). -/
def Xbar.wearMax (b : Xbar) : Nat := b.wear.foldl (fun m e => max m e.2) 0

/-- The health record of a crossbar, by offset of a 64-bit word (R95, R525). -/
def State.readHealth (s : State) (r x o : Nat) : Nat :=
  let b := s.xbar r x
  let st := match s.cellOf r with
    | some c => if b.st = 0 && (s.cell c).phys 8 = x then 1 else b.st
    | none => b.st
  match o with
  | 0x00 => at_ 0 16 b.sigma + at_ 16 16 b.sigmaT + at_ 32 16 b.slope + at_ 48 16 (unsgn 16 b.tc)
  | 0x08 => at_ 0 16 (unsgn 16 b.tCal) + at_ 16 16 b.k + at_ 32 32 b.wearMax
  | 0x10 => b.progTime
  | 0x18 =>
    at_ 0 16 (Config.ageDays s.time) + at_ 16 8 st + at_ 24 8 b.conf +
      at_ 32 32 (((List.range 16).map (fun g => at_ (2 * g) 2 (tget b.rng g 2))).sum)
  | _ => 0

/-- The fabric block, by offset of a 64-bit word: FAB_STATUS, port status, routes (R528). -/
def State.readFabric (s : State) (o : Nat) : Nat :=
  let f := s.fab
  if o = 0 then at_ 0 1 (b2n f.locked) + at_ 1 2 (if f.noNode then 1 else if f.notLocked then 2 else 0) + at_ 4 4 f.sysVer
  else if 0x40 ≤ o && o < 0x640 then
    let q := s.port ((o - 0x40) / 0x40)
    match o % 0x40 with
    | 0x00 => at_ 0 8 q.st + at_ 8 8 q.cause + at_ 16 8 q.pPort + at_ 24 8 q.pFeed + at_ 32 16 q.pNode + at_ 48 8 q.ver
    | 0x08 => at_ 0 16 q.isa
    | 0x10 => q.serial
    | _ => 0
  else if 0x10000 ≤ o && o < 0x18000 then
    match tfind f.routes ((o - 0x10000) / 8) with
    | some e => ((List.range 4).map (fun i => at_ (8 * i) 8 (e.1.getD i 0xFF))).sum + at_ 32 8 e.2
    | none => 0xFFFFFFFF
  else 0

/-! ### Reads that latch (R504, R466, R523, R527) -/

/-- Whether a function may read a counter, and its value: cell n × 128 + event, or 131,072 + global counter (R466). -/
def State.counterFor (s : State) (p i : Nat) : Option (BitVec 64) :=
  if i < 131072 then
    if p = 0 || s.owner (i / 128) = p then some (tget (s.cell (i / 128)).ctr (i % 128) 0) else none
  else
    let g := i - 131072
    if g < 512 && (p = 0 || g / 24 = p) then some (tget s.gctr g 0) else none

/-- COUNTER_LOW_READ (R466, R504, R518): the low half is returned and the high half latched for the function.  user: through the user
counter page, which shows the partition counters and those of USER_CTR_CELL, and reads zero while COUNTER_USER_EN is 0. -/
def execCounterLowRead (fn : Pn) (i : Nat) (user : Bool) (s : State) : Out :=
  let f := s.func fn
  if !s.fnUp fn then .next s
  else if user && !f.userEn then .next ((s.pcount fn PEv.hifCounterDenied 1).hostRead 0 (leBytes 4 0))
  else
    let shown := !user || i / 128 == f.userCell || (131072 + 24 * fn.val ≤ i && i < 131096 + 24 * fn.val)
    match if shown then s.counterFor fn i else none with
    | none => .next (s.hostRead 0 (leBytes 4 0))
    | some v => .next ((s.modFunc fn (fun f => { f with ctrLatch := tins f.ctrLatch i (v.toNat / 2 ^ 32) })).hostRead 0 (leBytes 4 v.toNat))

/-- CELL_SAMPLE_READ (R65, R523): a read of offset 0x00 latches the sample for the function; a cell it does not own reads zero.
DEDUCED: log entry 98. -/
def execCellSampleRead (fn : Pn) (c : Cid) (s : State) : Out :=
  if !s.fnUp fn then .next s
  else if fn.val != 0 && s.owner c != fn then .next (s.hostRead 0 (leBytes 8 0))
  else
    let cl := s.cell c
    .next ((s.modFunc fn (fun f => { f with cellLatch := tins f.cellLatch c (cl.wait.count, cl.wait.start, cl.heartbeat) })).hostRead 0
      (leBytes 8 (s.readCell c 0)))

/-- MON_WR_INDEX_READ (R423, R527). -/
def execMonWrIndexRead (d : DieN) (s : State) : Out :=
  if !s.hif.up then .next s
  else .next ((s.modDie d (fun e => { e with latchTime := e.baseTime })).hostRead 0 (leBytes 8 (s.die d).wr))

/-! ### Register writes (R5, R516 to R520, R537) -/

/-- A 64-bit register after a write of 4 or 8 bytes, and the mask of the bits written (R517). -/
def putHalf (old o len v : Nat) : Nat × Nat :=
  if len = 8 then (v % 2 ^ 64, 2 ^ 64 - 1)
  else if o % 8 = 0 then (old / 2 ^ 32 * 2 ^ 32 + v % 2 ^ 32, 2 ^ 32 - 1)
  else (old % 2 ^ 32 + v % 2 ^ 32 * 2 ^ 32, 2 ^ 64 - 2 ^ 32)

/-- Reserved bits that a write set are discarded with one entry (R5). -/
def State.reserved (s : State) (off w mask ok : Nat) : State :=
  let bad := (w &&& mask) &&& ((2 ^ 64 - 1) ^^^ ok)
  if bad = 0 then s else s.log 5 Db.reservedWrite off [bad]

/-- A write to a queue's registers; while the pair exists its shape stays. -/
def Queue.put (k : Queue) (o w : Nat) : Queue :=
  match o with
  | 0 =>
    let k := { k with coN := bits w 21 14, coUs := bits w 31 22 }
    if k.st = 0 then { k with sqLog := bits w 3 0, cqLog := bits w 7 4, vec := bits w 13 8 } else k
  | 8 => if k.st = 0 then { k with cqBase := w % 2 ^ 64 } else k
  | _ => k

/-- A write to the function block of function p by function fn (R520).
DEDUCED: log entry 91. -/
def State.writeFunc (s : State) (fn p off o len v : Nat) : State :=
  let r := o / 8 * 8
  let (w, mask) := putHalf (s.readFunc p r) o len v
  if r = 0 then
    let base := w % 2 ^ 48 / 2 ^ s.barLog p * 2 ^ s.barLog p
    (s.modFunc p (fun f => { f with winBase := base })).reserved off w mask (2 ^ 48 - 1)
  else if r = 8 then
    let s := s.modFunc p (fun f =>
      let lock := if fn = 0 then bit w 1 else f.userLock
      let en := bit w 0 && (!(fn != 0 && f.userLock) || f.userEn)
      { f with userLock := lock, userEn := en, bank := bits w 5 4, userCell := bits w 25 16 })
    s.reserved off w mask 0x3FF0033
  else if 0x100 ≤ r && r < 0x100 + 63 * 0x20 then
    let q := (r - 0x100) / 0x20
    let i := (r - 0x100) % 0x20
    let s := s.modQueue p q (fun k => k.put i w)
    if i = 0 then s.reserved off w mask (2 ^ 34 - 1 + 2 ^ 62 + 2 ^ 63) else if i < 24 then s else s.winViolation fn off
  else s.winViolation fn off

/-- A write to the shadow area of a function (R537): the body of the selected shadow, unless FULL is set. -/
def State.writeShadow (s : State) (fn p off o len v : Nat) : State :=
  let f := s.func p
  if o < 0x1000 then (if o < 0x18 then s else s.winViolation fn off)
  else if f.full then s
  else
    s.modFunc p (fun f => { f with shadows := f.shadows.map (fun w =>
      if w.ty = f.sel % 65536 && w.inst = f.sel / 65536 then
        { w with body := (List.range len).foldl (fun t i =>
            if o + i < 0x1020 then t else tset t (o + i - 0x1020) (BitVec.ofNat 8 (v / 256 ^ i)) 0) w.body }
      else w) })

/-- Offset in the physical function's map of an offset in a virtual function's; none for what it only reads or does not have. -/
def vfOffset (p off : Nat) : Option Nat :=
  if off < 0x1000 then some (0x10000 + p * 0x1000 + off)
  else if off < 0x2000 then some (0x20000 + p * 0x1000 + (off - 0x1000))
  else if 0x10000 ≤ off && off < 0x20000 then some (0x100000 + p * 0x10000 + (off - 0x10000))
  else none

/-- Whether an offset of the physical function's map is one the module only shows (R516 to R519). -/
def readOnly (o : Nat) : Bool :=
  decide (o < 0x58) || (0x20000 ≤ o && o < 0x30000) || (0x200000 ≤ o && o < 0x240000) || (0x300000 ≤ o && o < 0x310000) ||
    (0x400000 ≤ o && o < 0x540000) || (0x600000 ≤ o && o < 0x700000) || (0x1000000 ≤ o && o < 0x1101000) || (0x2000000 ≤ o && o < 0x2400000)

/-- REGISTER_WRITE (R5, R516 to R520, R537): an aligned write of len bytes to BAR0; the registers that act have commands of their own. -/
def execRegisterWrite (fn : Pn) (off len v : Nat) (s : State) : Out :=
  let p := fn.val
  let shown := p != 0 && ((0x2000 ≤ off && off < 0x3000) || (0x40000 ≤ off && off < 0x100000))
  if !s.fnUp p || !([1, 2, 4, 8].contains len) || off % len != 0 || shown then .next s
  else match if p = 0 then some off else vfOffset p off with
    | none => .next (s.winViolation p off)
    | some o =>
      if 0x100000 ≤ o && o < 0x200000 then .next (s.writeShadow p ((o - 0x100000) / 0x10000) off (o % 0x10000) len v)
      else if len < 4 then .next s
      else if 0x10000 ≤ o && o < 0x20000 then .next (s.writeFunc p ((o - 0x10000) / 0x1000) off (o % 0x1000) len v)
      else
        let (w, mask) := putHalf 0 o len v
        if o / 8 * 8 = 0x18 then .next (s.reserved off w mask (2 ^ 32 - 1))
        else if o / 8 * 8 = 0x40 then .next (s.reserved off w mask 0x7FF)
        else if readOnly o then .next s
        else .next (s.winViolation p off)

/-! ### Dumps (R505 to R509) -/

/-- A field of a counter selection. -/
def selFld (t : Tbl Byte) (off n : Nat) : Nat := leNat (tgets t off n 0)

/-- A partition's dump (R508). -/
def State.dumpBytes (s : State) (p : Nat) : List Byte :=
  let q := s.part p
  let cs := s.cellsOf p
  let word (t : Tbl (BitVec 64)) (k : Nat) : List Byte := leBytes 8 (tget t k 0).toNat
  leBytes 1 1 ++ leBytes 1 p ++ leBytes 2 cs.length ++ leBytes 4 0 ++ leBytes 8 q.dumpSeq ++ leBytes 8 s.time ++ leBytes 4 (selFld q.selImg 388 4) ++
    leBytes 4 q.dumpLost ++ leBytes 4 q.qgen ++ leBytes 4 q.trainStep ++ leBytes 4 s.fab.epoch ++ leBytes 20 0 ++
    (List.range 24).flatMap (fun i => word s.gctr (p * 24 + i)) ++ (List.range 256).flatMap (fun i => word q.hist i) ++
    cs.flatMap (fun c =>
      let cl := s.cell c
      leBytes 2 c ++ leBytes 2 (if cl.dark || cl.mapDark then 0xFFFF else pidOf (s.reg c)) ++ leBytes 1 cl.st ++ leBytes 3 0 ++ leBytes 8 cl.heartbeat ++
        leBytes 48 0 ++ (List.range 128).flatMap (fun e => word cl.ctr e))

/-- A committed selection takes effect: QGEN, and the histograms whose selection changes start at zero (R505, R513).
DEDUCED: log entry 59. -/
def State.takeSelection (s : State) (p : Nat) : State :=
  let new := (s.rcd p Ty.counterSelection p).bytes
  s.modPart p (fun q => { q with
    selPend := false, qgen := (q.qgen + 1) % 2 ^ 32, selImg := new
    hist := q.hist.filter (fun e => selFld q.selImg (416 + 2 * (e.1 / 32)) 2 == selFld new (416 + 2 * (e.1 / 32)) 2) })

/-- One dump of a ring (R507): of a partition, or of the module counters under key 16.  size is a slot's, data the dump.
DESIGN CHOICE: log entry 58. -/
def State.dumpTo (s : State) (k : Nat) (base slots size : Nat) (over_ : Bool) (data : List Byte) : State × Bool :=
  let q := s.part k
  if slots = 0 then (s, true)
  else if slots ≤ q.dumpWr - q.dumpRd && !over_ then
    (s.modPart k (fun q => { q with dumpSeq := q.dumpSeq + 1, dumpLost := q.dumpLost + 1 }), false)
  else
    ((s.wrMem (base + q.dumpWr % slots * size) data).modPart k (fun q => { q with
      dumpSeq := q.dumpSeq + 1, dumpWr := q.dumpWr + 1, dumpLost := 0 }), true)

/-- The module counters' own dump, which the physical function's record sets (R505).
DESIGN CHOICE: log entry 58. -/
def State.moduleDump (s : State) : State :=
  let f (o n : Nat) : Nat := s.fld 0 Ty.moduleCounter 0 o n
  let period := f 260 4 * 1000
  if f 256 1 = 1 && period != 0 && s.time % period = 0 then
    let data := (Config.moduleDump ((List.range 128).map (fun i => (tget s.gctr (384 + i) 0).toNat))).take 16384
    (s.dumpTo 16 (f 272 8) (f 268 4) 16384 (f 257 1 == 1) data).1
  else s

/-- DUMP_INSTANT (R505 to R509): a whole multiple of DUMP_PERIOD.  A selection committed since takes effect first.
DEDUCED: log entry 59. -/
def execDumpInstant (p : Pn) (s : State) : Out :=
  let q := s.part p
  let old := q.selImg
  let new := (s.rcd p Ty.counterSelection p).bytes
  let now := if selFld old 384 1 = 1 || !q.selPend then old else new
  let period := selFld now 388 4 * 1000
  if !s.pow.main then .next s
  else
    let s := if p.val = 0 then s.moduleDump else s
    if period = 0 || s.time % period != 0 then .next s
    else
      let s := if q.selPend then s.takeSelection p else s
      let sel := (s.part p).selImg
      let own := selFld sel 388 4 * 1000
      if selFld sel 384 1 != 1 || own = 0 || s.time % own != 0 then .next s
      else
        let data := s.dumpBytes p
        let r := s.dumpTo p (selFld sel 400 8) (selFld sel 392 4) (cdiv data.length 4096 * 4096) (selFld sel 385 1 == 1) data
        .next (if r.2 then r.1 else r.1.pcount p PEv.dumpLost 1)

/-! ### Tag records (R511, R514) -/

/-- Whether an instruction names a done flag (R207). -/
def hasDone (w : Nat) : Bool :=
  match wordOp w with
  | some .send => true
  | some .recv => true
  | some .aprog => true
  | some .acal => true
  | some .drill => true
  | _ => false

/-- Whether the tagged instruction's last stage has come, or its end by fault or reset, or 1 s (R511, R514). -/
def State.tagReady (s : State) (c : Nat) : Bool :=
  let cl := s.cell c
  let w := cl.tagWord.toNat
  cl.tagOpen && ((cl.tagStatus != 255 && (!hasDone w || cl.tagStatus == 1 || cl.tagT.2.2.2 != 0xFFFFFFFF)) ||
    (cl.tagStatus == 255 && !cl.flight.any (fun f => f.tag) && cl.tagT.1 != 0xFFFFFFFF) || s.passed cl.tagAt 1000000000)

/-- TAG_RECORD_WRITE (R511): the record goes to the next slot of the partition's tag ring.
DEDUCED: log entry 96. -/
def execTagRecordWrite (c : Cid) (s : State) : Out :=
  if !s.tagReady c then .next s
  else
    let cl := s.cell c
    let p := s.owner c
    let w := cl.tagWord.toNat
    let sel := (s.part p).selImg
    let slots := selFld sel 396 4
    let rec_ := leBytes 8 cl.tagAt ++ leBytes 2 c ++ leBytes 2 (pidOf (s.reg c)) ++ leBytes 2 cl.tagPc ++ leBytes 1 (bits w 123 120) ++
      leBytes 1 (bits w 119 112) ++ leBytes 1 (wordMod w) ++ leBytes 1 cl.tagWait ++ leBytes 1 cl.tagStatus ++ leBytes 1 0 ++ leBytes 4 cl.tagT.1 ++
      leBytes 4 cl.tagT.2.1 ++ leBytes 4 cl.tagT.2.2.1 ++ leBytes 4 cl.tagT.2.2.2 ++ leBytes 4 cl.tagStep ++ leBytes 24 0
    let s := s.modCell c (fun cl => { cl with tagOpen := false })
    if slots = 0 then .next s
    else
      .next ((s.wrMem (selFld sel 408 8 + (s.part p).tagWr % slots * 64) rec_).modPart p (fun q => { q with tagWr := (q.tagWr + 1) % 2 ^ 32 }))

/-! ### The feed strap (R542, R553) -/

/-- FEED_ID_CHANGE: the held value stays; one entry a change.
DESIGN CHOICE: log entry 101. -/
def execFeedIdChange (v : Fin 16) (s : State) : Out :=
  if v.val = s.groom.feedPins then .next s
  else
    let s := s.modGroom (fun g => { g with feedPins := v })
    .next (if s.pow.aux && s.groom.feedSet then s.log 0 Db.feedChange v [s.groom.feed] else s)

end Sys2Proof.Machine
end

