-- ==== Sys2Proof/Machine/Dispatch.lean ====
section
/-! DEFINITION. Machine/Dispatch: which meaning each command has. -/

namespace Sys2Proof.Machine

/-- The effect of one command on everything but the queue. -/
def exec (i : Instr) (s : State) : Host.Outcome State Fault Refusal :=
  match i with
  | .nop c => Sys2Proof.Machine.execNop c s
  | .stop c => Sys2Proof.Machine.execStop c s
  | .br c => Sys2Proof.Machine.execBr c s
  | .loop c => Sys2Proof.Machine.execLoop c s
  | .wait c => Sys2Proof.Machine.execWait c s
  | .waitSatisfied c => Sys2Proof.Machine.execWaitSatisfied c s
  | .waitTimeout c => Sys2Proof.Machine.execWaitTimeout c s
  | .signal c => Sys2Proof.Machine.execSignal c s
  | .fence c => Sys2Proof.Machine.execFence c s
  | .barrier c => Sys2Proof.Machine.execBarrier c s
  | .localBarrierComplete p g => Sys2Proof.Machine.execLocalBarrierComplete p g s
  | .lds c => Sys2Proof.Machine.execLds c s
  | .sts c => Sys2Proof.Machine.execSts c s
  | .copy c => Sys2Proof.Machine.execCopy c s
  | .gather c => Sys2Proof.Machine.execGather c s
  | .scatter c => Sys2Proof.Machine.execScatter c s
  | .send c => Sys2Proof.Machine.execSend c s
  | .recv c => Sys2Proof.Machine.execRecv c s
  | .amv c => Sys2Proof.Machine.execAmv c s
  | .amvt c => Sys2Proof.Machine.execAmvt c s
  | .productStart c codes => Sys2Proof.Machine.execProductStart c codes s
  | .referenceProductReturn c => Sys2Proof.Machine.execReferenceProductReturn c s
  | .insertedProduct c => Sys2Proof.Machine.execInsertedProduct c s
  | .convRangeWiden r x g => Sys2Proof.Machine.execConvRangeWiden r x g s
  | .crossbarSuspect r x => Sys2Proof.Machine.execCrossbarSuspect r x s
  | .noiseSigmaUpdate r x => Sys2Proof.Machine.execNoiseSigmaUpdate r x s
  | .outputBaseline r x => Sys2Proof.Machine.execOutputBaseline r x s
  | .driftRefRead r x codes => Sys2Proof.Machine.execDriftRefRead r x codes s
  | .aread c levels => Sys2Proof.Machine.execAread c levels s
  | .aprogUpdate c => Sys2Proof.Machine.execAprogUpdate c s
  | .aprogLoad c => Sys2Proof.Machine.execAprogLoad c s
  | .writeStart c => Sys2Proof.Machine.execWriteStart c s
  | .rowWriteDone c ok rounds levels => Sys2Proof.Machine.execRowWriteDone c ok rounds levels s
  | .writeComplete c => Sys2Proof.Machine.execWriteComplete c s
  | .aswap c => Sys2Proof.Machine.execAswap c s
  | .aswapExchange c => Sys2Proof.Machine.execAswapExchange c s
  | .acal c => Sys2Proof.Machine.execAcal c s
  | .calibrationStart d => Sys2Proof.Machine.execCalibrationStart d s
  | .recalSlice r x z m rows sg sgT => Sys2Proof.Machine.execRecalSlice r x z m rows sg sgT s
  | .dmm c => Sys2Proof.Machine.execDmm c s
  | .dconv c => Sys2Proof.Machine.execDconv c s
  | .qrot c => Sys2Proof.Machine.execQrot c s
  | .qnt c => Sys2Proof.Machine.execQnt c s
  | .dqnt c => Sys2Proof.Machine.execDqnt c s
  | .vadd c => Sys2Proof.Machine.execVadd c s
  | .vmul c => Sys2Proof.Machine.execVmul c s
  | .vfma c => Sys2Proof.Machine.execVfma c s
  | .vcmp c => Sys2Proof.Machine.execVcmp c s
  | .vsel c => Sys2Proof.Machine.execVsel c s
  | .vmin c => Sys2Proof.Machine.execVmin c s
  | .vmax c => Sys2Proof.Machine.execVmax c s
  | .acc c => Sys2Proof.Machine.execAcc c s
  | .accrd c => Sys2Proof.Machine.execAccrd c s
  | .cred c => Sys2Proof.Machine.execCred c s
  | .cbcast c => Sys2Proof.Machine.execCbcast c s
  | .cnorm c => Sys2Proof.Machine.execCnorm c s
  | .cfin c => Sys2Proof.Machine.execCfin c s
  | .topkScan c => Sys2Proof.Machine.execTopkScan c s
  | .topkMerge c => Sys2Proof.Machine.execTopkMerge c s
  | .tack c => Sys2Proof.Machine.execTack c s
  | .tcommit c => Sys2Proof.Machine.execTcommit c s
  | .drill c => Sys2Proof.Machine.execDrill c s
  | .drillReferenceTimeout c => Sys2Proof.Machine.execDrillReferenceTimeout c s
  | .digest c => Sys2Proof.Machine.execDigest c s
  | .illegalInstruction c => Sys2Proof.Machine.execIllegalInstruction c s
  | .instrComplete c u => Sys2Proof.Machine.execInstrComplete c u s
  | .executionFault c u code cause addr => Sys2Proof.Machine.execExecutionFault c u code cause addr s
  | .collectiveTimeout c => Sys2Proof.Machine.execCollectiveTimeout c s
  | .drillVisit d => Sys2Proof.Machine.execDrillVisit d s
  | .drillRound d c runs => Sys2Proof.Machine.execDrillRound d c runs s
  | .govSample vin iin => Sys2Proof.Machine.execGovSample vin iin s
  | .govWindow => Sys2Proof.Machine.execGovWindow s
  | .govCeilingRaise => Sys2Proof.Machine.execGovCeilingRaise s
  | .overcurrentStall iin => Sys2Proof.Machine.execOvercurrentStall iin s
  | .overcurrentRelease iin => Sys2Proof.Machine.execOvercurrentRelease iin s
  | .gaitChange r g => Sys2Proof.Machine.execGaitChange r g s
  | .gaitClockSwitch r => Sys2Proof.Machine.execGaitClockSwitch r s
  | .droopStretch r mv => Sys2Proof.Machine.execDroopStretch r mv s
  | .droopDerate r => Sys2Proof.Machine.execDroopDerate r s
  | .droopDerateEnd r => Sys2Proof.Machine.execDroopDerateEnd r s
  | .tempSplit hot cold diff => Sys2Proof.Machine.execTempSplit hot cold diff s
  | .tempSplitClear r diff => Sys2Proof.Machine.execTempSplitClear r diff s
  | .bridgeFail d e => Sys2Proof.Machine.execBridgeFail d e s
  | .regulatorFail d pr b why => Sys2Proof.Machine.execRegulatorFail d pr b why s
  | .senseFault d pr mv => Sys2Proof.Machine.execSenseFault d pr mv s
  | .jointSample d pr vout vsense amps => Sys2Proof.Machine.execJointSample d pr vout vsense amps s
  | .jointFault d pr fail => Sys2Proof.Machine.execJointFault d pr fail s
  | .vcFail d z amps => Sys2Proof.Machine.execVcFail d z amps s
  | .memoryConverterFail k => Sys2Proof.Machine.execMemoryConverterFail k s
  | .regionSwitchOn r neigh zone => Sys2Proof.Machine.execRegionSwitchOn r neigh zone s
  | .switchOnStage r seg => Sys2Proof.Machine.execSwitchOnStage r seg s
  | .switchOnFault r => Sys2Proof.Machine.execSwitchOnFault r s
  | .regionLeaveOn r => Sys2Proof.Machine.execRegionLeaveOn r s
  | .inputOvervoltage vin => Sys2Proof.Machine.execInputOvervoltage vin s
  | .inputOvWarn vin => Sys2Proof.Machine.execInputOvWarn vin s
  | .inputUndervoltage vin => Sys2Proof.Machine.execInputUndervoltage vin s
  | .powerFailHold vin => Sys2Proof.Machine.execPowerFailHold vin s
  | .powerFailRelease vin => Sys2Proof.Machine.execPowerFailRelease vin s
  | .inputCollapse vin => Sys2Proof.Machine.execInputCollapse vin s
  | .thermalTrip d t => Sys2Proof.Machine.execThermalTrip d t s
  | .monConversion d ch q raw src => Sys2Proof.Machine.execMonConversion d ch q raw src s
  | .monBurstTrigger p d => Sys2Proof.Machine.execMonBurstTrigger p d s
  | .monUrgent d ch => Sys2Proof.Machine.execMonUrgent d ch s
  | .refinFault d => Sys2Proof.Machine.execRefinFault d s
  | .refinFaultClear d => Sys2Proof.Machine.execRefinFaultClear d s
  | .sensorFail d t => Sys2Proof.Machine.execSensorFail d t s
  | .monitorSelfCal d k ok => Sys2Proof.Machine.execMonitorSelfCal d k ok s
  | .columnSelfCal r bad => Sys2Proof.Machine.execColumnSelfCal r bad s
  | .calRecordStore r => Sys2Proof.Machine.execCalRecordStore r s
  | .portSignalDetect pt => Sys2Proof.Machine.execPortSignalDetect pt s
  | .linkTrainingEnd pt ok => Sys2Proof.Machine.execLinkTrainingEnd pt ok s
  | .portDown pt => Sys2Proof.Machine.execPortDown pt s
  | .linkReplay pt have_ => Sys2Proof.Machine.execLinkReplay pt have_ s
  | .hello pt m => Sys2Proof.Machine.execHello pt m s
  | .helloAck pt m => Sys2Proof.Machine.execHelloAck pt m s
  | .helloResend pt => Sys2Proof.Machine.execHelloResend pt s
  | .linkState h nbrs => Sys2Proof.Machine.execLinkState h nbrs s
  | .ping h => Sys2Proof.Machine.execPing h s
  | .pong h => Sys2Proof.Machine.execPong h s
  | .pingTimer => Sys2Proof.Machine.execPingTimer s
  | .lossTimeout n => Sys2Proof.Machine.execLossTimeout n s
  | .suspect h n => Sys2Proof.Machine.execSuspect h n s
  | .suspectGatherEnd => Sys2Proof.Machine.execSuspectGatherEnd s
  | .coordinatorLost => Sys2Proof.Machine.execCoordinatorLost s
  | .epochPropose h e chg => Sys2Proof.Machine.execEpochPropose h e chg s
  | .deferredAckTest => Sys2Proof.Machine.execDeferredAckTest s
  | .epochAck h e => Sys2Proof.Machine.execEpochAck h e s
  | .immediateAckTimeout => Sys2Proof.Machine.execImmediateAckTimeout s
  | .epochCommit h e chg => Sys2Proof.Machine.execEpochCommit h e chg s
  | .joinReq h lo hi => Sys2Proof.Machine.execJoinReq h lo hi s
  | .joinLockTimeout => Sys2Proof.Machine.execJoinLockTimeout s
  | .leaveReq h urgent => Sys2Proof.Machine.execLeaveReq h urgent s
  | .stepReplay h p step => Sys2Proof.Machine.execStepReplay h p step s
  | .timeSync pt h t1 grand ftStep => Sys2Proof.Machine.execTimeSync pt h t1 grand ftStep s
  | .timeReply pt h t1 t2 t3 => Sys2Proof.Machine.execTimeReply pt h t1 t2 t3 s
  | .timeSyncTimer => Sys2Proof.Machine.execTimeSyncTimer s
  | .ftimeSet fn v => Sys2Proof.Machine.execFtimeSet fn v s
  | .ftimeStep => Sys2Proof.Machine.execFtimeStep s
  | .ppsInEdge => Sys2Proof.Machine.execPpsInEdge s
  | .ppsOutSecond => Sys2Proof.Machine.execPpsOutSecond s
  | .data h m => Sys2Proof.Machine.execData h m s
  | .e2eAck h flow seq bad => Sys2Proof.Machine.execE2eAck h flow seq bad s
  | .e2eResend c n => Sys2Proof.Machine.execE2eResend c n s
  | .remoteSignal h c k n => Sys2Proof.Machine.execRemoteSignal h c k n s
  | .barrierArrive h g rank => Sys2Proof.Machine.execBarrierArrive h g rank s
  | .barrierRelease h g => Sys2Proof.Machine.execBarrierRelease h g s
  | .collData h g m => Sys2Proof.Machine.execCollData h g m s
  | .collCtrl h g rank count => Sys2Proof.Machine.execCollCtrl h g rank count s
  | .unknownMessage h ty => Sys2Proof.Machine.execUnknownMessage h ty s
  | .groupDigest h g dg => Sys2Proof.Machine.execGroupDigest h g dg s
  | .snapPlan h p step ival => Sys2Proof.Machine.execSnapPlan h p step ival s
  | .quiesceDone p => Sys2Proof.Machine.execQuiesceDone p s
  | .snapReq h p cause => Sys2Proof.Machine.execSnapReq h p cause s
  | .remountAsk h size => Sys2Proof.Machine.execRemountAsk h size s
  | .remountGrant h left => Sys2Proof.Machine.execRemountGrant h left s
  | .remountDeny h left => Sys2Proof.Machine.execRemountDeny h left s
  | .snapData h step item off data last => Sys2Proof.Machine.execSnapData h step item off data last s
  | .snapStored h p step ok => Sys2Proof.Machine.execSnapStored h p step ok s
  | .snapDone h p step ok => Sys2Proof.Machine.execSnapDone h p step ok s
  | .snapLeaderTimeout p => Sys2Proof.Machine.execSnapLeaderTimeout p s
  | .snapSecured h p step => Sys2Proof.Machine.execSnapSecured h p step s
  | .snapAbort h p step => Sys2Proof.Machine.execSnapAbort h p step s
  | .emergRecord h data => Sys2Proof.Machine.execEmergRecord h data s
  | .fetchReq h owner step item off len => Sys2Proof.Machine.execFetchReq h owner step item off len s
  | .fetchData h p m => Sys2Proof.Machine.execFetchData h p m s
  | .restoreReady h p step ok => Sys2Proof.Machine.execRestoreReady h p step ok s
  | .resumeMsg h p step t => Sys2Proof.Machine.execResumeMsg h p step t s
  | .load fn q => Sys2Proof.Machine.execLoad fn q s
  | .start fn q => Sys2Proof.Machine.execStart fn q s
  | .startTimeReached c => Sys2Proof.Machine.execStartTimeReached c s
  | .hostStop fn q => Sys2Proof.Machine.execHostStop fn q s
  | .resume fn q => Sys2Proof.Machine.execResume fn q s
  | .resetContext fn q => Sys2Proof.Machine.execResetContext fn q s
  | .resetEngine fn q => Sys2Proof.Machine.execResetEngine fn q s
  | .dmaCopy fn q => Sys2Proof.Machine.execDmaCopy fn q s
  | .dmaCopyDone fn k => Sys2Proof.Machine.execDmaCopyDone fn k s
  | .hostReadTimeout fn k done => Sys2Proof.Machine.execHostReadTimeout fn k done s
  | .hostTack fn q => Sys2Proof.Machine.execHostTack fn q s
  | .hostTcommit fn q => Sys2Proof.Machine.execHostTcommit fn q s
  | .flag fn q => Sys2Proof.Machine.execFlag fn q s
  | .attach fn q => Sys2Proof.Machine.execAttach fn q s
  | .attachDriftCheck c levels codes => Sys2Proof.Machine.execAttachDriftCheck c levels codes s
  | .hostSnapReq fn q => Sys2Proof.Machine.execHostSnapReq fn q s
  | .drillPkg fn q => Sys2Proof.Machine.execDrillPkg fn q s
  | .shardMap fn q => Sys2Proof.Machine.execShardMap fn q s
  | .shardCopy p => Sys2Proof.Machine.execShardCopy p s
  | .planBuf fn q => Sys2Proof.Machine.execPlanBuf fn q s
  | .status fn q => Sys2Proof.Machine.execStatus fn q s
  | .sqDoorbell fn q tail entries host => Sys2Proof.Machine.execSqDoorbell fn q tail entries host s
  | .cqHeadDoorbell fn q head => Sys2Proof.Machine.execCqHeadDoorbell fn q head s
  | .qCreate fn q => Sys2Proof.Machine.execQCreate fn q s
  | .qDelete fn q => Sys2Proof.Machine.execQDelete fn q s
  | .cqCoalesceTimer fn q => Sys2Proof.Machine.execCqCoalesceTimer fn q s
  | .bar4Access fn off len wr => Sys2Proof.Machine.execBar4Access fn off len wr s
  | .poisonedTlp fn bar addr => Sys2Proof.Machine.execPoisonedTlp fn bar addr s
  | .malformedTlp => Sys2Proof.Machine.execMalformedTlp s
  | .linkLoss => Sys2Proof.Machine.execLinkLoss s
  | .perstDeassert => Sys2Proof.Machine.execPerstDeassert s
  | .perstAssert => Sys2Proof.Machine.execPerstAssert s
  | .pcieLinkUp rate width => Sys2Proof.Machine.execPcieLinkUp rate width s
  | .functionLevelReset p => Sys2Proof.Machine.execFunctionLevelReset p s
  | .pcieHotReset => Sys2Proof.Machine.execPcieHotReset s
  | .moduleReset fn v => Sys2Proof.Machine.execModuleReset fn v s
  | .moduleResetStage => Sys2Proof.Machine.execModuleResetStage s
  | .moduleResetOverrun => Sys2Proof.Machine.execModuleResetOverrun s
  | .pwrCycleReq fn v => Sys2Proof.Machine.execPwrCycleReq fn v s
  | .supervisorExpiry => Sys2Proof.Machine.execSupervisorExpiry s
  | .counterLowRead fn n user => Sys2Proof.Machine.execCounterLowRead fn n user s
  | .cellSampleRead fn c => Sys2Proof.Machine.execCellSampleRead fn c s
  | .monWrIndexRead d => Sys2Proof.Machine.execMonWrIndexRead d s
  | .shadowSel fn ty inst => Sys2Proof.Machine.execShadowSel fn ty inst s
  | .commit fn ty => Sys2Proof.Machine.execCommit fn ty s
  | .registerWrite fn off len v => Sys2Proof.Machine.execRegisterWrite fn off len v s
  | .inputRise => Sys2Proof.Machine.execInputRise s
  | .bootStageComplete ok => Sys2Proof.Machine.execBootStageComplete ok s
  | .bootStageTimeout => Sys2Proof.Machine.execBootStageTimeout s
  | .tackStoreWrite => Sys2Proof.Machine.execTackStoreWrite s
  | .setEndpointId b eid => Sys2Proof.Machine.execSetEndpointId b eid s
  | .pldmSensorRead b id => Sys2Proof.Machine.execPldmSensorRead b id s
  | .platformEventRetry id => Sys2Proof.Machine.execPlatformEventRetry id s
  | .platformEventAck id => Sys2Proof.Machine.execPlatformEventAck id s
  | .setStateEffecterStates b eff st => Sys2Proof.Machine.execSetStateEffecterStates b eff st s
  | .pldmFirmwareUpdate b comp data => Sys2Proof.Machine.execPldmFirmwareUpdate b comp data s
  | .activateFirmware b => Sys2Proof.Machine.execActivateFirmware b s
  | .spdmGetVersion b => Sys2Proof.Machine.execSpdmGetVersion b s
  | .spdmGetCapabilities b => Sys2Proof.Machine.execSpdmGetCapabilities b s
  | .spdmNegotiateAlgorithms b sha3 mldsa => Sys2Proof.Machine.execSpdmNegotiateAlgorithms b sha3 mldsa s
  | .spdmGetCertificate b slot => Sys2Proof.Machine.execSpdmGetCertificate b slot s
  | .spdmChallenge b slot nonce => Sys2Proof.Machine.execSpdmChallenge b slot nonce s
  | .spdmGetMeasurements b idx slot => Sys2Proof.Machine.execSpdmGetMeasurements b idx slot s
  | .readLog b seq count => Sys2Proof.Machine.execReadLog b seq count s
  | .daybookHighWater => Sys2Proof.Machine.execDaybookHighWater s
  | .getStatus => Sys2Proof.Machine.execGetStatus s
  | .getIdentity => Sys2Proof.Machine.execGetIdentity s
  | .readSensor id => Sys2Proof.Machine.execReadSensor id s
  | .mailboxReadLog seq count => Sys2Proof.Machine.execMailboxReadLog seq count s
  | .getPower => Sys2Proof.Machine.execGetPower s
  | .getThermal => Sys2Proof.Machine.execGetThermal s
  | .getAlert => Sys2Proof.Machine.execGetAlert s
  | .clearAlert bits => Sys2Proof.Machine.execClearAlert bits s
  | .requestReset v => Sys2Proof.Machine.execRequestReset v s
  | .fwStart len => Sys2Proof.Machine.execFwStart len s
  | .fwData off data => Sys2Proof.Machine.execFwData off data s
  | .fwFinish => Sys2Proof.Machine.execFwFinish s
  | .mailboxReadResponse => Sys2Proof.Machine.execMailboxReadResponse s
  | .mailboxBadCmd code => Sys2Proof.Machine.execMailboxBadCmd code s
  | .svcPress => Sys2Proof.Machine.execSvcPress s
  | .shortPress => Sys2Proof.Machine.execShortPress s
  | .longPress => Sys2Proof.Machine.execLongPress s
  | .handleTouch => Sys2Proof.Machine.execHandleTouch s
  | .touchLapse => Sys2Proof.Machine.execTouchLapse s
  | .latchOpen => Sys2Proof.Machine.execLatchOpen s
  | .latchClosed => Sys2Proof.Machine.execLatchClosed s
  | .withdrawSecured => Sys2Proof.Machine.execWithdrawSecured s
  | .safeLogWaitExpiry => Sys2Proof.Machine.execSafeLogWaitExpiry s
  | .dumpInstant p => Sys2Proof.Machine.execDumpInstant p s
  | .tagRecordWrite c => Sys2Proof.Machine.execTagRecordWrite c s
  | .feedIdChange v => Sys2Proof.Machine.execFeedIdChange v s
  | .auxConverterFail k => Sys2Proof.Machine.execAuxConverterFail k s
  | .auxiliaryRailLoss => Sys2Proof.Machine.execAuxiliaryRailLoss s
  | .numvfsChange n => Sys2Proof.Machine.execNumvfsChange n s
  | .snapReqLapse p => Sys2Proof.Machine.execSnapReqLapse p s
  | .progressWordSample p => Sys2Proof.Machine.execProgressWordSample p s
  | .policyEngineWindow conf gaits => Sys2Proof.Machine.execPolicyEngineWindow conf gaits s
  | .messageLands c n => Sys2Proof.Machine.execMessageLands c n s
  | .resetComplete c => Sys2Proof.Machine.execResetComplete c s
  | .ledFlashEnd => Sys2Proof.Machine.execLedFlashEnd s

end Sys2Proof.Machine
end

