-- ==== Sys2Proof/Machine/Step.lean ====
section
/-! DEFINITION. Machine/Step: the block takes the command at the front of its queue; on an empty queue its clock
ticks. -/

namespace Sys2Proof.Machine

/-- One step: the front command runs on the state with the queue's rest; an empty queue lets one nanosecond pass.
DESIGN CHOICE: log entry 2. -/
def step (s : State) : Host.Outcome State Fault Refusal :=
  match s.pending with
  | [] => .next (Sys2Proof.Machine.State.tick s)
  | c :: rest => Sys2Proof.Machine.exec c { s with pending := rest }

/-- The state with the command a table word spells put at the front of its queue; no word spells one.
DEDUCED: log entry 5. -/
def State.withFetchWord (s : State) (nbits w : Nat) : State :=
  match Sys2Proof.decodeTableWord nbits w with
  | some c => { s with pending := c :: s.pending }
  | none => s

end Sys2Proof.Machine
end

