-- ==== Sys2Proof/Safety.lean ====
section
/-! DEFINITION. Safety: the terms the statements are made in: which parts of the state two states share, what it is for a
command to complete, and the invariants of every state. -/

namespace Sys2Proof.Machine

/-- The parts of the state, one for each field of State. -/
inductive Area where
  | pending
  | time
  | cells
  | phys
  | repair
  | parts
  | funcs
  | recs
  | store
  | mem
  | badMem
  | hostMem
  | fab
  | dies
  | pow
  | boot
  | hif
  | groom
  | day
  | daySeq
  | rack
  | gctr
  deriving DecidableEq, Repr

/-- Whether two states agree in a part. -/
def State.same (s t : State) (a : Area) : Prop :=
  match a with
  | .pending => t.pending = s.pending
  | .time => t.time = s.time
  | .cells => t.cells = s.cells
  | .phys => t.phys = s.phys
  | .repair => t.repair = s.repair
  | .parts => t.parts = s.parts
  | .funcs => t.funcs = s.funcs
  | .recs => t.recs = s.recs
  | .store => t.store = s.store
  | .mem => t.mem = s.mem
  | .badMem => t.badMem = s.badMem
  | .hostMem => t.hostMem = s.hostMem
  | .fab => t.fab = s.fab
  | .dies => t.dies = s.dies
  | .pow => t.pow = s.pow
  | .boot => t.boot = s.boot
  | .hif => t.hif = s.hif
  | .groom => t.groom = s.groom
  | .day => t.day = s.day
  | .daySeq => t.daySeq = s.daySeq
  | .rack => t.rack = s.rack
  | .gctr => t.gctr = s.gctr

/-- t differs from s at most in the parts of a list. -/
def State.onlyIn (s t : State) (l : List Area) : Prop := ∀ a, a ∉ l → s.same t a

/-- Two cells agree in everything but the program counter, the loop stack, the wait, the heartbeat, the flag counters, the unit
status, the event counters and the sampling of tags: what the retirement of an instruction may change in its cell. -/
def Cell.sameBody (x y : Cell) : Prop :=
  y = { x with
    pc := y.pc, loops := y.loops, wait := y.wait, heartbeat := y.heartbeat, flags := y.flags, unitStatus := y.unitStatus, ctr := y.ctr
    fetches := y.fetches, tagOpen := y.tagOpen, tagAt := y.tagAt, tagWord := y.tagWord, tagPc := y.tagPc, tagWait := y.tagWait
    tagStatus := y.tagStatus, tagStep := y.tagStep, tagT := y.tagT }

/-- t differs from s in one cell at most. -/
def State.cellOnly (s t : State) (c : Nat) : Prop := s.onlyIn t [.cells] ∧ ∀ d, d ≠ c → t.cell d = s.cell d

/-- What the retirement of the word w leaves, whatever its own effect on the program counter: only its cell has changed, and that only in
what a retirement may change; the wait is over, the heartbeat has gone on by 1, and of the flag counters the one that COMP names, by 1
(R31, R35, R64, R65). -/
def State.retiredAs (s t : State) (c w : Nat) : Prop :=
  s.cellOnly t c ∧ (s.cell c).sameBody (t.cell c) ∧ (t.cell c).wait = Wait.reset ∧
    (t.cell c).heartbeat = ((s.cell c).heartbeat + 1) % 2 ^ 64 ∧
    ∀ k, tget (t.cell c).flags k 0 = tget (s.cell c).flags k 0 + (if k = wordComp w ∧ k ≠ 0 then 1 else 0)

/-- Whether the flag counter that the word's COMP names can take one more count (R35, R36). -/
abbrev State.compFits (s : State) (c w : Nat) : Prop := wordComp w = 0 ∨ tget (s.cell c).flags (wordComp w) 0 + 1 < 2 ^ 32

/-- The command answers a next state of which P holds. -/
def Completes (i : Instr) (s : State) (P : State → Prop) : Prop := ∃ t, exec i s = .next t ∧ P t

/-- The invariant of the module's memory: its list is in the one canonical form. -/
abbrev State.memoryCanonical (s : State) : Prop := Memory.wf s.mem = true

/-- A message that this module acts on: its reserved fields are zero and it is addressed here, or to all (R297, R302). -/
abbrev State.forUs (s : State) (h : Hdr) : Prop := h.rsv = 0 ∧ (h.dst = s.fab.nodeId ∨ h.dst = 0xFFFF)

/-- t has sent these messages beyond what s had sent. -/
def State.sent (s t : State) (l : List (List Nat)) : Prop := t.fab.tx = s.fab.tx ++ l

/-- The cells of a command over a set are as R455 asks: an acceptable SET and bitmap, at least one cell, and every cell the partition's
own. -/
abbrev State.cellSet (s : State) (p : Nat) (k : Cmd) : Prop :=
  k.set ≤ 1 ∧ (k.set = 1 → s.addrBad p k.a3 128 = none) ∧ s.cmdCells k ≠ [] ∧ ∀ c ∈ s.cmdCells k, c < 1024 ∧ s.owner c = p

end Sys2Proof.Machine
end

