-- ==== Sys2Proof/Certificates/Slice0/Obligations.lean ====
section
/-! DEFINITION. Certificates/Slice0/Obligations: the statements for the provers. -/

open Sys2Proof Sys2Proof.Machine

/-- A command at the front of the queue runs on the state with the queue's rest. -/
def Obligations.StepRunsFrontCommand : Prop :=
  ∀ (c : Instr) (rest : List Instr) (s : State),
    s.pending = c :: rest → step s = exec c { s with pending := rest }

/-- On an empty queue the clock ticks: a nanosecond passes while the auxiliary rail is up and no offset is being slewed, and nothing passes
without that rail (the model's choice, log entry 2). -/
def Obligations.IdleStepTicks : Prop :=
  ∀ s : State, s.pending = [] →
    ∃ t, step s = .next t ∧ s.onlyIn t [.time, .fab, .rack] ∧
      (s.pow.aux = false → t.time = s.time) ∧
      (s.pow.aux = true → s.fab.slew = 0 → t.time = (s.time + 1) % 2 ^ 64)

/-- Every step, whichever command it runs, takes one command from the queue and puts none into it. -/
def Obligations.StepTakesOneCommand : Prop :=
  ∀ s t : State, step s = .next t → t.pending = s.pending.tail

/-- Every step keeps module memory in its canonical form. -/
def Obligations.StepKeepsMemoryCanonical : Prop :=
  ∀ s t : State, s.memoryCanonical → step s = .next t → t.memoryCanonical

/-- After reset: the stage of bring-up is 0x01, no rail is up, no queue exists, no port is up, every logical cell is EMPTY in the place the
default repair map gives it, every region is OFF and every crossbar STALE; and module memory, which reads zero by the model's choice (log entry
12), is in its canonical form. -/
def Obligations.ResetValues : Prop :=
  State.reset.boot.stage = 1 ∧ State.reset.boot.ready = false ∧ State.reset.pow.main = false ∧ State.reset.fab.nodeId = 0xFFFF ∧
    State.reset.fab.epoch = 0xFFFFFFFF ∧
    (∀ c : Cid, (State.reset.cell c).st = 0 ∧ State.reset.reg c = c / 256 * 272 + c % 256) ∧
    (∀ r : Rid, (State.reset.phy r).rst = 2 ∧ ∀ x : Xb, (State.reset.xbar r x).st = 4) ∧
    (∀ p q : Nat, (State.reset.queue p q).st = 0) ∧ State.reset.memoryCanonical ∧ ∀ a : Nat, State.reset.rd8 a = 0

/-- A byte of module memory reads as written, and every byte outside the bytes written reads as before. -/
def Obligations.MemoryReadsAsWritten : Prop :=
  ∀ (s : State) (a : Nat) (l : List Byte) (b : Nat),
    (s.wrMem a l).rd8 b = if a ≤ b ∧ b < a + l.length then l.getD (b - a) 0 else s.rd8 b

/-- NOP, BR, STOP, LOOP and FENCE: where the cell may issue the word and COMP has room, each retires, with the frame of a retirement.  NOP and
a BR whose condition fails go to the next word, a taken BR to its target; LOOP enters its body, or skips it at count 0; a FENCE whose units
have nothing in flight retires at once; STOP with nothing in flight leaves the cell STOPPED with reason PROGRAM (a FENCE over the instruction buffer, IB, changes fetch too and is left out here). -/
def Obligations.ControlInstructionsRetire : Prop :=
  ∀ (c : Cid) (s : State) (w : Nat), s.compFits c w →
    (s.atControl c .nop = some w → Completes (.nop c) s (fun t => s.retiredAs t c w ∧
      (t.cell c).pc = (nextWord (s.cell c).pc (s.cell c).loops).1)) ∧
    (s.atControl c .br = some w → Completes (.br c) s (fun t => (t.cell c).pc =
        (if ((s.cell c).cond w != bit (wordMod w) 0) then bits w 95 84 else (nextWord (s.cell c).pc (s.cell c).loops).1) ∧
        s.retiredAs t c w)) ∧
    (s.atControl c .loop = some w → bits w 95 64 ≠ 0 → (s.cell c).loops.length < 8 → Completes (.loop c) s (fun t =>
        s.retiredAs t c w ∧ (t.cell c).pc = ((s.cell c).pc + 1) % 4096 ∧
        (t.cell c).loops = { start := ((s.cell c).pc + 1) % 4096, stop := bits w 63 52, left := bits w 95 64 } :: (s.cell c).loops)) ∧
    (s.atControl c .loop = some w → bits w 95 64 = 0 → Completes (.loop c) s (fun t =>
        s.retiredAs t c w ∧ (t.cell c).pc = (nextWord (bits w 63 52) (s.cell c).loops).1 ∧ tget (t.cell c).unitStatus 0 15 = 1)) ∧
    (s.atControl c .fence = some w → bits w 95 88 = 0 → bit (wordMod w) 0 = false → Completes (.fence c) s (fun t =>
        s.retiredAs t c w ∧ (t.cell c).pc = (nextWord (s.cell c).pc (s.cell c).loops).1)) ∧
    (s.atControl c .stop = some w → (s.cell c).flight = [] → (s.cell c).hostStopBy = [] → Completes (.stop c) s (fun t =>
        s.cellOnly t c ∧ (t.cell c).st = 3 ∧ (t.cell c).stopHost = false ∧ (t.cell c).draining = 0))

/-- A LOOP with a count of 0 skips its body and continues after the end of the loop; a LOOP that would open a ninth level is a precise fault of
its word, and its cell is FAULTED with the cause loop depth (R45). -/
def Obligations.LoopCountAndDepth : Prop :=
  ∀ (c : Cid) (s : State) (w : Nat), s.atControl c .loop = some w →
    (bits w 95 64 = 0 → s.compFits c w → Completes (.loop c) s (fun t => s.cellOnly t c ∧ (t.cell c).st = (s.cell c).st ∧
        (t.cell c).pc = (nextWord (bits w 63 52) (s.cell c).loops).1 ∧ (t.cell c).loops = (nextWord (bits w 63 52) (s.cell c).loops).2)) ∧
    (bits w 95 64 ≠ 0 → 8 ≤ (s.cell c).loops.length →
      Completes (.loop c) s (fun t => (t.cell c).st = 4 ∧ (t.cell c).fault.code = Fc.loopDepth ∧ (t.cell c).fault.pc = (s.cell c).pc ∧
        s.onlyIn t [.cells, .funcs, .hostMem, .day, .daySeq]))

/-- WAIT takes its count where it is there, holds the sequencer where it is not, and does nothing for a count of 0; a pending WAIT takes its
count when it has come, or times out with the count left.  A SIGNAL without RELEASE to a cell of its own partition adds its count to the
flag counter it names, at once; a SIGNAL to a cell of another partition is a precise fault and adds nothing.  A flag counter that would pass
2³² − 1, whichever command adds to it, stays at 2³² − 1, and its cell raises a flag-overflow fault (R36). -/
def Obligations.FlagCountersAreTakenAndGiven : Prop :=
  ∀ (c : Cid) (s : State),
    (∀ w, s.atControl c .wait = some w → s.compFits c w → bits w 91 60 = 0 → Completes (.wait c) s (fun t =>
        s.cellOnly t c ∧ ∀ k, k ≠ wordComp w → tget (t.cell c).flags k 0 = tget (s.cell c).flags k 0)) ∧
    (∀ w, s.atControl c .wait = some w → s.compFits c w → bits w 91 60 ≠ 0 → bits w 91 60 ≤ tget (s.cell c).flags (bits w 95 92) 0 →
      Completes (.wait c) s (fun t => s.cellOnly t c ∧ (t.cell c).wait.kind = 0 ∧
        ∀ k, tget (t.cell c).flags k 0 = tget (s.cell c).flags k 0 - (if k = bits w 95 92 then bits w 91 60 else 0) +
          (if k = wordComp w ∧ k ≠ 0 then 1 else 0))) ∧
    (∀ w, s.atControl c .wait = some w → tget (s.cell c).flags (bits w 95 92) 0 < bits w 91 60 →
      ¬ (bit (wordMod w) 0 = true ∧ bits w 59 44 = 0) →
      Completes (.wait c) s (fun t => s.cellOnly t c ∧ (t.cell c).wait.kind = 1 ∧ (t.cell c).wait.sel = bits w 95 92 ∧
        (t.cell c).wait.count = bits w 91 60 ∧ (t.cell c).pc = (s.cell c).pc ∧ (t.cell c).flags = (s.cell c).flags)) ∧
    (s.waits c 1 = true → s.compFits c (s.cell c).word.toNat → (s.cell c).wait.count ≤ tget (s.cell c).flags (s.cell c).wait.sel 0 →
      Completes (.waitSatisfied c) s (fun t => s.onlyIn t [.cells, .parts] ∧ (t.cell c).wait.kind = 0 ∧
        ∀ k, tget (t.cell c).flags k 0 = tget (s.cell c).flags k 0 - (if k = (s.cell c).wait.sel then (s.cell c).wait.count else 0) +
          (if k = wordComp (s.cell c).word.toNat ∧ k ≠ 0 then 1 else 0))) ∧
    (s.waits c 1 = true → s.compFits c (s.cell c).word.toNat → (s.cell c).wait.timed = true →
      tget (s.cell c).flags (s.cell c).wait.sel 0 < (s.cell c).wait.count → s.passed (s.cell c).wait.start ((s.cell c).wait.tmo * 1000) = true →
      Completes (.waitTimeout c) s (fun t => s.onlyIn t [.cells, .parts] ∧ (t.cell c).wait.kind = 0 ∧ (t.cell c).timedOut = true ∧
        tget (t.cell c).unitStatus 0 15 = 2)) ∧
    (∀ w : Nat, s.atControl c .signal = some w → bit (wordMod w) 1 = false → bits w 75 66 ≠ c →
      (s.compFits c w → bit (wordMod w) 0 = false → s.owner (bits w 75 66) = s.owner c →
        tget (s.cell (bits w 75 66)).flags (bits w 95 92) 0 + bits w 91 76 < 2 ^ 32 →
        Completes (.signal c) s (fun t => s.onlyIn t [.cells] ∧ ∀ k, tget (t.cell (bits w 75 66)).flags k 0 =
          tget (s.cell (bits w 75 66)).flags k 0 + (if k = bits w 95 92 then bits w 91 76 else 0))) ∧
      (s.owner (bits w 75 66) ≠ s.owner c →
        Completes (.signal c) s (fun t => (t.cell c).st = 4 ∧ (t.cell c).fault.code = Fc.signalTarget ∧
          t.cell (bits w 75 66) = s.cell (bits w 75 66)))) ∧
    (∀ k n : Nat, k ≠ 0 → 2 ^ 32 ≤ tget (s.cell c).flags k 0 + n →
      tget ((s.addFlag c k n).cell c).flags k 0 = 2 ^ 32 - 1 ∧
      ((s.cell c).st ≠ 4 → ((s.addFlag c k n).cell c).st = 4 ∧ ((s.addFlag c k n).cell c).fault.code = Fc.flagOverflow)) ∧
    (∀ (h : Hdr) (k n : Nat), s.forUs h → 1 ≤ k → k ≤ 15 → n < 65536 → 2 ^ 32 ≤ tget (s.cell c).flags k 0 + n → (s.cell c).st ≠ 4 →
      Completes (.remoteSignal h c k n) s (fun t => tget (t.cell c).flags k 0 = 2 ^ 32 - 1 ∧ (t.cell c).st = 4 ∧
        (t.cell c).fault.code = Fc.flagOverflow))

/-- An instruction that enters its unit's queue changes its cell alone: the program counter moves on, and the queue gains one entry, with the
word, its place and the status; the cell's memories and flags stay.  A legal instruction whose count is zero does no more than that. -/
def Obligations.QueuedInstructionsChangeOnlyTheirCell : Prop :=
  (∀ (s : State) (c w : Nat) (i : Iss),
    s.cellOnly (s.enter c w i) c ∧
      ((s.enter c w i).cell c).pc = (nextWord (s.cell c).pc (s.cell c).loops).1 ∧
      ((s.enter c w i).cell c).flags = (s.cell c).flags ∧ ((s.enter c w i).cell c).spad = (s.cell c).spad ∧
      ((s.enter c w i).cell c).tally = (s.cell c).tally ∧ ((s.enter c w i).cell c).ibuf = (s.cell c).ibuf ∧
      ∃ f : Flight, ((s.enter c w i).cell c).flight = (s.cell c).flight ++ [f] ∧ f.word = (s.cell c).word ∧ f.pc = (s.cell c).pc ∧
        f.unit = wordUnit w ∧ f.status = (if i.zero then 1 else 0)) ∧
  (∀ (c : Cid) (s : State) (w : Nat),
    (∀ i, i = s.issCopy c .lds w → i.zero = true → s.atOp c .lds = some w → s.accepts c w i true = true →
      Completes (.lds c) s (fun t => t = s.enter c w i)) ∧
    (∀ i, i = s.issGather c w → i.zero = true → s.atOp c .gather = some w → s.accepts c w i true = true →
      Completes (.gather c) s (fun t => t = s.enter c w i)) ∧
    (∀ i, i = s.issVec c .vmul w → i.zero = true → s.atOp c .vmul = some w → s.accepts c w i true = true →
      Completes (.vmul c) s (fun t => t = s.enter c w i)) ∧
    (∀ i, i = s.issAcc c w → i.zero = true → s.atOp c .acc = some w → s.accepts c w i true = true →
      Completes (.acc c) s (fun t => t = s.enter c w i)) ∧
    (∀ i, i = s.issQnt c w → i.zero = true → s.atOp c .qnt = some w → s.accepts c w i true = true →
      Completes (.qnt c) s (fun t => t = s.enter c w i)))

/-- LDS, STS and COPY that their unit accepts copy their source stream to their destination, elements and scale bytes as stored; an STS to
the shard outbox posts the record instead. -/
def Obligations.CopiesRunWhenAccepted : Prop :=
  ∀ (c : Cid) (s : State) (w : Nat) (i : Iss), i.zero = false →
    (i = s.issCopy c .lds w → s.atOp c .lds = some w → s.accepts c w i true = true →
      Completes (.lds c) s (fun t => t = (s.enter c w i).copyStream c i.a i.d)) ∧
    (i = s.issCopy c .copy w → s.atOp c .copy = some w → s.accepts c w i true = true →
      Completes (.copy c) s (fun t => t = (s.enter c w i).copyStream c i.a i.d)) ∧
    (i = s.issCopy c .sts w → s.atOp c .sts = some w → s.accepts c w i true = true → (outboxForm i.a i.d (s.cell c).eval).1 = false →
      Completes (.sts c) s (fun t => t = (s.enter c w i).copyStream c i.a i.d)) ∧
    (i = s.issCopy c .sts w → s.atOp c .sts = some w → s.accepts c w i (!s.outboxFull (s.owner c)) = true →
      (outboxForm i.a i.d (s.cell c).eval).1 = true →
      Completes (.sts c) s (fun t => s.onlyIn t [.cells, .parts, .gctr]))

/-- The copy of a stream changes, of the whole state, only cells and module memory; a copy into its own cell leaves module memory and every
other cell alone, and a copy into module memory leaves every byte outside the destination's elements and scale bytes as it was.  The other units write their results through one operation, which stays in the cell
where the destination does. -/
def Obligations.CopyFrame : Prop :=
  ∀ (s : State) (c : Nat) (a d : Desc),
    s.onlyIn (s.copyStream c a d) [.cells, .mem] ∧
    (d.dev = false → s.cellOnly (s.copyStream c a d) c) ∧
    (d.dev = true → (∀ x ∈ d.pos, spadWindow (d.addr x.1 x.2) = none) →
      (∀ x ∈ d.blocks, spadWindow (d.scaleAddr x.1 x.2) = none) →
      (s.copyStream c a d).cells = s.cells ∧
      ∀ b : Nat, (∀ x ∈ d.pos, b < d.addr x.1 x.2 ∨ d.addr x.1 x.2 + max 1 (fmtBits d.fmt / 8) ≤ b) →
        (∀ x ∈ d.blocks, b ≠ d.scaleAddr x.1 x.2) → (s.copyStream c a d).rd8 b = s.rd8 b) ∧
    (∀ vs : List Fv, d.dev = false → s.cellOnly (s.wrWide c d vs) c)

/-- GATHER and SCATTER that their unit accepts complete, and change only cells and module memory.  A SEND that is accepted enters the send
table and a RECV the list of posted buffers, each with its partner, channel, tag and done flag. -/
def Obligations.TablesAndMessagesRun : Prop :=
  ∀ (c : Cid) (s : State) (w : Nat),
    (s.atOp c .gather = some w → s.accepts c w (s.issGather c w) true = true →
      Completes (.gather c) s (fun t => s.onlyIn t [.cells, .mem] ∧ (t.cell c).nextKey = (s.cell c).nextKey + 1)) ∧
    (s.atOp c .scatter = some w → s.accepts c w (s.issScatter c w) true = true →
      Completes (.scatter c) s (fun t => s.onlyIn t [.cells, .mem] ∧ (t.cell c).nextKey = (s.cell c).nextKey + 1)) ∧
    (s.atOp c .send = some w → (s.issMsg c w false).zero = false →
      s.accepts c w (s.issMsg c w false) (decide ((s.cell c).sends.length < 16)) = true →
      Completes (.send c) s (fun t => s.cellOnly t c ∧ (t.cell c).sends = (s.cell c).sends ++ [s.msgOf c w (s.issMsg c w false).a] ∧
        (t.cell c).recvs = (s.cell c).recvs)) ∧
    (s.atOp c .recv = some w → (s.issMsg c w true).zero = false → (s.cell c).recvs.length < 64 → s.accepts c w (s.issMsg c w true) true = true →
      Completes (.recv c) s (fun t => s.cellOnly t c ∧ (t.cell c).recvs = (s.cell c).recvs ++ [s.msgOf c w (s.issMsg c w true).d] ∧
        (t.cell c).sends = (s.cell c).sends))

/-- The vector instructions that their unit accepts form their results lane by lane and write them, with their folds.  ACC and ACCRD that
their unit accepts complete, leave the program's flags alone and change only cells and module memory; an ACC changes only its own cell. -/
def Obligations.VectorAndTallyInstructionsRun : Prop :=
  (∀ (c : Cid) (s : State) (w : Nat) (o : Op) (i : Iss), i = s.issVec c o w → i.zero = false → s.atOp c o = some w → s.accepts c w i true = true →
    (o = .vmul → Completes (.vmul c) s (fun t => t = (s.enter c w i).vecEffect c o w i)) ∧
    (o = .vfma → Completes (.vfma c) s (fun t => t = (s.enter c w i).vecEffect c o w i)) ∧
    (o = .vcmp → Completes (.vcmp c) s (fun t => t = (s.enter c w i).vecEffect c o w i)) ∧
    (o = .vsel → Completes (.vsel c) s (fun t => t = (s.enter c w i).vecEffect c o w i)) ∧
    (o = .vmin → Completes (.vmin c) s (fun t => t = (s.enter c w i).vecEffect c o w i)) ∧
    (o = .vmax → Completes (.vmax c) s (fun t => t = (s.enter c w i).vecEffect c o w i)) ∧
    (o = .vadd → Completes (.vadd c) s (fun t =>
      t.onlyIn ((s.enter c w i).vecEffect c o w i) [.parts] ∧ (s.masterUpdate c = false → t = (s.enter c w i).vecEffect c o w i)))) ∧
  (∀ (c : Cid) (s : State) (w : Nat),
    (s.atOp c .acc = some w → s.accepts c w (s.issAcc c w) true = true →
      Completes (.acc c) s (fun t => s.cellOnly t c ∧ (t.cell c).flags = (s.cell c).flags ∧ (t.cell c).nextKey = (s.cell c).nextKey + 1)) ∧
    (s.atOp c .accrd = some w → s.accepts c w (s.issAccrd c w) true = true →
      Completes (.accrd c) s (fun t => s.onlyIn t [.cells, .mem] ∧ (t.cell c).nextKey = (s.cell c).nextKey + 1)))

/-- What the vector operations compute at each element position (R189): the sum, the product, and the fused product and sum, each rounded
once; the eight comparisons by the order of the values, where NaN meets only NE and UNORD; a or b by whether c is a zero, a NaN in c
selecting a; and the smaller and the larger, −0 below +0 and a NaN in either giving NaN. -/
def Obligations.VectorLaneResults : Prop :=
  (∀ (s : State) (c w r n : Nat) (o : Op) (i : Iss) (x y z : Fv), r < i.a.outer → (s.rowOf c i.a r)[n]? = some x →
    (s.rowOf c i.b r)[n]? = some y → (s.rowOf c i.c r)[n]? = some z →
    ((s.vecRows c o w i).getD r []).getD n .nan = vecLane o (bits w 15 12) x y z) ∧
  (∀ a b k : Fv,
    vecLane .vadd 0 a b k = (a.add b).r32 ∧ vecLane .vmul 0 a b k = (a.mul b).r32 ∧ vecLane .vfma 0 a b k = (a.fma b k).r32 ∧
    (∀ sub ≤ 7, (a = .nan ∨ b = .nan) → vecLane .vcmp sub a b k = (if sub = 3 ∨ sub = 7 then .num 1 false else .zero)) ∧
    (a ≠ .nan → b ≠ .nan → ∀ sub ≤ 7, vecLane .vcmp sub a b k =
      (if [a.lt b, a.lt b || a.eqv b, a.eqv b, !a.eqv b, b.lt a || a.eqv b, b.lt a, true, false].getD sub false then .num 1 false else .zero)) ∧
    ((∃ z, k = .num 0 z) → vecLane .vsel 0 a b k = b) ∧ ((∀ z, k ≠ .num 0 z) → vecLane .vsel 0 a b k = a) ∧
    ((a = .nan ∨ b = .nan) → vecLane .vmin 0 a b k = .nan ∧ vecLane .vmax 0 a b k = .nan) ∧
    (a ≠ .nan → b ≠ .nan → a.lt b = true → vecLane .vmin 0 a b k = a ∧ vecLane .vmax 0 a b k = b) ∧
    (a ≠ .nan → b ≠ .nan → b.lt a = true → vecLane .vmin 0 a b k = b ∧ vecLane .vmax 0 a b k = a)) ∧
  (∀ (z z' : Bool) (k : Fv), vecLane .vmin 0 (.num 0 z) (.num 0 z') k = .num 0 (z || z') ∧
    vecLane .vmax 0 (.num 0 z) (.num 0 z') k = .num 0 (z && z')) ∧
  (∀ (v v' : Rat) (z z' : Bool), ((Fv.num v z).lt (.num v' z') = true ↔ v < v') ∧ ((Fv.num v z).eqv (.num v' z') = true ↔ v = v') ∧
    (Fv.inf true).lt (.num v z) = true ∧ (Fv.num v z).lt (.inf false) = true ∧ (Fv.inf true).lt (.inf false) = true)

/-- DMM, DCONV, QROT, QNT and DQNT that their unit accepts complete and change only cells, block counts and module memory. -/
def Obligations.MatrixAndQuantiseInstructionsRun : Prop :=
  ∀ (c : Cid) (s : State) (w : Nat),
    (s.atOp c .dmm = some w → s.accepts c w (s.issMat c w false).1 true = true →
      Completes (.dmm c) s (fun t => s.onlyIn t [.cells, .parts, .mem] ∧ (t.cell c).nextKey = (s.cell c).nextKey + 1)) ∧
    (s.atOp c .dconv = some w → s.accepts c w (s.issMat c w true).1 true = true →
      Completes (.dconv c) s (fun t => s.onlyIn t [.cells, .parts, .mem] ∧ (t.cell c).nextKey = (s.cell c).nextKey + 1)) ∧
    (s.atOp c .qrot = some w → s.accepts c w (s.issQrot c w) true = true →
      Completes (.qrot c) s (fun t => s.onlyIn t [.cells, .parts, .mem] ∧ (t.cell c).nextKey = (s.cell c).nextKey + 1)) ∧
    (s.atOp c .qnt = some w → s.accepts c w (s.issQnt c w) true = true →
      Completes (.qnt c) s (fun t => s.onlyIn t [.cells, .parts, .mem] ∧ (t.cell c).nextKey = (s.cell c).nextKey + 1)) ∧
    (s.atOp c .dqnt = some w → (s.issDqnt c w).zero = false → s.accepts c w (s.issDqnt c w) true = true →
      Completes (.dqnt c) s (fun t => t = (s.enter c w (s.issDqnt c w)).wrWide c (s.issDqnt c w).d ((s.enter c w (s.issDqnt c w)).streamOf c (s.issDqnt c w).a)))

/-- The block table of R135, row by row: a block with a non-finite element is written with scale byte 255, its elements 0; a block of zeros,
and a block whose elements all round to zero at SCALE_LO by the draws it would be written with, with scale byte 0, its elements 0; a block
beyond EMAX at SCALE_HI is written at SCALE_HI, and an element beyond EMAX there is written as EMAX with its sign; any other block at the
smallest scale of the window that holds it. -/
def Obligations.QuantiserMarksSpecialBlocks : Prop :=
  ∀ (f lo hi : Nat) (ds : List (Option Nat)) (l : List Fv), f ∈ [1, 2, 3, 4, 5] → lo ≤ hi →
    ((∃ x ∈ l, x.fin = false) → quantBlock f lo hi ds l = (255, l.map (fun _ => 0), 4)) ∧
    ((∀ x ∈ l, x.fin = true) →
      (amaxOf l = 0 → quantBlock f lo hi ds l = (0, l.map (fun _ => 0), 1)) ∧
      (amaxOf l ≠ 0 → (∀ e ∈ quantAt f lo ds l, e = 0) → quantBlock f lo hi ds l = (0, l.map (fun _ => 0), 2)) ∧
      (amaxOf l ≠ 0 → (∃ e ∈ quantAt f lo ds l, e ≠ 0) → fmtEmax f * pow2 ((hi : Int) - 127) < amaxOf l →
        quantBlock f lo hi ds l = (hi, quantAt f hi ds l, 3)) ∧
      (amaxOf l ≠ 0 → (∃ e ∈ quantAt f lo ds l, e ≠ 0) → amaxOf l ≤ fmtEmax f * pow2 ((hi : Int) - 127) →
        ∃ S, lo ≤ S ∧ S ≤ hi ∧ amaxOf l ≤ fmtEmax f * pow2 ((S : Int) - 127) ∧
          (lo < S → fmtEmax f * pow2 ((S : Int) - 128) < amaxOf l) ∧ quantBlock f lo hi ds l = (S, quantAt f S ds l, 0))) ∧
    (∀ (m : Option Nat) (v : Rat), fmtEmax f ≤ v → quantElem f m v = quantElem f none (fmtEmax f)) ∧
    (∀ (m : Option Nat) (v : Rat), v ≤ -fmtEmax f → quantElem f m v = quantElem f none (-fmtEmax f))

/-- AMV and AMVT that the array unit accepts enter its queue with the drive width resolved, an ASWAP with its crossbar and its exchange still
to come; the reading itself is left to the unit's start of the product. -/
def Obligations.ArrayInstructionsEnter : Prop :=
  ∀ (c : Cid) (s : State) (w : Nat),
    (s.atOp c .amv = some w → s.accepts c w (s.issAmv c w).1 true = true →
      Completes (.amv c) s (fun t => s.cellOnly t c ∧ (t.cell c).flight.length = (s.cell c).flight.length + 1 ∧
        ((s.issAmv c w).1.zero = false → ((t.cell c).flight.getLast?.map (fun f => f.dw8)) = some (s.issAmv c w).2))) ∧
    (s.atOp c .amvt = some w → s.accepts c w (s.issAmv c w).1 true = true →
      Completes (.amvt c) s (fun t => s.cellOnly t c ∧ (t.cell c).flight.length = (s.cell c).flight.length + 1 ∧
        ((s.issAmv c w).1.zero = false → ((t.cell c).flight.getLast?.map (fun f => f.dw8)) = some (s.issAmv c w).2))) ∧
    (s.atOp c .aswap = some w → rsvIll w [(95, 92)] = [] → bits w 95 92 < 8 → commonIll w = [] → (s.cell c).queued 1 < 8 → wordUnit w = 1 →
      Completes (.aswap c) s (fun t => s.cellOnly t c ∧
        ((t.cell c).flight.getLast?.map (fun f => (f.left, f.lx))) = some (1, bits w 95 92)))

/-- An APROG that the write engine accepts joins the engine's queue behind the writes accepted before it, with its crossbar, form,
destination and done flag; a LOAD header with non-finite scales, and an UPDATE of a STALE crossbar, fault instead. -/
def Obligations.AprogJoinsTheWriteQueue : Prop :=
  ∀ (c : Cid) (s : State) (w : Nat), (s.issAprog c w).zero = false → (s.cell c).queued 1 = 0 → (s.cell c).wq.length < 5 →
    s.accepts c w (s.issAprog c w) true = true → (s.cell c).st = 2 →
    (s.atOp c .aprog = some w → bits w 91 90 = 0 → (s.xbar (s.reg c) ((s.cell c).phys (bits w 95 92))).st ≠ 4 →
      (s.cell c).holdsImage (bits w 95 92) = false →
      Completes (.aprogUpdate c) s (fun t => s.onlyIn t [.cells, .parts] ∧ (t.part (s.owner c)).applied = true ∧
        ∃ j : WriteJob, (t.cell c).wq = (s.cell c).wq ++ [j] ∧ j.lx = bits w 95 92 ∧ j.load = false ∧
          j.relay = !bit (wordMod w) 0 ∧ j.wdone = bits w 38 35 ∧ j.first = bits w 89 81 ∧ j.rowsArg = bits w 80 71)) ∧
    (s.atOp c .aprog = some w → bits w 91 90 = 1 → (bit (wordMod w) 0 = true → (s.cell c).holdsImage (bits w 95 92) = false) →
      (∀ g < 16, (decElem fBF16 (leNat (((s.rdLoc c (bits w 54 39 * 32) 64).drop (2 * g)).take 2))).fin = true) →
      Completes (.aprogLoad c) s (fun t => s.onlyIn t [.cells] ∧
        ∃ j : WriteJob, (t.cell c).wq = (s.cell c).wq ++ [j] ∧ j.lx = bits w 95 92 ∧ j.load = true ∧ j.relay = (!bit (wordMod w) 0) ∧
          j.hdr = s.rdLoc c (bits w 54 39 * 32) 64)) ∧
    (s.atOp c .aprog = some w → bits w 91 90 = 0 → (s.xbar (s.reg c) ((s.cell c).phys (bits w 95 92))).st = 4 →
      Completes (.aprogUpdate c) s (fun t => (t.cell c).st = 4 ∧ (t.cell c).fault.code = Fc.analogue ∧ (t.cell c).fault.cause = 0))

/-- A group with more than 1 in 1,000 of its conversions saturated over 65,536 products moves to the next wider converter range, and no
other group does.  A LIVE crossbar with more than 16 digital redos in its window becomes SUSPECT and asks for recalibration.  Neither moves
a conductance. -/
def Obligations.CrossbarsWidenAndTurnSuspect : Prop :=
  ∀ (r : Rid) (x : Xb) (s : State),
    (∀ g : Fin 16, 65536 ≤ (s.xbar r x).prods → tget (s.xbar r x).conv g 0 < 1000 * tget (s.xbar r x).sat g 0 → 0 < tget (s.xbar r x).rng g 2 →
      Completes (.convRangeWiden r x g) s (fun t => s.onlyIn t [.phys] ∧
        tget (t.xbar r x).rng g 2 = tget (s.xbar r x).rng g 2 - 1 ∧ (t.xbar r x).cond = (s.xbar r x).cond ∧
        ∀ h : Nat, h ≠ g → tget (t.xbar r x).rng h 2 = tget (s.xbar r x).rng h 2)) ∧
    (16 < (s.xbar r x).redos → (s.xbar r x).st = 0 →
      Completes (.crossbarSuspect r x) s (fun t => s.onlyIn t [.phys, .dies] ∧ (t.xbar r x).st = 2 ∧ (t.xbar r x).cond = (s.xbar r x).cond ∧
        ((t.die (r / 272)).calQ.any (fun q => q.2.1 == r.val && q.2.2.1 == x.val) = true ∨
          (t.die (r / 272)).calRun.contains (r.val, x.val) = true)))

/-- After 65,536 products NOISE_SIGMA is brought up to date and stays between half and twice its calibrated value, and a window begins; after
65,536 outputs a crossbar without a baseline takes one for each of its 16 groups; and a reference read sets K within 0.90 to 1.10. -/
def Obligations.CrossbarStatisticsStayInBounds : Prop :=
  ∀ (r : Rid) (x : Xb) (s : State),
    (65536 ≤ (s.xbar r x).prods → Completes (.noiseSigmaUpdate r x) s (fun t => s.onlyIn t [.phys, .dies, .day, .daySeq] ∧
        (0 < (s.xbar r x).sigmaCal → ((s.xbar r x).sigmaCal + 1) / 2 ≤ (t.xbar r x).sigma) ∧
        (t.xbar r x).sigma ≤ 2 * (s.xbar r x).sigmaCal ∧ (t.xbar r x).prods = 0 ∧ (t.xbar r x).redos = 0)) ∧
    ((s.xbar r x).base = [] → 65536 ≤ (s.xbar r x).outN → Completes (.outputBaseline r x) s (fun t => s.onlyIn t [.phys] ∧
        (t.xbar r x).base.length = 16 ∧ (t.xbar r x).outN = 0)) ∧
    (∀ (codes : List Int) (c : Nat), s.cellOf r = some c → s.fld (s.owner c) Ty.arrayRead (s.owner c) 5 1 ≠ 0 → s.regionOn c = true →
      (s.cell c).logical x ≠ 8 → (s.xbar r x).st ≤ 2 →
      s.passed (s.xbar r x).refAt (s.fld (s.owner c) Ty.arrayRead (s.owner c) 12 4 * 1000000) = true →
      Completes (.driftRefRead r x codes) s (fun t => s.onlyIn t [.cells, .phys, .dies, .day, .daySeq] ∧
        (t.xbar r x).refAt = s.time ∧ 29491 ≤ (t.xbar r x).k ∧ (t.xbar r x).k ≤ 36045))

/-- An AREAD of a crossbar that is neither STALE nor FAILED completes and changes only cells and module memory; of a STALE one it faults. -/
def Obligations.AreadReadsOrFaults : Prop :=
  ∀ (c : Cid) (levels : List Int) (s : State) (w : Nat), s.atOp c .aread = some w → (s.cell c).queued 1 = 0 →
    (s.cell c).wq.all (fun j => !j.running) = true → (s.die (dieOf c)).slots < 256 → s.accepts c w (s.issAread c w) true = true →
    ((s.xbar (s.reg c) (if bit (wordMod w) 0 then (s.cell c).phys 8 else (s.cell c).phys (bits w 79 76))).st ≤ 2 →
      Completes (.aread c levels) s (fun t => s.onlyIn t [.cells, .mem] ∧ (t.cell c).nextKey = (s.cell c).nextKey + 1)) ∧
    ((s.issAread c w).zero = false → (s.xbar (s.reg c) (if bit (wordMod w) 0 then (s.cell c).phys 8 else (s.cell c).phys (bits w 79 76))).st = 4 →
      Completes (.aread c levels) s (fun t => (t.cell c).st = 4 ∧ (t.cell c).fault.code = Fc.analogue))

/-- The write at the head of the engine's queue starts where a slot is free: the die's slots in use rise by one.  A row that has been
programmed and verified leaves the rows to program and its achieved values enter the crossbar.  A write whose rows are all programmed ends,
counts its WDONE and gives its slot back. -/
def Obligations.WritesTakeAndGiveSlots : Prop :=
  ∀ (c : Cid) (s : State) (j : WriteJob) (rest : List WriteJob), (s.cell c).wq = j :: rest →
    (j.running = false → s.pow.hold = false → s.regionOn c = true → s.slotFor (dieOf c) j = true → j.spare = false → j.relay = false →
      (s.xbar (s.reg c) ((s.cell c).phys j.lx)).st = 3 →
      Completes (.writeStart c) s (fun t => (t.die (dieOf c)).slots = (s.die (dieOf c)).slots ∧ (t.cell c).wq.length = rest.length)) ∧
    (j.running = false → s.pow.hold = false → s.regionOn c = true → s.slotFor (dieOf c) j = true → j.spare = false → j.repair = false →
      j.relay = false → j.load = true → j.zeroCarry = true → (s.xbar (s.reg c) ((s.cell c).phys j.lx)).st ≠ 3 →
      (s.loadCodes c j).all (fun k => decide (k.natAbs ≤ 15)) = true →
      Completes (.writeStart c) s (fun t => s.onlyIn t [.cells, .phys, .parts, .mem, .dies] ∧
        (t.die (dieOf c)).slots = (s.die (dieOf c)).slots + 1 ∧
        ((t.cell c).wq.head?.map (fun k => (k.running, k.phys, k.rows))) = some (true, (s.cell c).phys j.lx, List.range 512))) ∧
    (∀ (i n : Nat) (rows : List Nat) (levels : List Int), j.running = true → j.rows = i :: rows → j.retried = false →
      (s.pow.hold = false ∨ j.paused = false) → n ≤ 80 →
      (n = 0 ∨ tget (s.xbar (s.jobRegion c j) j.phys).wear i 0 < 1000000) →
      Completes (.rowWriteDone c false n levels) s (fun t => s.cellOnly t c ∧ (t.cell c).wq = { j with retried := true } :: rest) ∧
      (verified (s.fld (s.owner c) Ty.arrayWrite (s.owner c) 0 1) (s.codeRow (s.planeBase c ((s.cell c).jobSet j) 0) i ++
          (List.range 4).map (fun k => tget (s.xbar (s.jobRegion c j) j.phys).qc (i * 4 + k) 0)) levels = true →
        Completes (.rowWriteDone c true n levels) s (fun t => s.onlyIn t [.cells, .phys, .mem, .day, .daySeq] ∧
          ((t.cell c).wq.head?.map (fun k => k.rows)) = some rows ∧
          (t.xbar (s.jobRegion c j) j.phys).cond = tputs (s.xbar (s.jobRegion c j) j.phys).cond (i * 516) levels 0))) ∧
    (j.running = true → j.rows = [] → j.cut = false → j.load = false → j.relay = false → j.repair = false → j.spare = false →
      j.restore = false → j.wdone ≠ 0 → tget (s.cell c).flags j.wdone 0 + 1 < 2 ^ 32 →
      Completes (.writeComplete c) s (fun t => s.onlyIn t [.cells, .phys, .dies] ∧ (t.cell c).wq.length = rest.length ∧
        (t.die (dieOf c)).slots = (s.die (dieOf c)).slots - 1 ∧
        tget (t.cell c).flags j.wdone 0 = tget (s.cell c).flags j.wdone 0 + 1))

/-- An ASWAP whose crossbar has a completed image in the relay exchanges the two: binding and plane sets change places, the crossbar that was
the relay is LIVE, the old one is the relay, and no conductance moves. -/
def Obligations.AswapExchangesBindings : Prop :=
  ∀ (c : Cid) (s : State) (f : Flight), (s.cell c).head 1 = some f → wordOp f.word.toNat = some .aswap → f.left = 1 → f.lx < 8 →
    s.regionOn c = true → (s.cell c).halt = false → s.pow.overcur = false → s.pow.hold = false → (s.cell c).relayRepair = false →
    (s.xbar (s.reg c) ((s.cell c).phys 8)).st ≠ 3 → (s.cell c).wq = [] → (s.cell c).relayImg = 1 + f.lx →
    (s.cell c).phys f.lx ≠ (s.cell c).phys 8 →
    Completes (.aswapExchange c) s (fun t => s.onlyIn t [.cells, .phys, .parts] ∧ (t.cell c).phys f.lx = (s.cell c).phys 8 ∧
      (t.cell c).phys 8 = (s.cell c).phys f.lx ∧ (t.cell c).set f.lx = (s.cell c).set 8 ∧ (t.cell c).set 8 = (s.cell c).set f.lx ∧
      (t.cell c).relayImg = 0 ∧ (t.xbar (s.reg c) ((s.cell c).phys 8)).st = 0 ∧
      ∀ x, (t.xbar (s.reg c) x).cond = (s.xbar (s.reg c) x).cond)

/-- A member's BARRIER holds its sequencer, and arrives once the fence it implies is satisfied; where the group's rank 0 is on another
module the arrival is sent there.  A BARRIER of a cell that is no member is a precise fault.  The last arrival at a local barrier releases
every member, and a release from the fabric frees every member that has arrived. -/
def Obligations.BarriersHoldAndRelease : Prop :=
  ∀ (s : State),
    (∀ (c : Cid) (w : Nat), s.atControl c .barrier = some w → bit (wordMod w) 0 = false →
      (s.localGroup (s.owner c) (barrierGroup w)).contains c.val = true →
      Completes (.barrier c) s (fun t => s.cellOnly t c ∧ (t.cell c).pc = (s.cell c).pc ∧ (t.cell c).wait.kind = 2 ∧
        (t.cell c).wait.group = barrierGroup w ∧ (t.cell c).wait.arrived = (s.cell c).idle 255)) ∧
    (∀ (c : Cid) (w r : Nat) (m : Nat × Nat), s.atControl c .barrier = some w → bit (wordMod w) 0 = true →
      s.rankOf (s.owner c) (barrierGroup w) c = some r → (s.grp (barrierGroup w)).st ≠ 2 → (s.cell c).idle 255 = true →
      (s.cell c).acked = true → (s.members (s.owner c) (barrierGroup w))[0]? = some m → m.1 ≠ s.fab.nodeId →
      Completes (.barrier c) s (fun t => s.onlyIn t [.cells, .fab] ∧ (t.cell c).wait.kind = 3 ∧ (t.cell c).wait.arrived = true ∧
        s.sent t [[0x40, m.1, s.fab.epoch, barrierGroup w, r]])) ∧
    (∀ (c : Cid) (w : Nat), s.atControl c .barrier = some w → bit (wordMod w) 0 = false →
      (s.localGroup (s.owner c) (barrierGroup w)).contains c.val = false →
      Completes (.barrier c) s (fun t => (t.cell c).st = 4 ∧ (t.cell c).fault.code = Fc.barrierMembership)) ∧
    (∀ (p : Pn) (g : Fin 16), s.localGroup p g ≠ [] → (∀ c ∈ s.localGroup p g, (s.cell c).st = 2 ∧ (s.cell c).halt = false ∧
        (s.cell c).draining = 0 ∧ (s.cell c).wait.kind = 2 ∧ (s.cell c).wait.group = g.val ∧ (s.cell c).wait.arrived = true ∧
        (s.cell c).wait.step = false) →
      Completes (.localBarrierComplete p g) s (fun t => ∀ c ∈ s.localGroup p g, (t.cell c).wait = Wait.reset)) ∧
    (∀ (h : Hdr) (g r : Nat), s.forUs h → h.epoch = s.fab.epoch → (s.grp g).st ≠ 1 →
      Completes (.barrierArrive h g r) s (fun t => s.onlyIn t [.fab] ∧ s.sent t [] ∧
        ∃ k ∈ (t.grp g).colls, k.op = 4 ∧ k.parts.any (fun e => e.1 == r) = true)) ∧
    (∀ (h : Hdr) (g : Nat), s.forUs h → h.epoch = s.fab.epoch →
      Completes (.barrierRelease h g) s (fun t => ∀ c, (s.fab.nodeId, c) ∈ s.groupMembers g → (s.cell c).st = 2 → (s.cell c).wait.kind = 3 →
        (s.cell c).wait.group = g → (s.cell c).wait.arrived = true → (t.cell c).wait = Wait.reset))

/-- A message between two cells of one module leaves both lists when it lands, and each end's done flag counts 1; one for another module is
put on the fabric and waits for its acknowledgement, which ends it.  A packet whose turn has not come changes nothing, and a packet taken
before is acknowledged again and discarded.  A packet unacknowledged for 200 µs is sent again.  A SIGNAL message adds its count at its
target. -/
def Obligations.MessagesLandOnce : Prop :=
  ∀ (s : State),
    (∀ (c : Cid) (i j : Nat) (m r : Msg), (s.cell c).sends[i]? = some m → m.node = s.fab.nodeId → m.cell ≠ c →
      findIdx (fun q : Msg => q.node == s.fab.nodeId && q.cell == c.val && q.chan == m.chan && q.mb == m.mb) (s.cell m.cell).recvs = some (j, r) →
      (s.cell c).wait.kind = 0 → (s.cell c).draining = 0 → m.done ≠ 0 → r.done ≠ 0 → tget (s.cell c).flags m.done 0 + 1 < 2 ^ 32 →
      tget (s.cell m.cell).flags r.done 0 + 1 < 2 ^ 32 →
      Completes (.messageLands c i) s (fun t => s.onlyIn t [.cells, .mem, .parts] ∧ (t.cell c).sends = (s.cell c).sends.eraseIdx i ∧
        (t.cell m.cell).recvs = (s.cell m.cell).recvs.eraseIdx j ∧
        tget (t.cell c).flags m.done 0 = tget (s.cell c).flags m.done 0 + 1 ∧
        tget (t.cell m.cell).flags r.done 0 = tget (s.cell m.cell).flags r.done 0 + 1)) ∧
    (∀ (c : Cid) (i : Nat) (m : Msg), (s.cell c).sends[i]? = some m → m.node ≠ s.fab.nodeId → m.sent = false →
      Completes (.messageLands c i) s (fun t => s.onlyIn t [.cells, .fab] ∧ ((t.cell c).sends[i]?).map (fun q => q.sent) = some true ∧
        ∃ fs, s.sent t [0x30 :: m.node :: s.fab.epoch :: fs])) ∧
    (∀ (h : Hdr) (m : DataMsg) (n : Nat), s.forUs h → n = tget s.fab.seqRx (h.src * 2 ^ 24 + (m.srcCell * 16384 + m.dstCell * 16 + m.chan)) 0 →
      (n < m.seq → m.seq < n + 2 ^ 31 → n < 2 ^ 31 → Completes (.data h m) s (fun t => t = s)) ∧
      (m.seq < n → n < m.seq + 2 ^ 31 → n < 2 ^ 32 → Completes (.data h m) s (fun t => s.onlyIn t [.fab] ∧ t.fab.seqRx = s.fab.seqRx ∧
        s.sent t [[0x31, h.src, s.fab.epoch, m.srcCell * 16384 + m.dstCell * 16 + m.chan, m.seq, 0]]))) ∧
    (∀ (h : Hdr) (flow seq i : Nat) (bad : Bool) (m : Msg), s.forUs h →
      findIdx (fun q : Msg => q.sent && q.node == h.src && q.cell == flow / 16 % 1024 && q.chan == flow % 16 && q.seq == seq)
        (s.cell (flow / 16384)).sends = some (i, m) →
      (s.cell (flow / 16384)).wait.kind = 0 → (s.cell (flow / 16384)).draining = 0 → m.done ≠ 0 →
      tget (s.cell (flow / 16384)).flags m.done 0 + 1 < 2 ^ 32 →
      Completes (.e2eAck h flow seq bad) s (fun t => s.onlyIn t [.cells, .parts] ∧
        (t.cell (flow / 16384)).sends = (s.cell (flow / 16384)).sends.eraseIdx i ∧
        tget (t.cell (flow / 16384)).flags m.done 0 = tget (s.cell (flow / 16384)).flags m.done 0 + 1)) ∧
    (∀ (c : Cid) (i : Nat) (m : Msg), (s.cell c).sends[i]? = some m → m.sent = true → s.passed m.sentAt 200000 = true →
      Completes (.e2eResend c i) s (fun t => s.onlyIn t [.cells, .fab, .gctr] ∧ ((t.cell c).sends[i]?).map (fun q => q.sentAt) = some s.time ∧
        ∃ fs, s.sent t [0x30 :: m.node :: s.fab.epoch :: fs])) ∧
    (∀ (h : Hdr) (c : Cid) (k n : Nat), s.forUs h → 1 ≤ k → k ≤ 15 → n < 65536 → tget (s.cell c).flags k 0 + n < 2 ^ 32 →
      Completes (.remoteSignal h c k n) s (fun t => s.cellOnly t c ∧
        ∀ j, tget (t.cell c).flags j 0 = tget (s.cell c).flags j 0 + (if j = k then n else 0)))

/-- CRED, CBCAST, CNORM and CFIN that the collective unit accepts enter its queue and offer their contribution to the group, a zero count
the notice that it takes no part; of a SUSPENDED group they fault.  Contributions and notices that arrive join the group's collectives; a
digest of the group's record joins those compared; a member whose barrier waits longer than the group's timeout faults. -/
def Obligations.CollectivesOfferTheirContribution : Prop :=
  ∀ (s : State),
    (∀ (c : Cid) (w r : Nat) (o : Op) (i : Iss), i = s.issColl c o w → s.atOp c o = some w → s.accepts c w i true = true →
      s.rankOf (s.owner c) (bits w 63 52) c = some r →
      let u := s.enter c w i
      let v := if o = .cfin ∧ s.poolExhausted (s.owner c) = true then u.modPart (u.owner c) (fun q => { q with poolSkip := true }) else u
      let good (t : State) : Prop :=
        (i.zero = false → (s.grp (bits w 63 52)).st ≠ 2 →
          t = (v.modCell c (fun cl => cl.modLast (fun f => { f with left := 1 }))).offer (bits w 63 52) (s.contribution c o w i r)) ∧
        (i.zero = false → (s.grp (bits w 63 52)).st = 2 → (t.cell c).st = 4 ∧ (t.cell c).fault.code = Fc.collective ∧ (t.cell c).fault.cause = 2) ∧
        (i.zero = true →
          t = u.offer (bits w 63 52) { rank := r, op := o.collCode, count := 0, mode := 0, root := 0, data := [] })
      (o = .cred → Completes (.cred c) s good) ∧ (o = .cbcast → Completes (.cbcast c) s good) ∧
        (o = .cnorm → Completes (.cnorm c) s good) ∧ (o = .cfin → Completes (.cfin c) s good)) ∧
    (∀ (h : Hdr) (g : Nat) (m : CollMsg), s.forUs h → m.op ≠ 5 → m.count ≠ 0 →
      (h.epoch = s.fab.epoch → (s.grp g).st ≠ 1 → Completes (.collData h g m) s (fun t => s.onlyIn t [.fab] ∧
        ∃ k ∈ (t.grp g).colls, k.op = m.op ∧ (m.rank, m.data) ∈ k.parts)) ∧
      (h.epoch ≠ s.fab.epoch → h.epoch = (s.fab.epoch + 1) % 2 ^ 32 → Completes (.collData h g m) s (fun t => s.onlyIn t [.fab] ∧
        (t.grp g).colls = (s.grp g).colls ∧ (t.grp g).held.length = (s.grp g).held.length + 1))) ∧
    (∀ (h : Hdr) (g r n : Nat), s.forUs h → h.epoch = s.fab.epoch →
      Completes (.collCtrl h g r n) s (fun t => t = s.tookNoPart g r n ∧ (n ≠ 0 → t = s))) ∧
    (∀ (h : Hdr) (g : Nat) (d : List Byte), s.forUs h →
      Completes (.groupDigest h g d) s (fun t => t = (s.modGrp g (fun gr => { gr with digests := tins gr.digests h.src d })).tryActive g)) ∧
    (∀ (c : Cid), (s.cell c).st = 2 → (s.cell c).wait.kind = 3 → (s.cell c).wait.arrived = true → (s.grp (s.cell c).wait.group).st ≠ 1 →
      s.passed (s.cell c).wait.start (s.fld (s.owner c) Ty.group (s.cell c).wait.group 0 4 * 1000000) = true →
      Completes (.collectiveTimeout c) s (fun t => (t.cell c).st = 4 ∧ (t.cell c).fault.code = Fc.collective ∧ (t.cell c).fault.cause = 1 ∧
        (t.cell c).wait = Wait.reset))

/-- A product whose crossbars neither fault nor wait starts its vectors; a STALE crossbar is an analogue-access fault of the instruction, and
one that must wait leaves everything as it was.  A start changes no record, binding, power or message state.  An
inserted product leaves the engine's queue with its result written; the reference product of an arbitration leaves the list, and where
the two differ beyond the tolerance the cell's region is quarantined. -/
def Obligations.ProductsStartAndReturn : Prop :=
  ∀ (c : Cid) (s : State), s.regionOn c = true →
    (∀ (codes : List Int) (f : Flight), s.pow.overcur = false → (s.cell c).nextProduct = some f →
      (∀ lx ∈ f.xbars, s.pathOf c lx f.isT (bit (wordMod f.word.toNat) 3) ≠ .wait ∧
        ∀ k, s.pathOf c lx f.isT (bit (wordMod f.word.toNat) 3) ≠ .fault k) →
      Completes (.productStart c codes) s (fun t => t = s.startVects f.total c f.key codes ∧
        s.onlyIn t [.cells, .phys, .parts, .mem, .dies, .day, .daySeq])) ∧
    (∀ (codes : List Int) (f : Flight), s.pow.overcur = false → (s.cell c).nextProduct = some f → f.started = false → f.isScan = false →
      (s.xbar (s.reg c) ((s.cell c).phys (bits f.word.toNat 47 44))).st = 4 → (s.cell c).st = 2 →
      Completes (.productStart c codes) s (fun t => (t.cell c).st = 4 ∧ (t.cell c).fault.code = Fc.analogue ∧
        (t.cell c).fault.pc = f.pc ∧ (t.cell c).fault.word = f.word)) ∧
    (∀ (codes : List Int) (f : Flight), s.pow.overcur = false → (s.cell c).nextProduct = some f → f.isScan = false →
      s.pathOf c (bits f.word.toNat 47 44) f.isT (bit (wordMod f.word.toNat) 3) = .wait →
      Completes (.productStart c codes) s (fun t => t = s)) ∧
    (∀ (j : InsJob) (rest : List InsJob) (f : Flight), (s.cell c).ins = j :: rest → (s.cell c).byKey j.key = some f →
      s.badCodes (s.planeBase c ((s.cell c).set j.lx) 0) = false →
      Completes (.insertedProduct c) s (fun t => s.onlyIn t [.cells, .phys, .mem, .day, .daySeq] ∧ (t.cell c).ins = rest)) ∧
    (∀ (j : ArbJob) (rest : List ArbJob) (f : Flight), (s.cell c).arbs = j :: rest → (s.cell c).byKey j.key = some f →
      (s.phy j.ref).rst = 0 → (s.phy j.ref).quar = false → s.badCodes (s.planeBase c ((s.cell c).set j.lx) 0) = false →
      Completes (.referenceProductReturn c) s (fun t => (t.cell c).arbs = rest ∧
        ((∃ i ∈ j.bad, s.arbTol2 c j < (((j.y.map (fun a => a.getD 0)).getD i 0) -
            (s.digitalSums c j.lx false false j.dw8 f.noiseTag j.npos j.x).getD i 0) ^ 2) → (t.phy (s.reg c)).quar = true)))

/-- An ACAL joins the steward's queue; a run that may start takes its crossbar; a slice of a run is taken with the old factors in force;
the converters of a region that calibrated well are in service again; a region's factors that have changed are stored at most once a
CAL_STORE_PERIOD. -/
def Obligations.CalibrationRuns : Prop :=
  ∀ (s : State),
    (∀ (c : Cid) (w lx : Nat), s.atOp c .acal = some w → commonIll w = [] → wordUnit w = 1 → (s.cell c).queued 1 = 0 → bits w 91 88 ≠ 0 →
      rsvIll w ((91, 88) :: if bit (wordMod w) 0 then [] else [(95, 92)]) = [] → (bit (wordMod w) 0 = false → bits w 95 92 < 8) →
      lx = (if bit (wordMod w) 0 then 8 else bits w 95 92) →
      Completes (.acal c) s (fun t => s.onlyIn t [.cells, .dies] ∧
        (t.cell c).calDone = (s.cell c).calDone ++ [((s.cell c).phys lx, bits w 91 88)] ∧
        ((t.die (s.reg c / 272)).calQ.any (fun q => q.2.1 == s.reg c && q.2.2.1 == (s.cell c).phys lx) = true ∨
          (t.die (s.reg c / 272)).calRun.contains (s.reg c, (s.cell c).phys lx) = true))) ∧
    (∀ (d : DieN) (q : CalReq), s.boot.refin = false → (s.die d).calRun.length < 64 →
      firstCal ((s.die d).calQ.filter (fun q => (s.die d).calRun.all (fun e => e.1 != q.2.1) && (s.phy q.2.1).rst == 0)) = some q →
      Completes (.calibrationStart d) s (fun t => s.onlyIn t [.phys, .dies] ∧ (t.die d).calRun = (s.die d).calRun ++ [(q.2.1, q.2.2.1)] ∧
        (t.xbar q.2.1 q.2.2.1).slice = 1 ∧ (t.xbar q.2.1 q.2.2.1).gain = (s.xbar q.2.1 q.2.2.1).gain)) ∧
    (∀ (r : Rid) (x : Xb) (z m : List Rat) (rows : List Nat) (sg sgT c : Nat), s.cellOf r = some c → 1 ≤ (s.xbar r x).slice →
      (s.xbar r x).slice < 8 → (s.phy r).rst = 0 → s.boot.refin = false →
      (s.cell c).wq.any (fun j => j.running && !j.spare && j.phys == x) = false →
      Completes (.recalSlice r x z m rows sg sgT) s (fun t => s.onlyIn t [.phys] ∧ (t.xbar r x).slice = (s.xbar r x).slice + 1 ∧
        (t.xbar r x).gain = (s.xbar r x).gain ∧ (t.xbar r x).off = (s.xbar r x).off ∧ (t.xbar r x).cond = (s.xbar r x).cond)) ∧
    (∀ (r : Rid), (s.phy r).rst = 0 → s.boot.refin = false → s.cells.all (fun e => e.2.subst != r.val + 1 || e.2.substStage != 2) = true →
      Completes (.columnSelfCal r []) s (fun t => s.onlyIn t [.phys] ∧ ∀ x : Xb, (t.xbar r x).selfCal = false ∧
        (t.xbar r x).st = (s.xbar r x).st)) ∧
    (∀ (r : Rid), (s.phy r).calDirty = true →
      ((s.phy r).calEver = false ∨ s.passed (s.phy r).calStored (s.fld 0 Ty.calibrationPolicy 0 4 4 * 1000000000) = true) →
      Completes (.calRecordStore r) s (fun t => s.onlyIn t [.recs, .phys, .groom] ∧ (t.phy r).calDirty = false ∧ (t.phy r).calStored = s.time ∧
        t.groom.writeQ = s.groom.writeQ ++ [(Ty.calibration, r.val, s.calImage r)]))

/-- TOPK SCAN, TOPK MERGE and DIGEST that their unit accepts enter its queue; a SCAN's lists start as fillers, a MERGE writes the best
entries of its lists, and a DIGEST takes its bytes into the context and under FINAL writes the digest. -/
def Obligations.RetrievalAndDigestRun : Prop :=
  ∀ (c : Cid) (s : State) (w : Nat),
    (s.atOp c .topk = some w → bits w 30 29 = 0 → (s.issScan c w).zero = false → s.accepts c w (s.issScan c w) true = true →
      Completes (.topkScan c) s (fun t => s.onlyIn t [.cells] ∧ t = (s.enter c w (s.issScan c w)).wrEntries c (bits w 79 64 * 32)
        (List.replicate ((s.issScan c w).a.outer * bits w 39 31) fillEntry))) ∧
    (s.atOp c .topk = some w → bits w 30 29 = 1 → (issMerge w).zero = false → (s.cell c).queued 1 = 0 → s.accepts c w (issMerge w) true = true →
      Completes (.topkMerge c) s (fun t => s.cellOnly t c ∧ t = (s.enter c w (issMerge w)).wrEntries c (bits w 79 64 * 32)
        (bestOf (bits w 39 31) (List.replicate (bits w 39 31) fillEntry)
          ((s.enter c w (issMerge w)).rdEntries c (bits w 95 80 * 32) (bits w 63 48 * bits w 28 20))))) ∧
    (s.atOp c .digest = some w → (s.issDigest c w).zero = false → s.accepts c w (s.issDigest c w) true = true →
      bit (wordMod w) 0 = true → bit (wordMod w) 1 = true → bits w 79 64 * 32 + 256 ≤ 0x200000 →
      Completes (.digest c) s (fun t => s.cellOnly t c ∧ t.rdLoc c (bits w 79 64 * 32) 32 =
        (((List.range (s.issDigest c w).a.outer).flatMap (fun r => s.rawRow c (s.issDigest c w).a r)).foldl Ctx.absorb Ctx.fresh).final))

/-- A DRILL is accepted while none is in progress; its rounds count, a pass leaves no other cell changed; without a reference for 10 ms it
ends unrun, counting IDONE.  The steward visits the first cell that has priority. -/
def Obligations.DrillsRun : Prop :=
  ∀ (c : Cid) (s : State),
    (∀ (w : Nat), s.atOp c .drill = some w → (s.issDrill w).zero = false → (s.cell c).drillDone = 0 → s.accepts c w (s.issDrill w) true = true →
      drillEngine w ≠ 0 →
      Completes (.drill c) s (fun t => s.cellOnly t c ∧ (t.cell c).drillWord = w ∧ (t.cell c).drillDone = bits w 41 38 ∧
        (t.cell c).drillAsk = s.time ∧ bit (t.cell c).drillStatus 3 = true)) ∧
    ((s.cell c).drillDone ≠ 0 → s.drillCells c = [] → s.passed (s.cell c).drillAsk 10000000 = true →
      tget (s.cell c).flags (s.cell c).drillDone 0 + 1 < 2 ^ 32 →
      Completes (.drillReferenceTimeout c) s (fun t => s.cellOnly t c ∧ (t.cell c).drillDone = 0 ∧ (t.cell c).drillStatus % 8 = 5 ∧
        tget (t.cell c).flags (s.cell c).drillDone 0 = tget (s.cell c).flags (s.cell c).drillDone 0 + 1)) ∧
    (∀ (d : DieN) (k : DrillRun) (rest : List DrillRun), dieOf c = d.val → (s.cell c).drillDone ≠ 0 → (s.phy (s.reg c)).rst = 0 →
      (s.phy (s.reg c)).quar = false → drillEngine (s.cell c).drillWord ≠ 0 → s.drillCells c ≠ [] → k.crcs.getD 0 0 = k.crcs.getD 1 0 →
      bits (s.cell c).drillStatus 35 20 + 1 < bits (s.cell c).drillWord 77 62 →
      Completes (.drillRound d (some c) (k :: rest)) s (fun t => s.cellOnly t c ∧
        bits (t.cell c).drillStatus 35 20 = bits (s.cell c).drillStatus 35 20 + 1 ∧ (t.cell c).drillDone = (s.cell c).drillDone)) ∧
    (∀ (d : DieN) (r : Nat), (s.die d).drillAt = none → s.fld 0 Ty.drill 0 0 2 ≠ 0 →
      (((List.range 272).map (fun i => d.val * 272 + i)).filter s.visitable).find? (fun r => (s.phy r).prio) = some r →
      Completes (.drillVisit d) s (fun t => s.onlyIn t [.cells, .phys, .dies] ∧ (t.die d).drillAt = some r ∧ (t.die d).drillRound = 0))

/-- The oldest instruction of a unit that has done its work completes: it leaves the queue, its status stands and COMP counts 1.  An illegal
word faults before issue with the first cause in the order of R47, and a unit's fault leaves the cell FAULTED with the instruction's word
and place. -/
def Obligations.CompletionAndFaultsOfCells : Prop :=
  ∀ (c : Cid) (s : State),
    (∀ (u : Fin 8) (f : Flight), (s.cell c).head u = some f → f.done = true → s.regionOn c = true → wordOp f.word.toNat ≠ some .cfin →
      (s.cell c).wait.kind = 0 → (s.cell c).draining = 0 → s.compFits c f.word.toNat →
      Completes (.instrComplete c u) s (fun t => s.onlyIn t [.cells, .parts] ∧ (t.cell c).flight = popUnit u (s.cell c).flight ∧
        tget (t.cell c).unitStatus (u + 1) 15 = f.status ∧ (t.cell c).heartbeat = ((s.cell c).heartbeat + 1) % 2 ^ 64 ∧
        ∀ k, tget (t.cell c).flags k 0 = tget (s.cell c).flags k 0 + (if k = wordComp f.word.toNat ∧ k ≠ 0 then 1 else 0))) ∧
    (∀ (k : Nat), s.issuing c = true → (s.illCauses c).min? = some k →
      Completes (.illegalInstruction c) s (fun t => s.onlyIn t [.cells, .funcs, .hostMem, .day, .daySeq] ∧ (t.cell c).st = 4 ∧
        (t.cell c).fault.code = Fc.illegal ∧ (t.cell c).fault.cause = k ∧ (t.cell c).fault.pc = (s.cell c).pc ∧
        (t.cell c).fault.word = (s.cell c).word ∧ (t.cell c).spad = (s.cell c).spad)) ∧
    (∀ (u : Fin 8) (f : Flight) (code cause a : Nat), (s.cell c).head u = some f → (s.cell c).st = 2 → execCode code cause = true →
      code ≠ Fc.memory →
      Completes (.executionFault c u code cause a) s (fun t => s.onlyIn t [.cells, .funcs, .hostMem, .day, .daySeq] ∧ (t.cell c).st = 4 ∧
        (t.cell c).fault.code = code ∧ (t.cell c).fault.cause = cause ∧ (t.cell c).fault.pc = f.pc ∧ (t.cell c).fault.word = f.word ∧
        (t.cell c).fault.daddr = 0))

/-- The governor: samples are summed under the limit in force; a window above the limit lowers the ceiling by one step, or at WALK inserts
stall slots, and one within it ends them and leaves the ceiling. -/
def Obligations.GovernorBoundsPower : Prop :=
  ∀ (s : State),
    (∀ v i : Nat, s.pow.main = true → Completes (.govSample v i) s (fun t => s.onlyIn t [.pow] ∧ t.pow.sum = s.pow.sum + v * i / 10000 ∧
      t.pow.n = s.pow.n + 1 ∧ t.pow.limit = s.govLimit v ∧ t.pow.ceil = s.pow.ceil)) ∧
    (s.pow.n ≠ 0 → s.pow.limit < s.pow.sum / s.pow.n → Completes .govWindow s (fun t => s.onlyIn t [.pow, .cells] ∧ t.pow.n = 0 ∧
      t.pow.power = s.pow.sum / s.pow.n ∧ t.pow.ceil = s.pow.ceil - 1 ∧
      t.pow.stall = (if s.pow.ceil = 0 then min (s.pow.stall + 1) 2 else s.pow.stall))) ∧
    (s.pow.n ≠ 0 → s.pow.sum / s.pow.n ≤ s.pow.limit → Completes .govWindow s (fun t => s.onlyIn t [.pow] ∧ t.pow.n = 0 ∧
      t.pow.power = s.pow.sum / s.pow.n ∧ t.pow.stall = 0 ∧ t.pow.ceil = s.pow.ceil))

/-- Windows below 95 % of GOV_LIMIT are counted, any other window beginning the count anew, and after ten in a row the ceiling rises by one
step, where it is not the highest, and not before (R26).  Above 95 A every sequencer stalls and the daybook logs it, until the current falls below 90 A,
whatever the windows do (R27). -/
def Obligations.GovernorRaisesAndStalls : Prop :=
  ∀ (s : State),
    (s.pow.n ≠ 0 → Completes .govWindow s (fun t => t.pow.power = s.pow.sum / s.pow.n ∧ t.pow.overcur = s.pow.overcur ∧
      (100 * t.pow.power < 95 * s.pow.limit → t.pow.below = min (s.pow.below + 1) 10) ∧
      (95 * s.pow.limit ≤ 100 * t.pow.power → t.pow.below = 0))) ∧
    (10 ≤ s.pow.below → s.pow.ceil < 3 → Completes .govCeilingRaise s (fun t => s.onlyIn t [.pow] ∧ t.pow.ceil = s.pow.ceil + 1 ∧
      t.pow.below = 0)) ∧
    (s.pow.below < 10 → Completes .govCeilingRaise s (fun t => s.onlyIn t [.pow] ∧ t.pow.ceil = s.pow.ceil)) ∧
    (∀ i : Nat, 9500 < i → s.pow.overcur = false → s.pow.main = true → Completes (.overcurrentStall i) s (fun t =>
      s.onlyIn t [.pow, .day, .daySeq] ∧ t.pow.overcur = true ∧ t.day = (s.log 0 Db.overcurrent i).day)) ∧
    (s.pow.overcur = true → ∀ c : Nat, s.issuing c = false) ∧
    (∀ i : Nat, s.pow.overcur = true →
      (i < 9000 → Completes (.overcurrentRelease i) s (fun t => s.onlyIn t [.pow] ∧ t.pow.overcur = false)) ∧
      (9000 ≤ i → Completes (.overcurrentRelease i) s (fun t => s.onlyIn t [.pow] ∧ t.pow.overcur = true)))

/-- Gaits: a target above the present gait raises the rail before the clock switches; the clock switches once the ramp is done; a rail that
droops below 96 % stretches the clock, and after 10 µs lowers the ceiling for 1 ms; islands more than 30 °C apart lower it until they have
been within 25 °C for 10 ms. -/
def Obligations.GaitsFollowTheirInputs : Prop :=
  ∀ (r : Rid) (s : State),
    (∀ g : Fin 4, (s.phy r).rst = 0 → (s.gaitWant r).1 = g.val → (s.phy r).ramp = false → (s.phy r).gait ≠ g.val →
      Completes (.gaitChange r g) s (fun t => s.onlyIn t [.cells, .phys, .day, .daySeq] ∧ (t.phy r).target = g.val ∧ (t.phy r).ramp = true ∧
        (t.phy r).cause = (s.gaitWant r).2 ∧ (t.phy r).gait = (s.phy r).gait ∧
        ((s.phy r).gait < g.val → s.railOf r g ≤ (t.phy r).rail) ∧ (g.val < (s.phy r).gait → (t.phy r).rail = (s.phy r).rail))) ∧
    ((s.phy r).ramp = true → (s.phy r).stretch = false → (s.phy r).rst = 0 → Completes (.gaitClockSwitch r) s (fun t => s.onlyIn t [.phys] ∧
      (t.phy r).gait = (s.phy r).target ∧ (t.phy r).ramp = false ∧ s.railOf r (s.phy r).target ≤ (t.phy r).rail)) ∧
    (∀ mv : Nat, (s.phy r).rst = 0 → (s.phy r).stretch = false → 100 * mv < 96 * (s.phy r).rail →
      Completes (.droopStretch r mv) s (fun t => s.onlyIn t [.cells, .phys] ∧ (t.phy r).stretch = true ∧ (t.phy r).stretchAt = s.time)) ∧
    (∀ mv : Nat, (s.phy r).rst = 0 → (s.phy r).stretch = true → 97 * (s.phy r).rail < 100 * mv →
      Completes (.droopStretch r mv) s (fun t => s.onlyIn t [.phys] ∧ (t.phy r).stretch = false)) ∧
    ((s.phy r).stretch = true → (s.phy r).droopDerate = false → s.passed (s.phy r).stretchAt 10000 = true →
      Completes (.droopDerate r) s (fun t => s.onlyIn t [.cells, .phys] ∧ (t.phy r).droopDerate = true ∧ (t.phy r).droopUntil = s.time + 1000000)) ∧
    ((s.phy r).droopDerate = true → s.passed (s.phy r).droopUntil 0 = true → Completes (.droopDerateEnd r) s (fun t => s.onlyIn t [.phys] ∧
      (t.phy r).droopDerate = false)) ∧
    (∀ (hot cold : Nat) (d : Int), 1920 < d → hot < 2048 → hot % 512 < 272 → (s.phy (hot / 512 * 272 + hot % 512)).tempSplit = false →
      Completes (.tempSplit hot cold d) s (fun t => s.onlyIn t [.cells, .phys, .dies, .day, .daySeq] ∧
        (t.phy (hot / 512 * 272 + hot % 512)).tempSplit = true)) ∧
    (∀ d : Int, (s.phy r).tempSplit = true → d ≤ 1600 → (s.phy r).splitOkAt ≠ 0 → s.passed (s.phy r).splitOkAt 9999999 = true →
      Completes (.tempSplitClear r d) s (fun t => s.onlyIn t [.phys] ∧ (t.phy r).tempSplit = false))

/-- Failures of the power train: a bridge end, a regulator, a sense line and a joint are recorded for good; the second converter of a zone
and a memory converter are module faults of cause POWER; memory on the other stacks keeps every byte. -/
def Obligations.PowerFailuresAreRecorded : Prop :=
  ∀ (d : DieN) (pr : Fin 304) (s : State),
    (∀ e : Fin 2, tget s.fab.bridges (2 * d + e) false = false → Completes (.bridgeFail d e) s (fun t =>
      s.onlyIn t [.fab, .boot, .groom, .day, .daySeq] ∧ tget t.fab.bridges (2 * d + e) false = true)) ∧
    (∀ (b : Bool) (why : Nat), (s.phy (pairKey d pr)).regA = false → (s.phy (pairKey d pr)).regB = false →
      Completes (.regulatorFail d pr b why) s (fun t => s.onlyIn t [.phys, .recs, .groom, .gctr, .day, .daySeq] ∧
        (t.phy (pairKey d pr)).regA = !b ∧ (t.phy (pairKey d pr)).regB = b)) ∧
    (∀ mv : Nat, (mv < 300 ∨ 1000 < mv) → (s.phy (pairKey d pr)).sense = false → Completes (.senseFault d pr mv) s (fun t =>
      s.onlyIn t [.phys, .recs, .groom, .gctr] ∧ (t.phy (pairKey d pr)).sense = true)) ∧
    (∀ (vo vs : Int) (i : Nat), 500 ≤ i → (s.phy (pairKey d pr)).swStage = 0 → (s.phy (pairKey d pr)).ramp = false →
      Completes (.jointSample d pr vo vs i) s (fun t => s.onlyIn t [.phys] ∧
        ((t.phy (pairKey d pr)).jw = 0 ∨ (t.phy (pairKey d pr)).jw = min ((s.phy (pairKey d pr)).jw + 1) 16) ∧
        ((t.phy (pairKey d pr)).jf = 0 ∨ (t.phy (pairKey d pr)).jf = min ((s.phy (pairKey d pr)).jf + 1) 16))) ∧
    (16 ≤ (s.phy (pairKey d pr)).jw → (s.phy (pairKey d pr)).jointDerate = false → pr.val < 272 →
      Completes (.jointFault d pr false) s (fun t => s.onlyIn t [.phys, .recs, .groom, .gctr, .day, .daySeq] ∧
        (t.phy (pairKey d pr)).jointDerate = true ∧ (t.phy (pairKey d pr)).jw = 0)) ∧
    (∀ (z : Fin 4) (a : Nat),
      (tget (s.die d).vcFail z 0 = 0 → Completes (.vcFail d z a) s (fun t => s.onlyIn t [.dies, .groom, .gctr, .day, .daySeq] ∧
        tget (t.die d).vcFail z 0 = 1)) ∧
      (tget (s.die d).vcFail z 0 = 1 → Completes (.vcFail d z a) s (fun t => tget (t.die d).vcFail z 0 = 2 ∧ t.boot.modFault = true ∧
        t.boot.faultCause = 1))) ∧
    (∀ k : Fin 16, s.pow.memFail.contains k.val = false → Completes (.memoryConverterFail k) s (fun t => t.pow.memFail.contains k.val = true ∧
      t.boot.modFault = true ∧ t.boot.faultCause = 1 ∧
      ∀ a : Nat, (a / 2 ^ 39 * 8 + a / 4096 % 8) / 2 ≠ k.val → t.rd8 a = s.rd8 a)) ∧
    (∀ k : Fin 2, bit s.pow.auxFail k = false → Completes (.auxConverterFail k) s (fun t => s.onlyIn t [.pow, .day, .daySeq] ∧
      t.pow.auxFail = s.pow.auxFail + 2 ^ k.val ∧ t.pow.aux = s.pow.aux))

/-- Regions: an OFF region asked for starts its switch-on where nothing near it holds it back, goes on by a stage at a time while the
segment's voltage allows, and is ON after the last; one that misses its first stage is held OFF; one asked to RETAIN leaves ON once its cell
does not run, and keeps the cell's memories. -/
def Obligations.RegionsSwitch : Prop :=
  ∀ (r : Rid) (s : State),
    (∀ neigh zone : Nat, (s.phy r).want = 0 → (s.phy r).rst = 2 → (s.phy r).swStage = 0 → (s.phy r).regA = false → s.pow.main = true →
      s.pow.hold = false → (∀ k : Nat, (s.phy k).swStage = 0) → neigh < s.fld 0 Ty.power 0 2 1 * 250 →
      10 * zone < 9 * 60 * (3 - tget (s.die (r / 272)).vcFail (zoneOf r) 0) →
      Completes (.regionSwitchOn r neigh zone) s (fun t => s.onlyIn t [.phys, .gctr] ∧ (t.phy r).swStage = 2 ∧ (t.phy r).rst = 2 ∧
        (t.phy r).swAt = s.time)) ∧
    (∀ seg : Nat, 2 ≤ (s.phy r).swStage → (s.phy r).swStage < 6 → 15600 ≤ seg → s.pow.hold = false →
      Completes (.switchOnStage r seg) s (fun t => s.onlyIn t [.dies, .phys] ∧ (t.phy r).swStage = (s.phy r).swStage + 1 ∧
        (t.phy r).rst = (s.phy r).rst)) ∧
    (∀ seg : Nat, (s.phy r).swStage = 6 → s.cells.all (fun e => e.2.subst != r.val + 1) = true →
      Completes (.switchOnStage r seg) s (fun t => s.onlyIn t [.phys] ∧ (t.phy r).rst = 0 ∧ (t.phy r).swStage = 0)) ∧
    ((s.phy r).swStage = 2 → s.passed (s.phy r).swAt (if (s.phy r).stretched then 200000 else 50000) = true → s.cellOf r = none →
      s.cells.all (fun e => e.2.subst != r.val + 1) = true →
      Completes (.switchOnFault r) s (fun t => s.onlyIn t [.phys, .day, .daySeq] ∧ (t.phy r).rst = 2 ∧ (t.phy r).want = 3 ∧
        (t.phy r).swStage = 0)) ∧
    (∀ c : Nat, (s.phy r).want = 1 → (s.phy r).rst = 0 → (s.phy r).ramp = false → s.cellOf r = some c → (s.cell c).st ≠ 2 → (s.cell c).wq = [] →
      (s.die (r / 272)).calRun.all (fun e => e.1 != r.val) = true →
      Completes (.regionLeaveOn r) s (fun t => s.onlyIn t [.cells, .phys] ∧ (t.phy r).rst = 1 ∧ (t.cell c).relayImg = 0 ∧
        (t.cell c).spad = (s.cell c).spad ∧ (t.cell c).tally = (s.cell c).tally ∧ (t.cell c).flags = (s.cell c).flags))

/-- Input limits: above 50 V the converters stop until a power cycle, and above 60 V nothing is defined; between 48 and 50 V and between 36
and 40 V the host is warned; below 36 V every sequencer stalls until the input is above 38 V again; below 33 V the converters stop, and below
30 V the auxiliary rail.  Conductances outlast each of them. -/
def Obligations.InputLimitsStopThePower : Prop :=
  ∀ (v : Nat) (s : State),
    (5000 < v → v ≤ 6000 → s.pow.aux = true → s.pow.latchedOff = false → Completes (.inputOvervoltage v) s (fun t => t.pow.main = false ∧
      t.pow.latchedOff = true ∧ t.mem = [] ∧ s.onlyIn t [.cells, .parts, .mem, .badMem, .gctr, .fab, .phys, .dies, .pow, .rack, .boot, .groom, .day, .daySeq] ∧
      ∀ (r : Rid) (x : Xb), (t.xbar r x).cond = (s.xbar r x).cond)) ∧
    (6000 < v → exec (.inputOvervoltage v) s = .fault .stressBeyondLimit) ∧
    (4800 < v → v ≤ 5000 → s.pow.ovWarn = false → s.pow.main = true → Completes (.inputOvWarn v) s (fun t =>
      s.onlyIn t [.pow, .day, .daySeq, .gctr] ∧ t.pow.ovWarn = true ∧ t.pow.main = true)) ∧
    (3600 ≤ v → v < 4000 → s.pow.main = true → Completes (.inputUndervoltage v) s (fun t => s.onlyIn t [.pow, .day, .daySeq, .gctr] ∧
      t.pow.limit = s.govLimit v ∧ t.pow.uvWarn = true)) ∧
    (v < 3600 → s.pow.hold = false → s.pow.main = true → Completes (.powerFailHold v) s (fun t => s.onlyIn t [.pow] ∧ t.pow.hold = true ∧
      t.pow.holdAt = s.time ∧ ∀ c : Nat, t.issuing c = false)) ∧
    (3800 < v → s.pow.hold = true → s.time ≤ s.pow.holdAt + 30000000 → Completes (.powerFailRelease v) s (fun t => s.onlyIn t [.pow, .cells] ∧
      t.pow.hold = false)) ∧
    (v < 3300 → s.pow.aux = true → s.pow.main = true → Completes (.inputCollapse v) s (fun t => t.pow.main = false ∧ t.pow.aux = true ∧
      t.mem = [] ∧ s.same t .day ∧ s.same t .store ∧ ∀ (r : Rid) (x : Xb), (t.xbar r x).cond = (s.xbar r x).cond)) ∧
    (s.pow.aux = true → Completes .auxiliaryRailLoss s (fun t => t.pow.aux = false ∧ t.pow.main = false ∧ t.day = [] ∧ s.same t .store ∧
      s.same t .hostMem ∧ ∀ (r : Rid) (x : Xb), (t.xbar r x).cond = (s.xbar r x).cond))

/-- Sensing: a conversion that may be made enters the result queue and the table of latest values; a burst starts unless the last still
runs; an urgent request is taken up or dropped; REFIN off for 16 sweeps stops calibration, and right for 16 lets it go on; a sensor or a
converter that fails is retired; two readings above 105 °C stop the converters; the policy engine moves only confidence modes, within their
bounds, and gaits. -/
def Obligations.SensingIsWatched : Prop :=
  ∀ (d : DieN) (s : State),
    (∀ (ch : Fin 512) (q : Fin 3) (raw : BitVec 12) (src : Fin 4), s.pow.main = true → (s.die d).selfCal.contains ((s.die d).conv ch) = true →
      s.srcFits d ch src = true → (q.val = 0 ∨ isPair ch = true ∨ (q.val = 1 ∧ 64 ≤ ch.val ∧ ch.val < 200)) →
      Completes (.monConversion d ch q raw src) s (fun t =>
        s.onlyIn t [.dies, .phys, .gctr] ∧ (t.die d).wr = ((s.die d).wr + 1) % 2 ^ 32 ∧ (t.die d).baseTime = s.time ∧
        tget (t.die d).latest (ch * 4 + q) 0 =
          monEntry src ch q ((s.die d).conv ch) ((s.die d).value ch raw.toNat).2 ((s.die d).value ch raw.toNat).1 s.time)) ∧
    (∀ p : Pn, s.multi = true → s.pow.main = true →
      (tget (s.die d).burst p 0 = 0 → Completes (.monBurstTrigger p d) s (fun t => s.onlyIn t [.dies] ∧ tget (t.die d).burst p 0 =
        (((List.range 16).filter (fun k => !(s.chansOf d k (some p.val)).isEmpty)).map (fun k => 2 ^ k)).sum)) ∧
      (tget (s.die d).burst p 0 ≠ 0 → Completes (.monBurstTrigger p d) s (fun t => s.onlyIn t [.gctr]))) ∧
    (∀ ch : Fin 512, (tget (s.die d).running ((s.die d).conv ch) 0) % 1024 ≠ ch.val + 1 → tget (s.die d).running ((s.die d).conv ch) 0 < 1024 →
      tget (s.die d).urgent ((s.die d).conv ch) 0 = 0 → Completes (.monUrgent d ch) s (fun t => s.onlyIn t [.boot, .dies] ∧ t.boot.urgRes = 1 ∧
        tget (t.die d).urgent ((s.die d).conv ch) 0 = ch.val + 1)) ∧
    (16 ≤ (s.die d).refBad → (s.die d).refFault = false → s.dies.all (fun e => e.2.calRun.isEmpty) = true →
      Completes (.refinFault d) s (fun t => s.onlyIn t [.dies, .boot, .day, .daySeq, .gctr] ∧ (t.die d).refFault = true ∧ t.boot.refin = true)) ∧
    (16 ≤ (s.die d).refGood → (s.die d).refFault = true → Completes (.refinFaultClear d) s (fun t => s.onlyIn t [.dies, .boot, .day, .daySeq] ∧
      (t.die d).refFault = false)) ∧
    (∀ n : Fin 64, 16 ≤ tget (s.die d).sensBad n 0 → (s.die d).sensFail.contains n.val = false → Completes (.sensorFail d n) s (fun t =>
      s.onlyIn t [.dies, .phys, .recs, .groom, .gctr, .day, .daySeq] ∧ (t.die d).sensFail.contains n.val = true)) ∧
    (∀ k : Fin 16, s.pow.main = true → (s.die d).retired.contains k.val = false →
      Completes (.monitorSelfCal d k true) s (fun t => s.onlyIn t [.dies] ∧ (t.die d).selfCal.contains k.val = true) ∧
      Completes (.monitorSelfCal d k false) s (fun t => (t.die d).retired.contains k.val = true ∧ (t.die d).selfCal.contains k.val = false)) ∧
    (∀ n : Fin 64, 2 ≤ tget (s.die d).tripRun n 0 → (s.die d).sensFail.contains n.val = false → s.groom.trip = false →
      Completes (.thermalTrip d n) s (fun t => t.groom.trip = true ∧ t.pow.main = false ∧ t.pow.latchedOff = true ∧
        ∀ (r : Rid) (x : Xb), (t.xbar r x).cond = (s.xbar r x).cond)) ∧
    (∀ (conf : List (Nat × Nat × Nat)) (gaits : List (Nat × Nat)), Completes (.policyEngineWindow conf gaits) s (fun t => s.onlyIn t [.phys] ∧
      ∀ (r : Rid) (x : Xb), (t.xbar r x).cond = (s.xbar r x).cond ∧ (t.xbar r x).st = (s.xbar r x).st)) ∧
    (∀ (r : Rid) (x : Xb) (m p : Nat), s.regionPart r = some p → s.fld p Ty.arrayRead p 1 1 ≤ m → m ≤ s.fld p Ty.arrayRead p 2 1 →
      Completes (.policyEngineWindow [(r, x, m)] []) s (fun t => (t.xbar r x).conf = m))

/-- A port goes from DOWN over training and HELLO to UP, each end acknowledging; it is REFUSED where no version is shared, stays in HELLO
without a node ID, and falls to DOWN when it fails.  Training and negotiation of one port leave every other port alone. -/
def Obligations.PortsComeUpAndFall : Prop :=
  ∀ (pt : PortN) (s : State),
    ((s.port pt).st = 1 → s.pow.main = true → Completes (.portSignalDetect pt) s (fun t => s.onlyIn t [.fab] ∧ (t.port pt).st = 2 ∧
      ∀ k, k ≠ pt.val → t.port k = s.port k)) ∧
    ((s.port pt).st = 2 → s.fld 0 Ty.node 0 0 2 < 4096 → Completes (.linkTrainingEnd pt true) s (fun t => s.onlyIn t [.fab] ∧
      (t.port pt).st = 3 ∧ t.fab.nodeId = s.fld 0 Ty.node 0 0 2 ∧ ∃ fs, s.sent t [0x01 :: 0xFFFF :: s.fab.epoch :: fs])) ∧
    ((s.port pt).st = 2 → 4096 ≤ s.fld 0 Ty.node 0 0 2 → Completes (.linkTrainingEnd pt true) s (fun t => s.onlyIn t [.fab] ∧
      (t.port pt).st = 3 ∧ (t.port pt).cause = 3 ∧ s.sent t [])) ∧
    (2 ≤ (s.port pt).st → Completes (.portDown pt) s (fun t => s.onlyIn t [.fab, .gctr] ∧ (t.port pt).st = 1 ∧ (t.port pt).pNode = Port.reset.pNode)) ∧
    (2 ≤ (s.port pt).st → (s.passed (s.port pt).uncorrAt 1000000 = true ∨ (s.port pt).uncorr < 64) →
      Completes (.linkReplay pt true) s (fun t => s.onlyIn t [.fab, .gctr] ∧ (t.port pt).st = (s.port pt).st)) ∧
    (∀ m : HelloMsg, (s.port pt).st = 3 → (s.port pt).cause = 0 → (s.port pt).gotAck = false → m.verMin ≤ 1 → 1 ≤ m.verMax →
      m.node ≠ s.fab.nodeId → s.fab.members.contains m.node = false →
      Completes (.hello pt m) s (fun t => s.onlyIn t [.fab] ∧ (t.port pt).st = 3 ∧ (t.port pt).gotHello = true ∧ (t.port pt).sentAck = true ∧
        (t.port pt).pNode = m.node ∧ (t.port pt).pFeed = m.feed ∧ ∃ fs, s.sent t [0x02 :: m.node :: s.fab.epoch :: fs])) ∧
    (∀ m : HelloMsg, (s.port pt).st = 3 → (s.port pt).cause = 0 → (1 < m.verMin ∨ m.verMax < 1) →
      Completes (.hello pt m) s (fun t => (t.port pt).st = 5 ∧ (t.port pt).cause = 1 ∧ s.sent t [])) ∧
    (∀ m : HelloMsg, (s.port pt).st = 3 → (s.port pt).cause = 0 → (s.port pt).gotHello = true → (s.port pt).sentAck = true →
      s.fab.inSystem = true → (s.port pt).epoch = 0xFFFFFFFF → Completes (.helloAck pt m) s (fun t => s.onlyIn t [.fab, .gctr] ∧ (t.port pt).st = 4)) ∧
    ((s.port pt).st = 3 → (s.port pt).cause = 0 → (s.port pt).gotHello = false → Completes (.helloResend pt) s (fun t => s.onlyIn t [.fab] ∧
      t.fab.ports = s.fab.ports ∧ s.sent t [0x01 :: 0xFFFF :: s.fab.epoch :: s.helloFields pt])) ∧
    (∀ (h : Hdr) (l : List Nat), s.forUs h → Completes (.linkState h l) s (fun t => s.onlyIn t [.fab] ∧ tget t.fab.links h.src [] = l ∧
      t.fab.ports = s.fab.ports))

/-- Probing: a PING is answered, a PONG ends the probe of its sender, every probed node is pinged, a node unreachable for LOSS_TIMEOUT is
reported to the coordinator, and with a second witness the coordinator declares it lost; without a quorum the module enters the minority. -/
def Obligations.ReachabilityIsProbed : Prop :=
  ∀ (s : State),
    (∀ h : Hdr, s.forUs h → Completes (.ping h) s (fun t => s.onlyIn t [.fab] ∧ s.sent t [[0x05, h.src, s.fab.epoch]])) ∧
    (∀ h : Hdr, s.forUs h → Completes (.pong h) s (fun t => s.onlyIn t [.fab] ∧ tfind t.fab.probes h.src = none ∧ s.sent t [])) ∧
    Completes .pingTimer s (fun t => s.onlyIn t [.fab] ∧ s.sent t (s.fab.probes.map (fun e => [0x04, e.1, s.fab.epoch]))) ∧
    (∀ (n : Nat) (p : Probe), tfind s.fab.probes n = some p → p.suspected = false → p.unreach = true →
      s.passed p.since (s.fld 0 Ty.membership 0 0 2 * 1000000) = true → s.suspectTo n ≠ s.fab.nodeId →
      Completes (.lossTimeout n) s (fun t => s.onlyIn t [.fab, .gctr] ∧ s.sent t [[0x10, s.suspectTo n, s.fab.epoch, n]])) ∧
    (∀ (h : Hdr) (n : Nat), s.forUs h → s.behind h = false → s.fab.inSystem = true → s.fab.members.contains h.src = true →
      s.suspectTo n = s.fab.nodeId →
      Completes (.suspect h n) s (fun t => s.onlyIn t [.fab] ∧ (n, h.src) ∈ t.fab.suspects ∧
        ((∃ w, w ≠ h.src ∧ (n, w) ∈ s.fab.suspects) → s.fab.members.contains n = true → n ∈ t.fab.lost))) ∧
    (∀ t0 : Nat, s.fab.gatherAt = some t0 → s.passed t0 1000000 = true → s.fab.coord = s.fab.nodeId →
      (s.quorum = true → Completes .suspectGatherEnd s (fun t => t = (s.modFab (fun f => { f with gatherAt := none })).propose)) ∧
      (s.quorum = false → Completes .suspectGatherEnd s (fun t => t.fab.minority = true))) ∧
    (∀ p : Probe, tfind s.fab.probes s.fab.coord = some p → p.unreach = true → p.suspected = false → s.fab.minority = false →
      s.passed p.since (s.fld 0 Ty.membership 0 0 2 * 1000000) = true → s.quorum = true → s.suspectTo s.fab.coord ≠ s.fab.nodeId →
      Completes .coordinatorLost s (fun t => s.onlyIn t [.fab, .gctr] ∧ t.fab.coord = s.suspectTo s.fab.coord ∧
        s.sent t [[0x10, s.suspectTo s.fab.coord, s.fab.epoch, s.fab.coord]]))

/-- Epochs: an IMMEDIATE proposal is acknowledged at once, a DEFERRED one once no cell waits; an acknowledgement is kept until every member
has sent one, silent members become suspects after 5 ms, and a commit of the next epoch is applied.  A request to join is refused outside
the system's versions, and an urgent departure is a loss. -/
def Obligations.EpochsAreAgreed : Prop :=
  ∀ (s : State),
    (∀ (h : Hdr) (chg : List Change), s.forUs h → s.fab.inSystem = true → s.fab.members.contains h.src = true → s.fab.minority = false →
      Completes (.epochPropose h (s.fab.epoch + 1) chg) s (fun t => s.onlyIn t [.fab] ∧ t.fab.coord = h.src ∧ t.fab.epoch = s.fab.epoch ∧
        (immediate chg = true → s.sent t [[0x12, h.src, s.fab.epoch, s.fab.epoch + 1]] ∧ t.fab.deferred = none) ∧
        (immediate chg = false → s.sent t [] ∧ (t.fab.deferred.map (fun k => k.changes)) = some chg))) ∧
    (∀ k : Proposal, s.fab.deferred = some k → s.groupWaits = false → s.fab.coord ≠ s.fab.nodeId →
      Completes .deferredAckTest s (fun t => s.onlyIn t [.fab] ∧ t.fab.deferred = none ∧ s.sent t [[0x12, s.fab.coord, s.fab.epoch, k.epoch]])) ∧
    (∀ (h : Hdr) (k : Proposal) (n : Nat), s.forUs h → s.fab.prop = some k → n ∈ s.fab.members → n ∉ s.fab.lost → n ≠ h.src → n ∉ k.acks →
      s.fab.lost = [] → s.fab.pendChg = [] →
      Completes (.epochAck h k.epoch) s (fun t => s.onlyIn t [.fab] ∧ t.fab.prop = some { k with acks := insN h.src k.acks } ∧
        t.fab.epoch = s.fab.epoch)) ∧
    (∀ k : Proposal, s.fab.prop = some k → immediate k.changes = true → s.passed k.at_ 5000000 = true →
      Completes .immediateAckTimeout s (fun t => s.onlyIn t [.fab] ∧
        ∀ n ∈ s.fab.members, n ∉ k.acks → n ∉ s.fab.lost → (n, s.fab.nodeId) ∈ t.fab.suspects)) ∧
    (∀ (h : Hdr) (chg : List Change), s.forUs h → s.fab.inSystem = true → s.fab.epoch + 1 ≠ 0xFFFFFFFF →
      Completes (.epochCommit h (s.fab.epoch + 1) chg) s (fun t => t = s.commitEpoch (s.fab.epoch + 1) chg)) ∧
    (∀ (h : Hdr) (lo hi : Nat), s.forUs h → s.fab.inSystem = true → s.fab.coord = s.fab.nodeId → s.fab.members.contains h.src = false →
      ((s.fab.sysVer < lo ∨ hi < s.fab.sysVer) → Completes (.joinReq h lo hi) s (fun t => s.onlyIn t [.day, .daySeq])) ∧
      (lo ≤ s.fab.sysVer → s.fab.sysVer ≤ hi → s.fab.pendChg.contains (3, h.src, 0) = false →
        Completes (.joinReq h lo hi) s (fun t => t = (s.modFab (fun f => { f with pendChg := f.pendChg ++ [(3, h.src, 0)] })).propose))) ∧
    (∀ t0 : Nat, s.fab.joinAt = some t0 → s.fab.inSystem = false → s.fab.locked = false → s.passed t0 1000000000 = true →
      Completes .joinLockTimeout s (fun t => s.onlyIn t [.fab] ∧ t.fab.notLocked = true ∧ t.fab.joinAt = none)) ∧
    (∀ h : Hdr, s.forUs h → s.fab.inSystem = true → s.fab.coord = s.fab.nodeId → s.fab.members.contains h.src = true →
      Completes (.leaveReq h true) s (fun t => s.onlyIn t [.fab] ∧ h.src ∈ t.fab.lost ∧ t.fab.gatherAt.isSome = true ∧ s.sent t []))

/-- Fabric time: an exchange measures the link's delay and towards the grandmaster sets what is to be slewed, the count itself standing;
every UP port sends TIME_SYNC; a forward step is announced for the next whole second and made then; an edge of PPS_IN more than 1 ms off is
ignored and counted.  A message of an unknown TYPE is dropped and counted, one of a known TYPE is not. -/
def Obligations.FabricTimeIsKept : Prop :=
  ∀ (s : State),
    (∀ (pt : PortN) (h : Hdr) (t1 g : Nat), s.forUs h → (s.port pt).st = 4 → Completes (.timeSync pt h t1 g none) s (fun t =>
      s.onlyIn t [.fab] ∧ s.sent t [[0x21, h.src, s.fab.epoch, pt.val, t1, s.time, s.time]] ∧ (s.fab.inSystem = false → t.fab.grand = g))) ∧
    (∀ (pt : PortN) (h : Hdr) (t1 t2 t3 : Nat), s.forUs h → (s.port pt).st = 4 → s.fab.inSystem = true → s.fab.fresh = false →
      Completes (.timeReply pt h t1 t2 t3) s (fun t => s.onlyIn t [.fab, .day, .daySeq] ∧
        (t.port pt).dly = ((((s.time : Int) - t1) - ((t3 : Int) - t2)) / 2).toNat ∧
        (s.towardGrand pt = true → t.fab.slew = (((t2 : Int) - t1) + ((t3 : Int) - (s.time : Int))) / 2) ∧
        (s.towardGrand pt = false → t.fab.slew = s.fab.slew))) ∧
    Completes .timeSyncTimer s (fun t => s.onlyIn t [.fab] ∧ t.fab.ports = s.fab.ports ∧
      t.fab.tx.length = s.fab.tx.length + ((List.range 24).filter (fun k => (s.port k).st == 4)).length) ∧
    (∀ v : Nat, s.hif.up = true → s.fab.inSystem = true → s.fab.grand = s.fab.nodeId → s.fab.ftEpoch ≠ some s.fab.epoch →
      ((s.time / 1000000000 + 1) * 1000000000 ≤ v → Completes (.ftimeSet 0 v) s (fun t => s.onlyIn t [.fab] ∧
        t.fab.ftSet = some ((s.time / 1000000000 + 1) * 1000000000, v - (s.time / 1000000000 + 1) * 1000000000))) ∧
      (v < (s.time / 1000000000 + 1) * 1000000000 → Completes (.ftimeSet 0 v) s (fun t => s.onlyIn t [.day, .daySeq]))) ∧
    (∀ sec amt : Nat, s.fab.ftSet = some (sec, amt) →
      (sec ≤ s.time → s.fab.locked = true → 0 < amt → Completes .ftimeStep s (fun t => s.onlyIn t [.time, .fab, .parts, .gctr] ∧
        t.time = (s.time + amt) % 2 ^ 64 ∧ t.fab.ftSet = none)) ∧
      (s.time < sec → Completes .ftimeStep s (fun t => t = s))) ∧
    (s.fld 0 Ty.membership 0 2 1 = 1 → s.pow.aux = true →
      (1000000 < s.time % 1000000000 → s.time % 1000000000 < 999000000 → Completes .ppsInEdge s (fun t => s.onlyIn t [.fab, .gctr] ∧
        t.fab.ppsBad = min (s.fab.ppsBad + 1) 3)) ∧
      ((s.time % 1000000000 ≤ 1000000 ∨ 999000000 ≤ s.time % 1000000000) → Completes .ppsInEdge s (fun t => s.onlyIn t [.fab] ∧
        t.fab.ppsBad = 0 ∧ t.fab.ppsValid = true))) ∧
    Completes .ppsOutSecond s (fun t => s.onlyIn t [.fab] ∧ t.fab.ppsOut = (s.fab.locked && s.time % 1000000000 == 0)) ∧
    (∀ (h : Hdr) (ty : Nat), Completes (.unknownMessage h ty) s (fun t => s.onlyIn t [.gctr] ∧ (knownTypes.contains ty = true → t = s)))

/-- Snapshots at a member and at the leader: a plan is taken up, a request plans the next step's boundary or lapses after 10 s, a quiesced
partition sends its image, a remount's answer and a member's result are kept until the last has come, and a step is secured or aborted. -/
def Obligations.SnapshotsAreTaken : Prop :=
  ∀ (s : State) (p : Pn),
    (∀ (h : Hdr) (step n : Nat), s.forUs h → h.src = s.leaderOf p → s.snaps p = true → Completes (.snapPlan h p step n) s (fun t =>
      s.onlyIn t [.parts] ∧ (t.part p).plan = some step ∧ (t.part p).interval = n ∧ (t.part p).lastSecured = (s.part p).lastSecured)) ∧
    (∀ (h : Hdr) (k : Nat), s.forUs h → s.leaderOf p = s.fab.nodeId → s.snaps p = true → (s.part p).snap ≠ 2 → s.fab.minority = false →
      (s.part p).plan = none → (s.part p).await_ = none → (s.part p).lastSecured + 1 ≠ (s.part p).trainStep →
      Completes (.snapReq h p k) s (fun t => s.onlyIn t [.parts, .fab] ∧ (t.part p).plan = some ((s.part p).trainStep + 1) ∧
        (t.part p).reqAt = some s.time)) ∧
    (∀ t0 : Nat, (s.part p).reqAt = some t0 → s.passed t0 10000000000 = true → s.leaderOf p ≠ s.fab.nodeId →
      Completes (.snapReqLapse p) s (fun t => s.onlyIn t [.parts] ∧ (t.part p).reqAt = none ∧ (t.part p).plan = (s.part p).plan)) ∧
    (s.rack.emerg = false → (s.part p).snap = 1 → (s.part p).quiesce = true → (s.part p).snapReset = false → s.fab.remounts ≠ [] →
      ((∀ c ∈ s.cellsOf p, (s.cell c).quiet = true) → Completes (.quiesceDone p) s (fun t => t = s.sendImage p)) ∧
      ((∃ c ∈ s.cellsOf p, (s.cell c).quiet = false) → Completes (.quiesceDone p) s (fun t => t = s))) ∧
    (∀ (h : Hdr) (n : Nat), s.forUs h → (s.part p).sending = true → s.fab.remounts.contains h.src = true → n ∈ s.fab.remounts → n ≠ h.src →
      n ∉ (s.part p).stored → Completes (.snapStored h p (s.part p).snapStep true) s (fun t => s.onlyIn t [.parts] ∧
        (t.part p).stored = insN h.src (s.part p).stored ∧ (t.part p).sending = true)) ∧
    (∀ (h : Hdr) (step n : Nat), s.forUs h → s.leaderOf p = s.fab.nodeId → (s.part p).await_ = some step →
      (n ∈ s.survivors p → n ≠ h.src → n ∉ (s.part p).doneFrom → Completes (.snapDone h p step true) s (fun t => s.onlyIn t [.parts] ∧
        (t.part p).doneFrom = insN h.src (s.part p).doneFrom ∧ (t.part p).await_ = some step)) ∧
      Completes (.snapDone h p step false) s (fun t => t = s.abortStep p step)) ∧
    (∀ step : Nat, (s.part p).await_ = some step → s.leaderOf p = s.fab.nodeId →
      10 * s.haltBound p (s.snapSize p) ≤ ((s.time - (s.part p).planAt : Nat) : Rat) →
      Completes (.snapLeaderTimeout p) s (fun t => t = s.abortStep p step)) ∧
    (∀ h : Hdr, s.forUs h → (s.part p).snap ≠ 2 → s.snaps p = true → Completes (.snapSecured h p (s.part p).snapStep) s (fun t =>
      s.onlyIn t [.parts, .fab, .rack] ∧ (t.part p).lastSecured = (s.part p).snapStep ∧ (t.part p).unsecured = false)) ∧
    (∀ h : Hdr, s.forUs h → (s.part p).snap ≠ 2 → (s.part p).halting = false → Completes (.snapAbort h p (s.part p).snapStep) s (fun t =>
      s.onlyIn t [.parts, .fab] ∧ (t.part p).await_ = none ∧ (t.part p).dirtySent = [] ∧ (t.part p).lastSecured = (s.part p).lastSecured))

/-- A remount: space for three times the owner's size is granted or denied; the owner's data joins a pending image and the last of it is
answered; an emergency record is kept beside the images; a grant adds a remount and a denial puts its node last. -/
def Obligations.RemountsHoldImages : Prop :=
  ∀ (s : State) (h : Hdr), s.forUs h →
    (∀ size : Nat, ((tfind s.fab.owners h.src).isSome = true ∨ s.fab.owners.length < s.fld 0 Ty.membership 0 3 1) →
      3 * size ≤ s.reserveLeft h.src → Completes (.remountAsk h size) s (fun t => s.onlyIn t [.fab] ∧ (t.owned h.src).size = size ∧
        s.sent t [[0x53, h.src, s.fab.epoch, s.reserveLeft h.src - 3 * size]])) ∧
    (∀ size : Nat, s.reserveLeft h.src < 3 * size → Completes (.remountAsk h size) s (fun t => s.onlyIn t [.fab] ∧
        t.fab.owners = s.fab.owners ∧ s.sent t [[0x54, h.src, s.fab.epoch, s.reserveLeft h.src]])) ∧
    (∀ (step item off : Nat) (data : List Byte) (last : Bool), (tfind s.fab.owners h.src).isSome = true →
      Completes (.snapData h step item off data last) s (fun t => s.onlyIn t [.fab] ∧ (t.owned h.src).images = (s.owned h.src).images ∧
        ((t.owned h.src).pend.map (fun i => i.step)) = some step ∧
        s.sent t (if last = true then [[0x56, h.src, s.fab.epoch, item / 16, step, 1]] else []))) ∧
    (∀ data : List Byte, (tfind s.fab.owners h.src).isSome = true → Completes (.emergRecord h data) s (fun t => s.onlyIn t [.fab] ∧
      (t.owned h.src).images = (s.owned h.src).images ∧ tfind (t.owned h.src).emerg (leNat (data.take 1)) = some data)) ∧
    (∀ n : Nat, s.fab.remounts.contains h.src = false → s.fab.remounts.length < s.remountsWanted →
      Completes (.remountGrant h n) s (fun t => s.onlyIn t [.fab, .parts, .day, .daySeq, .gctr] ∧ t.fab.remounts = s.fab.remounts ++ [h.src])) ∧
    (∀ n : Nat, Completes (.remountDeny h n) s (fun t => s.onlyIn t [.fab] ∧ h.src ∈ t.fab.asked ∧ t.fab.remounts = s.fab.remounts))

/-- Recovery: a notice of replay undoes the step of every partition that shares a group with the sender, and nothing where none does; a
holder answers which steps it has and sends the bytes asked for; pieces and members' results are kept until the last has come; RESUME lets a
restoring partition run, and a failure reported by the leader ends in RECOVERY_FAILED. -/
def Obligations.RecoveryRuns : Prop :=
  ∀ (s : State) (h : Hdr) (p : Pn), s.forUs h →
    (∀ step q : Nat, q < 16 → (s.recs.any (fun e => decide (e.1 / 2 ^ 32 = q) && keyType e.1 == Ty.group &&
        (s.members q (e.1 % 65536)).any (fun m => m.1 == h.src))) = true → (s.part q).replaySeen.contains (h.src, p.val, step) = false →
      Completes (.stepReplay h p step) s (fun t => (t.part q).outbox = [] ∧ (t.part q).tags = [] ∧ (t.part q).applied = false ∧
        (t.part q).stepSkip = false ∧ (t.part q).trainStep = (s.part q).trainStep)) ∧
    (∀ step : Nat, (∀ q < 16, (s.recs.any (fun e => decide (e.1 / 2 ^ 32 = q) && keyType e.1 == Ty.group &&
        (s.members q (e.1 % 65536)).any (fun m => m.1 == h.src))) = false) → Completes (.stepReplay h p step) s (fun t => t = s)) ∧
    (∀ owner step item off : Nat, Completes (.fetchReq h owner step item off 0) s (fun t => s.onlyIn t [.fab] ∧
      s.sent t [[0x5C, h.src, s.fab.epoch, owner, 0] ++ s.stepsHeld owner])) ∧
    (∀ (owner step item off len : Nat) (i : Image), len ≠ 0 →
      (tget s.fab.owners owner Owner.reset).images.find? (fun i => i.step == step) = some i →
      Completes (.fetchReq h owner step item off len) s (fun t => s.onlyIn t [.fab] ∧
        s.sent t [[0x5C, h.src, s.fab.epoch, owner, 1, step, item, off] ++ (i.read item off len).map BitVec.toNat])) ∧
    (∀ (m : FetchMsg) (w v : Nat × Nat × Nat × Nat), (s.part p).snap = 2 → (s.part p).restore = 2 → m.kind = 1 → m.step = (s.part p).restoreStep →
      w ∈ (s.part p).fetchWant → w.1 = m.owner → w.2.1 = m.item → w.2.2.1 = m.off → v ∈ (s.part p).fetchWant → v.1 ≠ m.owner →
      Completes (.fetchData h p m) s (fun t => s.onlyIn t [.parts] ∧ v ∈ (t.part p).fetchWant ∧ w ∉ (t.part p).fetchWant ∧
        (t.part p).fetched = (s.part p).fetched ++ [(m.owner, m.item, m.off, m.data)])) ∧
    (∀ n : Nat, s.leaderOf p = s.fab.nodeId → (s.part p).snap = 2 → n ∈ s.survivors p → n ≠ h.src → n ∉ (s.part p).readyFrom →
      Completes (.restoreReady h p (s.part p).restoreStep true) s (fun t => s.onlyIn t [.parts] ∧
        (t.part p).readyFrom = insN h.src (s.part p).readyFrom ∧ (t.part p).snap = 2)) ∧
    (∀ step : Nat, s.leaderOf p ≠ s.fab.nodeId → (s.part p).snap = 2 → (s.part p).restore ≠ 5 →
      Completes (.restoreReady h p step false) s (fun t => s.onlyIn t [.parts, .day, .daySeq] ∧ (t.part p).snap = 0 ∧ (t.part p).restore = 5)) ∧
    (∀ step t0 : Nat, (s.part p).snap = 2 → Completes (.resumeMsg h p step t0) s (fun t => s.onlyIn t [.parts] ∧ (t.part p).snap = 0 ∧
      (t.part p).plan = some step ∧ (t.part p).lastSecured = (s.part p).restoreStep))

/-- Submission entries: the entry at the head of a ring is fetched, the head moves on by one and the command stays open until it completes;
an unlisted OPCODE completes REFUSED and changes nothing else; a completion is written at CQ_TAIL of the same pair, and waits where the ring
is full.  STATUS answers the module's status register. -/
def Obligations.HostCommandsAreFetched : Prop :=
  ∀ (fn : Pn) (q : Fin 63) (s : State),
    (∀ op : Nat, s.canFetch fn q = true → (cmdOf q (s.queue fn q).entry).op = op → hostOpcodes.contains op = true →
      (s.boot.ready = true ∨ op = 0x10) → entryClean (s.queue fn q).entry = true →
      ∃ t, s.fetchCmd fn q op = .inr (t, { cmdOf q (s.queue fn q).entry with at_ := s.time }) ∧ s.onlyIn t [.funcs] ∧
        (t.queue fn q).head = ((s.queue fn q).head + 1) % (s.queue fn q).sqLen ∧
        (t.queue fn q).open_ = (s.queue fn q).open_ ++ [{ cmdOf q (s.queue fn q).entry with at_ := s.time }]) ∧
    (s.canFetch fn q = true → hostOpcodes.contains (cmdOf q (s.queue fn q).entry).op = false → Completes (.status fn q) s (fun t =>
      s.onlyIn t [.funcs, .hostMem] ∧ (t.queue fn q).head = ((s.queue fn q).head + 1) % (s.queue fn q).sqLen)) ∧
    (s.canFetch fn q = false → Completes (.status fn q) s (fun t => t = s)) ∧
    (∀ (t : State) (k : Cmd), s.fetchCmd fn q 0x10 = .inr (t, k) → Completes (.status fn q) s (fun u => u = t.finish fn k 0 0 s.statusWord)) ∧
    (∀ (k : Cmd) (st ca info : Nat), k.q = q.val → (s.queue fn q).st ≠ 0 → s.hif.up = true →
      s.onlyIn (s.finish fn k st ca info) [.funcs, .hostMem] ∧
      ((s.queue fn q).cqFull = false → (s.queue fn q).cwait = [] →
        ((s.finish fn k st ca info).queue fn q).cqTail =
          (if (s.queue fn q).cqTail + 1 = (s.queue fn q).cqLen then 0 else (s.queue fn q).cqTail + 1)) ∧
      ((s.queue fn q).cqFull = true → s.same (s.finish fn k st ca info) .hostMem ∧
        ((s.finish fn k st ca info).queue fn q).cwait.length = (s.queue fn q).cwait.length + 1))

/-- LOAD puts the image into every targeted cell, READY at ENTRY with its heartbeat and flag counters zero, or into none; START begins issue
at ENTRY at once or at a fabric time; STOP ends in STOPPED where the program counter stands once nothing is in flight, and RESUME goes on
from there.  START and RESUME take every cell of the set or refuse. -/
def Obligations.CellsLoadStartAndStop : Prop :=
  ∀ (fn : Pn) (q : Fin 63) (s t : State) (k : Cmd),
    (s.fetchCmd fn q 1 = .inr (t, k) → k.a1 ≠ 0 → t.addrBad fn k.a0 (min k.a1 65792) = none → t.boot.memFault = false →
      t.argError k.a0 (min k.a1 65792) = none →
      (t.imageFail fn (t.rdArg k.a0 (min k.a1 65792)) ≠ 0 → Completes (.load fn q) s (fun u =>
        u = t.finish fn k 2 (t.imageFail fn (t.rdArg k.a0 (min k.a1 65792))))) ∧
      (∀ (b : List Byte), b = t.rdArg k.a0 (min k.a1 65792) → t.imageFail fn b = 0 → leNat ((b.drop 0xC).take 2) ≠ 0 → (t.part fn).snap ≠ 2 →
        (∃ c : Nat, c < 1024 ∧ bit (leNat ((b.drop (0x20 + c / 8)).take 1)) (c % 8) = true) →
        (∀ c : Nat, c < 1024 → bit (leNat ((b.drop (0x20 + c / 8)).take 1)) (c % 8) = true → t.regionOn c = true) →
        Completes (.load fn q) s (fun u => s.onlyIn u [.cells, .funcs, .hostMem] ∧ ∀ c : Nat,
          (c < 1024 ∧ bit (leNat ((b.drop (0x20 + c / 8)).take 1)) (c % 8) = true → u.cell c = (s.cell c).loaded b s.time) ∧
          (¬ (c < 1024 ∧ bit (leNat ((b.drop (0x20 + c / 8)).take 1)) (c % 8) = true) → u.cell c = s.cell c)))) ∧
    (s.fetchCmd fn q 2 = .inr (t, k) → t.cellSet fn k →
      ((∃ c ∈ t.cmdCells k, (s.cell c).startable = false) → Completes (.start fn q) s (fun u => s.onlyIn u [.funcs, .hostMem])) ∧
      ((∀ c ∈ t.cmdCells k, (s.cell c).startable = true ∧ s.regionOn c = true) → Completes (.start fn q) s (fun u =>
        s.onlyIn u [.cells, .funcs, .hostMem] ∧ (∀ c, c ∉ t.cmdCells k → u.cell c = s.cell c) ∧
        (k.a0 ≤ s.time → ∀ c ∈ t.cmdCells k, (u.cell c).st = 2 ∧ (u.cell c).pc = (s.cell c).entry ∧ (u.cell c).flags = []) ∧
        (s.time < k.a0 → ∀ c ∈ t.cmdCells k, (u.cell c).st = (s.cell c).st ∧ (u.cell c).startPend = true ∧ (u.cell c).startAt = k.a0)))) ∧
    (∀ c : Cid, (s.cell c).startPend = true → (s.cell c).startAt ≤ s.time → (s.cell c).startable = true →
      Completes (.startTimeReached c) s (fun u => s.cellOnly u c ∧ (u.cell c).st = 2 ∧ (u.cell c).pc = (s.cell c).entry ∧
        (u.cell c).startPend = false)) ∧
    (s.fetchCmd fn q 3 = .inr (t, k) → t.cellSet fn k → Completes (.hostStop fn q) s (fun u =>
      s.onlyIn u [.cells, .funcs, .hostMem] ∧ (∀ c, c ∉ t.cmdCells k → u.cell c = s.cell c) ∧ ∀ c ∈ t.cmdCells k,
        (u.cell c).pc = (s.cell c).pc ∧ (u.cell c).flags = (s.cell c).flags ∧
        ((s.cell c).st = 2 → (s.cell c).resetLevel = 0 → (s.cell c).flight = [] → (u.cell c).st = 3 ∧
          (u.cell c).stopHost = ((s.cell c).draining != 1)) ∧
        ((s.cell c).st = 2 → (s.cell c).resetLevel = 0 → (s.cell c).flight ≠ [] → (u.cell c).st = 2 ∧ (u.cell c).draining ≠ 0 ∧
          k.tok ∈ (u.cell c).hostStopBy) ∧
        ((s.cell c).st ≠ 2 → (u.cell c).st = (s.cell c).st))) ∧
    (s.fetchCmd fn q 4 = .inr (t, k) → t.cellSet fn k →
      ((∃ c ∈ t.cmdCells k, (s.cell c).st ≠ 3 ∨ (s.cell c).stopHost = false) →
        Completes (.resume fn q) s (fun u => s.onlyIn u [.funcs, .hostMem])) ∧
      ((∀ c ∈ t.cmdCells k, (s.cell c).st = 3 ∧ (s.cell c).stopHost = true) → Completes (.resume fn q) s (fun u =>
        s.onlyIn u [.cells, .funcs, .hostMem] ∧ (∀ c, c ∉ t.cmdCells k → u.cell c = s.cell c) ∧
        ∀ c ∈ t.cmdCells k, u.cell c = { s.cell c with st := 2, stopHost := false })))

/-- Resets of cells and partitions: a context or engine reset of a set drains its cells, is held during the emergency sequence and refused
while the partition restores; it ends with the cell at ENTRY, its memories kept; a partition reset leaves its cells EMPTY with zeroed
memories and their heartbeats.  NumVFs rises at once. -/
def Obligations.ResetsDrainAndEnd : Prop :=
  ∀ (fn : Pn) (q : Fin 63) (s : State),
    (∀ (t : State) (k : Cmd), s.rack.emerg = false → s.fetchCmd fn q 5 = .inr (t, k) → t.cellSet fn k →
      ((t.part fn).snap = 2 → Completes (.resetContext fn q) s (fun u => s.onlyIn u [.funcs, .hostMem])) ∧
      ((t.part fn).snap ≠ 2 → Completes (.resetContext fn q) s (fun u => ∀ c ∈ t.cmdCells k,
        (u.cell c).resetLevel = max (s.cell c).resetLevel 1 ∧ k.tok ∈ (u.cell c).resetBy ∧ (u.cell c).startPend = false))) ∧
    (s.rack.emerg = true → Completes (.resetContext fn q) s (fun u => u = s) ∧ Completes (.resetEngine fn q) s (fun u => u = s)) ∧
    (∀ (t : State) (k : Cmd), s.rack.emerg = false → s.fetchCmd fn q 6 = .inr (t, k) → t.cellSet fn { k with set := 0 } →
      (k.count ≠ 1 → Completes (.resetEngine fn q) s (fun u => s.onlyIn u [.funcs, .hostMem])) ∧
      (k.count = 1 → (t.part fn).snap ≠ 2 → Completes (.resetEngine fn q) s (fun u =>
        (u.cell k.first).resetLevel = max (s.cell k.first).resetLevel 2 ∧ k.tok ∈ (u.cell k.first).resetBy))) ∧
    (∀ c : Cid, s.drained c = true → s.boot.resetStage = 0 →
      ((s.cell c).resetLevel = 1 ∨ (s.cell c).resetLevel = 2 ∧ (s.imageOk c = true ∨ (s.cell c).st = 0) →
        Completes (.resetComplete c) s (fun t => (t.cell c).resetLevel = 0 ∧ ((s.cell c).st ≠ 0 → (t.cell c).st = 1) ∧
          ((s.cell c).st = 0 → (s.cell c).wq = [] → (t.cell c).st = 0) ∧ (t.cell c).pc = (s.cell c).entry ∧ (t.cell c).flags = [] ∧ (t.cell c).fault = FaultRec.reset ∧ (t.cell c).spad = (s.cell c).spad ∧
          (t.cell c).tally = (s.cell c).tally ∧ (t.cell c).heartbeat = (s.cell c).heartbeat)) ∧
      ((s.cell c).resetLevel = 3 → (s.part (s.owner c)).vanish = false → Completes (.resetComplete c) s (fun t => (t.cell c).st = 0 ∧
        (t.cell c).spad = [] ∧ (t.cell c).tally = [] ∧ (t.cell c).heartbeat = (s.cell c).heartbeat))) ∧
    (∀ c : Cid, s.drained c = false → Completes (.resetComplete c) s (fun t => t = s)) ∧
    (s.hif.up = true → (s.part fn).snap ≠ 2 → fn.val ≤ s.hif.numVf → s.boot.resetStage = 0 → (s.part fn).resetting = false →
      (s.rack.emerg = true → Completes (.functionLevelReset fn) s (fun t => s.onlyIn t [.parts] ∧ (t.part fn).flrHeld = true)) ∧
      (s.rack.emerg = false → s.cellsOf fn ≠ [] → (∀ c ∈ s.cellsOf fn, (s.cell c).resetLevel ≤ 3) →
        Completes (.functionLevelReset fn) s (fun t => (t.part fn).resetting = true ∧ ∀ c ∈ s.cellsOf fn, (t.cell c).resetLevel = 3))) ∧
    ((s.part fn).snap = 2 → Completes (.functionLevelReset fn) s (fun t => t = s)) ∧
    (∀ n : Fin 16, s.hif.up = true → s.hif.numVf < n.val → Completes (.numvfsChange n) s (fun t => s.onlyIn t [.hif] ∧ t.hif.numVf = n.val))

/-- The module reset: the key written by the physical function, and a hot reset, start it on a ready module; it is held during bring-up and
the emergency sequence; its rows follow one another, the first waiting for every cell to drain and the last setting MODULE_READY; a sequence
that overruns and the power-cycle key drive the power-cycle request. -/
def Obligations.ModuleResetRuns : Prop :=
  ∀ (s : State),
    (∀ v : Nat, v % 65536 = 0x5254 → s.hif.up = true → s.boot.resetStage = 0 → s.pow.aux = true →
      (s.boot.running = false → s.rack.emerg = false → s.boot.ready = true →
        Completes (.moduleReset 0 v) s (fun t => t.boot.resetStage = 1 ∧ t.boot.ready = false ∧
          t.boot.resetCount = (s.boot.resetCount + 1) % 2 ^ 32 ∧ s.same t .mem ∧ s.same t .store) ∧
        Completes .pcieHotReset s (fun t => t.boot.resetStage = 1 ∧ t.boot.ready = false ∧
          t.boot.resetCount = (s.boot.resetCount + 1) % 2 ^ 32 ∧ s.same t .mem ∧ s.same t .store)) ∧
      ((s.boot.running = true ∨ s.rack.emerg = true) →
        Completes (.moduleReset 0 v) s (fun t => s.onlyIn t [.boot] ∧ t.boot.resetHeld = true) ∧
        Completes .pcieHotReset s (fun t => s.onlyIn t [.boot] ∧ t.boot.resetHeld = true))) ∧
    (∀ (fn : Pn) (v : Nat), (fn.val ≠ 0 ∨ v % 65536 ≠ 0x5254) → Completes (.moduleReset fn v) s (fun t => t = s)) ∧
    (s.boot.resetStage = 1 → (∀ e ∈ s.cells, s.drained e.1 = true) → Completes .moduleResetStage s (fun t => t.boot.resetStage = 2 ∧
      t.funcs = [] ∧ t.gctr = [] ∧ t.hif.up = false ∧ ∀ c : Nat, (t.cell c).st = 0 ∧ (t.cell c).spad = [] ∧ (t.cell c).tally = [])) ∧
    (s.boot.resetStage = 1 → (∃ e ∈ s.cells, s.drained e.1 = false) → Completes .moduleResetStage s (fun t => t = s)) ∧
    ((s.boot.resetStage = 3 ∨ s.boot.resetStage = 5) → Completes .moduleResetStage s (fun t => s.onlyIn t [.boot] ∧
      t.boot.resetStage = s.boot.resetStage + 1)) ∧
    (s.boot.resetStage = 4 → Completes .moduleResetStage s (fun t => s.onlyIn t [.boot, .hif] ∧ t.boot.resetStage = 5 ∧
      t.hif.up = (!s.hif.perst && !s.hif.fail))) ∧
    (s.boot.resetStage = 6 → Completes .moduleResetStage s (fun t => t.boot.ready = true ∧ t.boot.resetStage = 0)) ∧
    (s.boot.resetStage ≠ 0 → Completes .moduleResetOverrun s (fun t => s.onlyIn t [.groom, .day, .daySeq] ∧ t.groom.pwrReq = true)) ∧
    (∀ v : Nat, v % 65536 = 0x5043 → s.hif.up = true → Completes (.pwrCycleReq 0 v) s (fun t => s.onlyIn t [.groom, .day, .daySeq] ∧
      t.groom.pwrReq = true))

/-- Data between host and module: a copy is between host and module memory and is refused otherwise; it moves its bytes and no others and
completes, or fails where a host read times out; FLAG adds to one flag counter of each cell of the set; a shard map, a plan buffer and a
snapshot request are kept; a released record goes to its place in the host's map, one outside it is discarded and counted. -/
def Obligations.HostDataMoves : Prop :=
  ∀ (fn : Pn) (q : Fin 63) (s : State),
    (∀ (t : State) (k : Cmd), s.fetchCmd fn q 7 = .inr (t, k) → k.a2 ≠ 0 → t.addrBad fn k.a0 k.a2 = none → t.addrBad fn k.a1 k.a2 = none →
      ((decide (2 ^ 63 ≤ k.a0) = decide (2 ^ 63 ≤ k.a1)) → Completes (.dmaCopy fn q) s (fun u => s.onlyIn u [.funcs, .hostMem])) ∧
      ((decide (2 ^ 63 ≤ k.a0) ≠ decide (2 ^ 63 ≤ k.a1)) → Completes (.dmaCopy fn q) s (fun u => s.onlyIn u [.funcs] ∧
        (u.func fn).dma = (s.func fn).dma ++ [k]))) ∧
    (∀ (i : Nat) (m : Cmd), (s.func fn).dma[i]? = some m →
      (2 ^ 63 ≤ m.a0 → Completes (.dmaCopyDone fn i) s (fun t => s.onlyIn t [.funcs, .parts, .mem, .hostMem] ∧
        (t.func fn).dma = (s.func fn).dma.eraseIdx i ∧ t.mem = (s.wrMem m.a1 (s.rdHost (m.a0 % 2 ^ 63) m.a2)).mem)) ∧
      (m.a0 < 2 ^ 63 → Completes (.dmaCopyDone fn i) s (fun t => s.onlyIn t [.funcs, .parts, .hostMem] ∧
        (t.func fn).dma = (s.func fn).dma.eraseIdx i)) ∧
      (∀ n : Nat, 2 ^ 63 ≤ m.a0 → n < m.a2 → Completes (.hostReadTimeout fn i n) s (fun t => s.onlyIn t [.funcs, .parts, .mem, .hostMem] ∧
        (t.func fn).dma = (s.func fn).dma.eraseIdx i ∧ t.mem = (s.wrMem m.a1 (s.rdHost (m.a0 % 2 ^ 63) n)).mem))) ∧
    (∀ (t : State) (k : Cmd), s.fetchCmd fn q 0xA = .inr (t, k) → t.cellSet fn k → bits k.a0 3 0 ≠ 0 → bits k.a0 31 16 ≠ 0 →
      (∀ c ∈ t.cmdCells k, tget (s.cell c).flags (bits k.a0 3 0) 0 + bits k.a0 31 16 < 2 ^ 32) →
      Completes (.flag fn q) s (fun u => s.onlyIn u [.cells, .funcs, .hostMem] ∧ (∀ c, c ∉ t.cmdCells k → u.cell c = s.cell c) ∧
        ∀ c ∈ t.cmdCells k, u.cell c = { s.cell c with flags := (u.cell c).flags } ∧ ∀ f : Nat, tget (u.cell c).flags f 0 =
          tget (s.cell c).flags f 0 + (if f = bits k.a0 3 0 then bits k.a0 31 16 else 0))) ∧
    (∀ (t : State) (k : Cmd), s.fetchCmd fn q 0xC = .inr (t, k) → Completes (.hostSnapReq fn q) s (fun u =>
      s.onlyIn u [.parts, .fab, .funcs, .hostMem] ∧ (s.snaps fn = true → s.leaderOf fn ≠ s.fab.nodeId →
        (u.part fn).reqAt = some s.time ∧ s.sent u [[0x51, s.leaderOf fn, s.fab.epoch, fn.val, 1]]))) ∧
    (∀ (t : State) (k : Cmd), s.fetchCmd fn q 0xE = .inr (t, k) → k.a2 ≠ 0 → 2 ^ 63 ≤ k.a0 → k.a1 < 2 ^ 63 → t.addrBad fn k.a1 k.a2 = none →
      Completes (.shardMap fn q) s (fun u => s.onlyIn u [.parts, .funcs, .hostMem] ∧
        ((s.part fn).shardMap.2.2 = 0 → (u.part fn).shardMap = (k.a0 % 2 ^ 63, k.a1, k.a2)) ∧
        ((s.part fn).shardMap.2.2 ≠ 0 → (u.part fn).shardMap = (s.part fn).shardMap ∧
          (u.part fn).shardMapNext = some (k.a0 % 2 ^ 63, k.a1, k.a2)))) ∧
    (∀ r : ShardRec, (s.part fn).outbox.find? (fun r => r.released) = some r → s.hif.up = true → (s.queue fn 0).st ≠ 0 →
      ((s.part fn).shardMap.2.1 ≤ r.addr → r.addr + r.len ≤ (s.part fn).shardMap.2.1 + (s.part fn).shardMap.2.2 →
        s.badIn r.addr r.len = none → Completes (.shardCopy fn) s (fun t => s.onlyIn t [.parts, .funcs, .hostMem] ∧
          (t.part fn).outbox = (s.part fn).outbox.erase r)) ∧
      (r.addr < (s.part fn).shardMap.2.1 → Completes (.shardCopy fn) s (fun t => s.onlyIn t [.parts, .gctr, .funcs, .hostMem] ∧
          (t.part fn).outbox = (s.part fn).outbox.erase r ∧ t.gctr = (s.pcount fn PEv.shardDiscarded 1).gctr))) ∧
    (∀ (t : State) (k : Cmd), s.fetchCmd fn q 0xF = .inr (t, k) → k.a1 ≠ 0 → 2 ^ 63 ≤ k.a0 →
      ((s.part fn).planWait = false → Completes (.planBuf fn q) s (fun u => s.onlyIn u [.parts, .funcs, .hostMem] ∧
        (u.part fn).planBuf = (k.a0 % 2 ^ 63, k.a1))) ∧
      ((s.part fn).planWait = true → k.a1 < (s.planBytes fn).length → Completes (.planBuf fn q) s (fun u =>
        s.onlyIn u [.parts, .funcs, .hostMem] ∧ (u.part fn).planBuf = (k.a0 % 2 ^ 63, k.a1) ∧ (u.part fn).planWait = true)))

/-- Records and arrays from the host: TACK and TCOMMIT, from the host or from a cell, take the whole image or set or leave every record as
it was, with one daybook entry; a drill package is installed by the physical function alone; ATTACH is queued for the drift check, which
leaves the crossbar LIVE or STALE. -/
def Obligations.RecordsArriveWhole : Prop :=
  ∀ (fn : Pn) (q : Fin 63) (s : State),
    (∀ (t : State) (k : Cmd) (r : State × Nat × Nat × Nat), s.fetchCmd fn q 8 = .inr (t, k) → t.addrBad fn k.a0 32 = none →
      t.addrBad fn k.a0 (min (max (leNat ((t.rdArg k.a0 8).drop 4)) 32) (2 ^ 20)) = none →
      t.argError k.a0 (min (max (leNat ((t.rdArg k.a0 8).drop 4)) 32) (2 ^ 20)) = none →
      r = t.tackImage fn false (2 ^ 21) (fun n => t.rdArg k.a0 n) →
      (r.2.1 ≠ 0 → Completes (.hostTack fn q) s (fun u => s.onlyIn u [.funcs, .hostMem, .day, .daySeq])) ∧
      (r.2.1 = 0 → Completes (.hostTack fn q) s (fun u => u.recs = r.1.recs ∧
        (bit k.flags 2 = true → u.groom.writeQ.length = r.1.groom.writeQ.length + 1)))) ∧
    (∀ (t : State) (k : Cmd) (r : State × Nat × List Cand), s.fetchCmd fn q 9 = .inr (t, k) → r = t.commitShadows fn (k.a0 % 65536) false →
      (r.2.1 ≠ 0 → Completes (.hostTcommit fn q) s (fun u => s.onlyIn u [.funcs, .hostMem, .day, .daySeq])) ∧
      (r.2.1 = 0 → Completes (.hostTcommit fn q) s (fun u => u.recs = r.1.recs))) ∧
    (∀ (c : Cid) (w : Nat), s.atOp c .tack = some w → (commonIll w ++ configIll w).isEmpty = true →
      (0x200000 < bits w 95 80 * 32 + max (s.rdLocN c (bits w 95 80 * 32 + 4) 4) 32 →
        Completes (.tack c) s (fun t => (t.cell c).st = 4 ∧ (t.cell c).fault.code = Fc.address ∧ s.same t .recs)) ∧
      (∀ r : State × Nat × Nat × Nat, bits w 95 80 * 32 + max (s.rdLocN c (bits w 95 80 * 32 + 4) 4) 32 ≤ 0x200000 →
        r = s.tackImage (s.owner c) true (0x200000 - bits w 95 80 * 32) (fun n => s.rdLoc c (bits w 95 80 * 32) n) →
        Completes (.tack c) s (fun t => t.recs = r.1.recs ∧ (t.cell c).rejected = (r.2.1 != 0) ∧ (r.2.1 ≠ 0 → s.same t .recs)))) ∧
    (∀ (c : Cid) (w : Nat) (r : State × Nat × List Cand), s.atOp c .tcommit = some w → (commonIll w ++ configIll w).isEmpty = true →
      r = s.commitShadows (s.owner c) (bits w 95 80) true →
      Completes (.tcommit c) s (fun t => t.recs = r.1.recs ∧ (t.cell c).rejected = (r.2.1 != 0) ∧ (r.2.1 ≠ 0 → s.same t .recs))) ∧
    (∀ (t : State) (k : Cmd), s.fetchCmd fn q 0xD = .inr (t, k) → k.a1 ≠ 0 →
      (fn.val ≠ 0 → Completes (.drillPkg fn q) s (fun u => s.onlyIn u [.funcs, .hostMem])) ∧
      (fn.val = 0 → t.addrBad fn k.a0 (min k.a1 65537) = none → t.argError k.a0 (min k.a1 65537) = none →
        Completes (.drillPkg fn q) s (fun u =>
          (t.pkgFail (t.rdArg k.a0 (min k.a1 65537)) ≠ 0 → s.onlyIn u [.funcs, .hostMem, .day, .daySeq]) ∧
          (t.pkgFail (t.rdArg k.a0 (min k.a1 65537)) = 0 → s.onlyIn u [.funcs, .hostMem, .recs, .groom] ∧
            ∃ g ∈ u.groom.pkgs, g.1 = leNat (((t.rdArg k.a0 (min k.a1 65537)).drop 6).take 2))))) ∧
    (∀ (t : State) (k : Cmd), s.fetchCmd fn q 0xB = .inr (t, k) → k.first < 1024 → t.owner k.first = fn → t.addrBad fn k.a1 262144 = none →
      t.addrBad fn k.a2 64 = none → (k.a3 ≠ 0 → t.addrBad fn k.a3 524288 = none) → t.regionOn k.first = true →
      (t.xbar (t.reg k.first) ((t.cell k.first).phys (bits k.a0 2 0))).st ≠ 3 →
      (∀ j ∈ (t.cell k.first).wq, j.phys ≠ (t.cell k.first).phys (bits k.a0 2 0)) →
      t.argError k.a1 262144 = none → t.argError k.a2 64 = none →
      Completes (.attach fn q) s (fun u => s.onlyIn u [.cells, .phys, .parts, .mem, .funcs] ∧
        (u.cell k.first).attach = (s.cell k.first).attach ++ [(bits k.a0 2 0, k.tok)] ∧
        ∀ (r : Rid) (x : Xb), (u.xbar r x).st = (s.xbar r x).st ∧ (u.xbar r x).cond = (s.xbar r x).cond)) ∧
    (∀ (c : Cid) (levels codes : List Int) (lx tok : Nat) (l : List (Nat × Nat)), (s.cell c).attach = (lx, tok) :: l → s.boot.refin = false →
      (s.xbar (s.reg c) ((s.cell c).phys lx)).selfCal = false → s.regionOn c = true →
      Completes (.attachDriftCheck c levels codes) s (fun t => (t.cell c).attach = l ∧
        ((t.xbar (s.reg c) ((s.cell c).phys lx)).st = 0 ∨ (t.xbar (s.reg c) ((s.cell c).phys lx)).st = 4) ∧
        ((∃ n < 16384, 32 < (levels.getD n 2048 - 64 * s.codeAt (s.planeBase c ((s.cell c).set lx) 0) (16 * (n / 512)) (n % 512)).natAbs) →
          (t.xbar (s.reg c) ((s.cell c).phys lx)).st = 4)))

/-- Queue pairs and the link: a pair is created from its registers, queue 0 first, and deleted; a doorbell outside the ring is an ERROR; a
window access inside the partition's memory reads or writes it and one outside is counted and changes no memory; when the link is lost every
pair is gone and copies end. -/
def Obligations.QueuesAndTheLink : Prop :=
  ∀ (fn : Pn) (q : Fin 63) (s : State),
    (s.fnUp fn = true → (s.queue fn q).st = 0 → (s.queue fn q).sqLog ≤ 12 → (s.queue fn q).cqLog ≤ 12 →
      (s.queue fn q).vec < (if fn.val = 0 then 64 else 16) → (s.queue fn q).cqBase % 4096 = 0 → (s.queue fn q).coUs ≤ 1000 →
      (q.val ≠ 0 → (s.queue fn 0).st = 0 → Completes (.qCreate fn q) s (fun t => t = s)) ∧
      ((q.val = 0 ∨ (s.queue fn 0).st ≠ 0) → Completes (.qCreate fn q) s (fun t => s.onlyIn t [.funcs, .hostMem] ∧ (t.queue fn q).st = 1 ∧
        (t.queue fn q).head = 0 ∧ (t.queue fn q).sqTail = 0 ∧ (t.func fn).aborted = (s.func fn).aborted.filter (fun e => e.1 != q.val)))) ∧
    (s.fnUp fn = true → (s.queue fn q).st ≠ 0 → Completes (.qDelete fn q) s (fun t => s.onlyIn t [.funcs] ∧ (t.queue fn q).st = 0)) ∧
    (∀ (tail : Nat) (en : List Byte) (host : List (Nat × List Byte)), s.fnUp fn = true → (s.queue fn q).st = 1 →
      (tail < (s.queue fn q).sqLen → Completes (.sqDoorbell fn q tail en host) s (fun t => s.onlyIn t [.funcs, .hostMem] ∧
        (t.queue fn q).sqTail = tail ∧ (t.queue fn q).head = (s.queue fn q).head ∧ (t.queue fn q).st = 1)) ∧
      ((s.queue fn q).sqLen ≤ tail → Completes (.sqDoorbell fn q tail en host) s (fun t => s.onlyIn t [.funcs, .hostMem] ∧
        (t.queue fn q).st = 2))) ∧
    (∀ head : Nat, s.fnUp fn = true → (s.queue fn q).st = 1 → head < (s.queue fn q).cqLen → Completes (.cqHeadDoorbell fn q head) s (fun t =>
      s.onlyIn t [.funcs, .hostMem] ∧ (t.queue fn q).cqHead = head)) ∧
    (s.fnUp fn = true → (s.queue fn q).st = 1 → (s.queue fn q).unsig ≠ 0 → (s.queue fn q).coUs ≠ 0 →
      s.passed (s.queue fn q).unsigAt ((s.queue fn q).coUs * 1000) = true → Completes (.cqCoalesceTimer fn q) s (fun t =>
        s.onlyIn t [.funcs] ∧ (t.queue fn q).unsig = 0 ∧ (t.func fn).irq = (s.func fn).irq ++ [(s.queue fn q).vec])) ∧
    (∀ (off len : Nat) (l : List Byte), s.fnUp fn = true → 0 < len → 0 < l.length →
      (off + len ≤ 2 ^ s.barLog fn → (∀ i < len, s.ownsMem fn ((s.func fn).winBase + off + i) 1 = true) →
        s.badIn ((s.func fn).winBase + off) len = none → Completes (.bar4Access fn off len none) s (fun t => s.onlyIn t [.hif] ∧
          t.hif.rdStatus = 0 ∧ t.hif.rdData = s.rdMem ((s.func fn).winBase + off) len)) ∧
      (off + len ≤ 2 ^ s.barLog fn → (∃ i < len, s.ownsMem fn ((s.func fn).winBase + off + i) 1 = false) →
        Completes (.bar4Access fn off len none) s (fun t => s.onlyIn t [.hif, .gctr, .day, .daySeq] ∧ t.hif.rdStatus = 1 ∧ t.hif.rdData = [])) ∧
      (off + l.length ≤ 2 ^ s.barLog fn → Completes (.bar4Access fn off len (some l)) s (fun t => s.onlyIn t [.mem, .gctr, .day, .daySeq] ∧
        ∀ b : Nat, t.rd8 b = if s.ownsMem fn b 1 = true then (s.wrMem ((s.func fn).winBase + off) l).rd8 b else s.rd8 b))) ∧
    (∀ (bar : Fin 6) (a : Nat), Completes (.poisonedTlp fn bar a) s (fun t => s.onlyIn t [.funcs, .hostMem])) ∧
    (s.hif.up = true →
      Completes .linkLoss s (fun t => s.onlyIn t [.hif, .funcs] ∧ t.hif.up = false ∧ ∀ p k : Nat, (t.queue p k).st = 0 ∧ (t.func p).dma = []) ∧
      Completes .malformedTlp s (fun t => s.onlyIn t [.hif, .funcs] ∧ t.hif.up = false ∧ ∀ p k : Nat, (t.queue p k).st = 0 ∧
        (t.func p).dma = [])) ∧
    Completes .perstDeassert s (fun t => s.onlyIn t [.hif] ∧ t.hif.perst = false ∧ t.hif.up = s.hif.up) ∧
    (s.boot.running = true → Completes .perstAssert s (fun t => s.onlyIn t [.hif, .funcs] ∧ t.hif.perst = true ∧ t.hif.up = false ∧ t.funcs = [])) ∧
    (s.boot.running = false → s.boot.ready = true → s.boot.resetStage = 0 → s.pow.aux = true → s.rack.emerg = false →
      Completes .perstAssert s (fun t => t.hif.perst = true ∧ t.hif.up = false ∧ t.boot.resetStage = 1 ∧ t.boot.ready = false)) ∧
    (∀ rate width : Nat, s.pow.aux = true → s.hif.perst = false → s.hif.up = false → s.boot.ready = true →
      (4 ≤ rate → rate ≤ 6 → (width = 8 ∨ width = 16) → Completes (.pcieLinkUp rate width) s (fun t => s.onlyIn t [.hif, .day, .daySeq] ∧
        t.hif.up = true ∧ t.hif.rate = rate ∧ t.hif.width = width ∧ t.hif.degraded = decide (rate < 6 ∨ width < 16))) ∧
      (rate < 4 → Completes (.pcieLinkUp rate width) s (fun t => s.onlyIn t [.hif] ∧ t.hif.fail = true ∧ t.hif.up = false)))

/-- Registers: the low half of a counter is returned and its high half latched; a function without the user page enabled reads zero; a cell
sample is latched for its reader; a shadow is staged from the record in force, sixteen at most; WIN_BASE takes the value written, on the
window's own boundary; what a map only shows is not written.  Dumps, tag records and the progress word go where the partition's selection
says.  FEED_ID is held. -/
def Obligations.RegistersAnswer : Prop :=
  ∀ (fn : Pn) (s : State),
    (∀ (i : Nat) (v : BitVec 64), s.fnUp fn = true → s.counterFor fn i = some v → Completes (.counterLowRead fn i false) s (fun t =>
      s.onlyIn t [.funcs, .hif] ∧ t.hif.rdData = leBytes 4 v.toNat ∧ tfind (t.func fn).ctrLatch i = some (v.toNat / 2 ^ 32))) ∧
    (∀ i : Nat, s.fnUp fn = true → (s.func fn).userEn = false → Completes (.counterLowRead fn i true) s (fun t =>
      s.onlyIn t [.gctr, .hif] ∧ t.hif.rdData = leBytes 4 0 ∧ t.gctr = (s.pcount fn PEv.hifCounterDenied 1).gctr)) ∧
    (∀ c : Cid, s.fnUp fn = true →
      ((fn.val = 0 ∨ s.owner c = fn) → Completes (.cellSampleRead fn c) s (fun t => s.onlyIn t [.funcs, .hif] ∧
        t.hif.rdData = leBytes 8 (s.readCell c 0) ∧
        tfind (t.func fn).cellLatch c = some ((s.cell c).wait.count, (s.cell c).wait.start, (s.cell c).heartbeat))) ∧
      (fn.val ≠ 0 → s.owner c ≠ fn → Completes (.cellSampleRead fn c) s (fun t => s.onlyIn t [.hif] ∧ t.hif.rdData = leBytes 8 0))) ∧
    (∀ d : DieN, s.hif.up = true → Completes (.monWrIndexRead d) s (fun t => s.onlyIn t [.dies, .hif] ∧
      t.hif.rdData = leBytes 8 (s.die d).wr ∧ (t.die d).latchTime = (s.die d).baseTime)) ∧
    (∀ ty inst : Nat, s.fnUp fn = true → ty < 65536 → inst < 65536 →
      (s.func fn).shadows.any (fun w => w.ty == ty && w.inst == inst) = false →
      ((s.func fn).shadows.length < 16 → Completes (.shadowSel fn ty inst) s (fun t => s.onlyIn t [.funcs] ∧
        (t.func fn).sel = ty + 65536 * inst ∧ (t.func fn).shadows.length = (s.func fn).shadows.length + 1)) ∧
      (16 ≤ (s.func fn).shadows.length → Completes (.shadowSel fn ty inst) s (fun t => s.onlyIn t [.funcs] ∧ (t.func fn).full = true ∧
        (t.func fn).shadows = (s.func fn).shadows))) ∧
    (∀ ty : Nat, s.fnUp fn = true →
      ((s.func fn).shadows.filter (fun w => ty % 65536 == 0xFFFF || w.ty == ty % 65536) = [] → Completes (.commit fn ty) s (fun t =>
        s.onlyIn t [.funcs, .day, .daySeq] ∧ (t.func fn).lastRej = 10)) ∧
      Completes (.commit fn ty) s (fun t => t.recs = (s.commitShadows fn (ty % 65536) false).1.recs)) ∧
    (∀ v : Nat, s.fnUp fn = true → Completes (.registerWrite fn (if fn.val = 0 then 0x10000 else 0) 8 v) s (fun t =>
      s.onlyIn t [.funcs, .day, .daySeq] ∧ (t.func fn).winBase = v % 2 ^ 48 / 2 ^ s.barLog fn * 2 ^ s.barLog fn)) ∧
    (∀ off v : Nat, off ∈ [0, 8, 16, 32, 40, 56, 72, 80] → s.fnUp 0 = true → Completes (.registerWrite 0 off 8 v) s (fun t => t = s)) ∧
    (fn.val ≠ 0 → s.pow.main = true → (s.part fn).selPend = false → selFld (s.part fn).selImg 388 4 ≠ 0 →
      s.time % (selFld (s.part fn).selImg 388 4 * 1000) = 0 →
      (selFld (s.part fn).selImg 384 1 ≠ 1 → Completes (.dumpInstant fn) s (fun t => t = s)) ∧
      (selFld (s.part fn).selImg 384 1 = 1 → (s.part fn).dumpWr - (s.part fn).dumpRd < selFld (s.part fn).selImg 392 4 →
        Completes (.dumpInstant fn) s (fun t => s.onlyIn t [.mem, .parts] ∧ (t.part fn).dumpWr = (s.part fn).dumpWr + 1 ∧
          (t.part fn).dumpSeq = (s.part fn).dumpSeq + 1 ∧ (t.part fn).dumpLost = 0)) ∧
      (selFld (s.part fn).selImg 384 1 = 1 → selFld (s.part fn).selImg 392 4 ≠ 0 → selFld (s.part fn).selImg 385 1 = 0 →
        selFld (s.part fn).selImg 392 4 ≤ (s.part fn).dumpWr - (s.part fn).dumpRd →
        Completes (.dumpInstant fn) s (fun t => s.onlyIn t [.parts, .gctr] ∧ (t.part fn).dumpLost = (s.part fn).dumpLost + 1))) ∧
    (∀ c : Cid, (s.tagReady c = false → Completes (.tagRecordWrite c) s (fun t => t = s)) ∧
      (s.tagReady c = true → selFld (s.part (s.owner c)).selImg 396 4 ≠ 0 → Completes (.tagRecordWrite c) s (fun t =>
        s.onlyIn t [.cells, .mem, .parts] ∧ (t.cell c).tagOpen = false ∧
        (t.part (s.owner c)).tagWr = ((s.part (s.owner c)).tagWr + 1) % 2 ^ 32))) ∧
    Completes (.progressWordSample fn) s (fun t => s.onlyIn t [.parts] ∧ (t.part fn).progHi = (s.part fn).progHi ∧
      (t.part fn).progLo = ((s.cellsOf fn).map (fun c => (s.cell c).heartbeat)).sum % 2 ^ 32) ∧
    (∀ v : Fin 16, Completes (.feedIdChange v) s (fun t => s.onlyIn t [.groom, .day, .daySeq] ∧ t.groom.feedPins = v.val ∧
      t.groom.feed = s.groom.feed))

/-- Bring-up starts at an input rise, unless the converters are latched off; a stage that fails is tried once more and then holds; the first
overrun asks for a power cycle and the next holds; the last stage sets MODULE_READY.  A record requested for the tack store is the one a
later load finds. -/
def Obligations.BringUpRuns : Prop :=
  ∀ (s : State),
    (s.pow.main = false → s.boot.running = false →
      (s.pow.latchedOff = false → Completes .inputRise s (fun t => s.onlyIn t [.time, .pow, .boot, .day, .daySeq] ∧ t.time = 0 ∧
        t.pow.aux = true ∧ t.boot.stage = 1 ∧ t.boot.running = true)) ∧
      (s.pow.latchedOff = true → Completes .inputRise s (fun t => t = s))) ∧
    (s.boot.running = true → s.boot.held = false → s.pow.hold = false →
      (s.boot.stage = 9 → Completes (.bootStageComplete true) s (fun t => t.boot.ready = true ∧ t.boot.running = false)) ∧
      (s.boot.stage = 8 → s.rack.latch = false → Completes (.bootStageComplete true) s (fun t => s.onlyIn t [.boot, .day, .daySeq] ∧
        t.boot.stage = 9)) ∧
      (s.boot.stage = 8 → s.rack.latch = true → Completes (.bootStageComplete true) s (fun t => s.onlyIn t [.boot] ∧ t.boot.held = true)) ∧
      (s.boot.stage = 3 → s.storedOk = false → Completes (.bootStageComplete true) s (fun t => s.onlyIn t [.boot, .groom, .day, .daySeq] ∧
        t.boot.held = true ∧ t.boot.failCause = 2)) ∧
      (s.boot.stage = 4 → s.badSlots Ty.repairMap 0 = true → Completes (.bootStageComplete true) s (fun t =>
        s.onlyIn t [.boot, .groom, .day, .daySeq] ∧ t.boot.held = true ∧ t.boot.failCause = 3)) ∧
      (s.boot.stage = 2 → s.boot.retry = false → Completes (.bootStageComplete false) s (fun t => s.onlyIn t [.boot] ∧ t.boot.retry = true)) ∧
      (s.boot.stage = 2 → s.boot.retry = true → Completes (.bootStageComplete false) s (fun t => t.boot.held = true ∧ t.boot.failCause = 1)) ∧
      (s.boot.stage = 7 → s.boot.retry = true → Completes (.bootStageComplete false) s (fun t => t.boot.memFault = true ∧ t.boot.modFault = true ∧
        t.boot.held = false)) ∧
      (s.boot.stage ≠ 1 → s.boot.overran = false → Completes .bootStageTimeout s (fun t => s.onlyIn t [.boot, .groom, .day, .daySeq] ∧
        t.boot.overran = true ∧ t.groom.pwrReq = true ∧ t.boot.held = false)) ∧
      (s.boot.stage ≠ 1 → s.boot.overran = true → Completes .bootStageTimeout s (fun t => s.onlyIn t [.boot, .groom, .day, .daySeq] ∧
        t.boot.held = true ∧ t.boot.failCause = 4))) ∧
    (∀ (tp inst : Nat) (im : RecImg) (l : List (Nat × Nat × RecImg)), s.groom.writeQ = (tp, inst, im) :: l → s.pow.aux = true →
      Completes .tackStoreWrite s (fun t => s.onlyIn t [.store, .groom] ∧ t.groom.writeQ = l ∧
        (tfind t.store (recKey (tp / 65536) (tp % 65536) inst)).bind Slot.newer = some im ∧
        ∀ k, k ≠ recKey (tp / 65536) (tp % 65536) inst → tfind t.store k = tfind s.store k))

/-- The module tree: a sensor answers its value; an event stands until it is acknowledged; effecter
0x0001 resets the module; an update is one at a time, and is written only where it verifies; the daybook is read from the SEQ asked for, and
its readers are warned once. -/
def Obligations.ModuleTreeAnswers : Prop :=
  ∀ (b : Fin 3) (s : State),
    (∀ id : Nat, s.answers b 4 = true → Completes (.pldmSensorRead b id) s (fun t => s.onlyIn t [.groom] ∧ t.groom.lastBind = b.val ∧
      (∀ v : Nat, s.sensor id = some v → t.groom.resp = s.groom.resp ++ [[b.val, 1, id, 0, v]]) ∧
      (s.sensor id = none → t.groom.resp = s.groom.resp ++ [[b.val, 1, id, 1]]))) ∧
    (∀ id : Nat,
      (∀ e : Nat × Nat × Nat, s.groom.events.find? (fun e => e.1 == id && e.2.2 < 10) = some e → Completes (.platformEventRetry id) s (fun t =>
        s.onlyIn t [.groom] ∧ t.groom.events.length = s.groom.events.length ∧ (id, e.2.1, e.2.2 + 1) ∈ t.groom.events)) ∧
      ((∀ e ∈ s.groom.events, e.1 = id → 10 ≤ e.2.2) → Completes (.platformEventRetry id) s (fun t => t = s))) ∧
    (∀ id : Nat, s.pow.aux = true → Completes (.platformEventAck id) s (fun t => s.onlyIn t [.groom] ∧
      t.groom.events = s.groom.events.filter (fun e => e.1 != id))) ∧
    (∀ eff st : Nat, s.answers b 4 = true →
      ((eff ≠ 1 ∨ (st ≠ 1 ∧ st ≠ 2)) → Completes (.setStateEffecterStates b eff st) s (fun t => s.onlyIn t [.groom])) ∧
      Completes (.setStateEffecterStates b 1 2) s (fun t => s.onlyIn t [.groom] ∧ t.groom.events = s.groom.events.filter (fun e => e.1 != 1)) ∧
      (s.boot.ready = true → s.boot.running = false → s.rack.emerg = false → s.boot.resetStage = 0 →
        Completes (.setStateEffecterStates b 1 1) s (fun t => t.boot.resetStage = 1 ∧ t.boot.ready = false))) ∧
    (∀ (comp : Nat) (data : List Byte), s.answers b 3 = true →
      (s.groom.upd.isSome = true → Completes (.pldmFirmwareUpdate b comp data) s (fun t => s.onlyIn t [.groom, .day, .daySeq] ∧
        t.groom.fw = s.groom.fw ∧ t.groom.pkgs = s.groom.pkgs)) ∧
      (s.groom.upd = none → s.boot.running = false →
        Completes (.pldmFirmwareUpdate b 1 data) s (fun t => s.onlyIn t [.groom, .day, .daySeq] ∧
          (s.imageVerifies (tputs [] 0 data 0) = true → t.groom.fw = tputs [] 0 data 0 ∧ t.groom.fwPend = true) ∧
          (s.imageVerifies (tputs [] 0 data 0) = false → t.groom.fw = s.groom.fw ∧ t.groom.fwPend = s.groom.fwPend)) ∧
        Completes (.pldmFirmwareUpdate b 2 data) s (fun t => s.onlyIn t [.groom, .day, .daySeq]))) ∧
    (s.answers b 3 = true → Completes (.activateFirmware b) s (fun t => s.onlyIn t [.groom] ∧
      t.groom.resp = s.groom.resp ++ [[b.val, 1, 0x1A, b2n s.groom.fwPend]])) ∧
    (∀ seq n : Nat, s.answers b 4 = true → Completes (.readLog b seq n) s (fun t => s.onlyIn t [.groom] ∧
      (1 ≤ n → n ≤ 16 → ∃ l, t.groom.resp = s.groom.resp ++ [b.val :: 0x7E :: 0 :: min n (s.daySeq - 65536 - seq) :: l]) ∧
      ((n = 0 ∨ 16 < n) → t.groom.resp = s.groom.resp ++ [[b.val, 0x7E, 1]]))) ∧
    (s.pow.aux = true → s.groom.highSent = false → (∀ k : Fin 3, tget s.groom.readSeq k 0 + 49152 ≤ s.daySeq) →
      Completes .daybookHighWater s (fun t => s.onlyIn t [.groom] ∧ t.groom.highSent = true ∧ ∃ e ∈ t.groom.events, e.1 = 5))

/-- Attestation: a request before the responder opens is answered NotReady and one out of order with an error, neither changing what has been
negotiated; GET_VERSION begins a negotiation, NEGOTIATE_ALGORITHMS ends it, and the chain, a challenge and measurements are answered after
it. -/
def Obligations.AttestationAnswersInOrder : Prop :=
  ∀ (b : Fin 4) (s : State), s.answers b 3 = true →
    (s.groom.spdm = false → ∀ i : Instr, i ∈ [Instr.spdmGetVersion b, .spdmGetCapabilities b] →
      Completes i s (fun t => s.onlyIn t [.groom] ∧ t.groom.resp = s.groom.resp ++ [[b.val, 5, 0x7F, 0x42]] ∧
        t.groom.spdmVer = s.groom.spdmVer)) ∧
    (s.groom.spdm = true →
      Completes (.spdmGetVersion b) s (fun t => s.onlyIn t [.groom] ∧ t.groom.resp = s.groom.resp ++ [[b.val, 5, 0x04, 0x13]] ∧
        t.groom.spdmVer = 0x13 ∧ t.groom.spdmAlg = false) ∧
      (s.groom.spdmVer = 0x13 → Completes (.spdmGetCapabilities b) s (fun t => s.onlyIn t [.groom] ∧
        t.groom.resp = s.groom.resp ++ [[b.val, 5, 0x61, 1, 1, 1, 1]])) ∧
      (s.groom.spdmVer ≠ 0x13 → Completes (.spdmGetCapabilities b) s (fun t => s.onlyIn t [.groom] ∧
        t.groom.resp = s.groom.resp ++ [[b.val, 5, 0x7F, 0x04]])) ∧
      (∀ x y : Bool, s.groom.spdmVer = 0x13 → Completes (.spdmNegotiateAlgorithms b x y) s (fun t => s.onlyIn t [.groom] ∧
        t.groom.spdmAlg = (x && y))) ∧
      (s.groom.spdmAlg = true → ∀ slot : Nat, slot < 2 →
        Completes (.spdmGetCertificate b slot) s (fun t => s.onlyIn t [.groom] ∧
          t.groom.resp = s.groom.resp ++ [b.val :: 5 :: 0x02 :: slot :: (Config.certChain slot).map BitVec.toNat]) ∧
        (∀ nonce : Nat, Completes (.spdmChallenge b slot nonce) s (fun t => s.onlyIn t [.groom] ∧
          ∃ l, t.groom.resp = s.groom.resp ++ [b.val :: 5 :: 0x03 :: l])) ∧
        (∀ i : Nat, (i ≤ 7 ∨ i = 0xFF) → Completes (.spdmGetMeasurements b i slot) s (fun t => s.onlyIn t [.groom] ∧
          ∃ l, t.groom.resp = s.groom.resp ++ [b.val :: 5 :: 0x60 :: l]))) ∧
      (s.groom.spdmAlg = false → ∀ slot : Nat, Completes (.spdmGetCertificate b slot) s (fun t => s.onlyIn t [.groom] ∧
          t.groom.resp = s.groom.resp ++ [[b.val, 5, 0x7F, 0x04]])))

/-- The mailbox: each command leaves one response, which replaces one unread and is taken by the read; an unknown code is BAD_CMD, and every
command is NOT_READY before stage 0x03.  An image received in order is verified at FW_FINISH. -/
def Obligations.MailboxAnswersOnce : Prop :=
  ∀ (s : State), s.pow.aux = true →
    Completes .getStatus s (fun t => s.onlyIn t [.groom] ∧ t.groom.mbox = some (0 :: (leBytes 1
      (if s.boot.held = true then 2 else if s.boot.modFault = true then 3 else if s.boot.ready = true then 1 else 0) ++
      leBytes 1 s.boot.stage ++ leBytes 1 s.boot.failCause).map BitVec.toNat)) ∧
    (s.boot.stage < 3 → s.boot.ready = false → ∀ i : Instr, i ∈ [Instr.getIdentity, .getPower, .getThermal, .getAlert, .fwFinish] →
      Completes i s (fun t => s.onlyIn t [.groom] ∧ t.groom.mbox = some [4])) ∧
    (∀ l : List Nat, s.groom.mbox = some l → Completes .mailboxReadResponse s (fun t => s.onlyIn t [.groom] ∧ t.groom.mbox = none ∧
      t.groom.resp = s.groom.resp ++ [1 :: 0xFF :: l])) ∧
    (3 ≤ s.boot.stage →
      Completes .getIdentity s (fun t => s.onlyIn t [.groom] ∧ ∃ l, t.groom.mbox = some (0 :: 0x4C :: 0x48 :: 0x2D :: 0x39 :: 0x36 :: 0x30 :: 0x38 :: l)) ∧
      (∀ (id v : Nat), s.sensor id = some v → Completes (.readSensor id) s (fun t => s.onlyIn t [.groom] ∧
        t.groom.mbox = some (0 :: (leBytes 4 v).map BitVec.toNat))) ∧
      (∀ id : Nat, s.sensor id = none → Completes (.readSensor id) s (fun t => s.onlyIn t [.groom] ∧ t.groom.mbox = some [3])) ∧
      (∀ seq n : Nat, (n = 0 ∨ 4 < n) → Completes (.mailboxReadLog seq n) s (fun t => s.onlyIn t [.groom] ∧ t.groom.mbox = some [3])) ∧
      (∀ seq n : Nat, 1 ≤ n → n ≤ 4 → Completes (.mailboxReadLog seq n) s (fun t => s.onlyIn t [.groom] ∧
        ∃ l, t.groom.mbox = some (0 :: (leBytes 4 (min n (s.daySeq - 65536 - seq))).map BitVec.toNat ++ l))) ∧
      Completes .getPower s (fun t => s.onlyIn t [.groom] ∧ t.groom.mbox = some (0 :: (leBytes 4 s.pow.vin ++ leBytes 4 s.pow.iin ++
        leBytes 4 s.pow.power ++ leBytes 4 s.pow.limit).map BitVec.toNat)) ∧
      Completes .getThermal s (fun t => s.onlyIn t [.groom] ∧ t.groom.mbox = some (0 :: ((List.range 4).flatMap (fun d =>
        leBytes 4 (unsgn 32 (s.die d).hottest))).map BitVec.toNat)) ∧
      (s.groom.events = [] → Completes .getAlert s (fun t => s.onlyIn t [.groom] ∧ t.groom.mbox = some [0, 0])) ∧
      (∀ m : Nat, Completes (.clearAlert m) s (fun t => s.onlyIn t [.groom] ∧ t.groom.mbox = some [0] ∧
        t.groom.events = s.groom.events.filter (fun e => decide (8 ≤ e.1) || !bit m e.1))) ∧
      (s.boot.ready = true → s.boot.running = false → s.rack.emerg = false → s.boot.resetStage = 0 →
        Completes (.requestReset 1) s (fun t => t.boot.resetStage = 1 ∧ t.boot.ready = false)) ∧
      (∀ v : Nat, v ≠ 1 → Completes (.requestReset v) s (fun t => s.onlyIn t [.groom] ∧ t.groom.mbox = some [3])) ∧
      (∀ n : Nat, s.groom.upd = none → 0 < n → n ≤ 33558528 → Completes (.fwStart n) s (fun t => s.onlyIn t [.groom] ∧
        t.groom.upd = some 257 ∧ t.groom.updNext = 0 ∧ t.groom.updLen = n ∧ t.groom.mbox = some [0])) ∧
      (∀ n : Nat, s.groom.upd.isSome = true → Completes (.fwStart n) s (fun t => s.onlyIn t [.groom] ∧ t.groom.mbox = some [1] ∧
        t.groom.updData = s.groom.updData)) ∧
      (∀ (off : Nat) (data : List Byte), s.groom.upd.isSome = true →
        (off = s.groom.updNext → data ≠ [] → data.length ≤ 32 → off + data.length ≤ s.groom.updLen →
          Completes (.fwData off data) s (fun t => s.onlyIn t [.groom] ∧ t.groom.updNext = off + data.length ∧
            t.groom.updData = tputs s.groom.updData off data 0 ∧ t.groom.mbox = some [0])) ∧
        (off ≠ s.groom.updNext → Completes (.fwData off data) s (fun t => s.onlyIn t [.groom] ∧ t.groom.mbox = some [3] ∧
          t.groom.updNext = s.groom.updNext))) ∧
      (s.groom.upd.isSome = true → s.groom.updNext = s.groom.updLen → s.boot.running = false →
        Completes .fwFinish s (fun t => s.onlyIn t [.groom, .day, .daySeq] ∧ t.groom.upd = none ∧
          (s.imageVerifies s.groom.updData = true → t.groom.fw = s.groom.updData ∧ t.groom.mbox = some [0, 0]) ∧
          (s.imageVerifies s.groom.updData = false → t.groom.fw = s.groom.fw ∧ t.groom.mbox = some [0, 1]))) ∧
      (∀ code : Nat, (code = 0 ∨ 12 < code) → code ≠ 15 → code ≠ 255 → Completes (.mailboxBadCmd code) s (fun t => s.onlyIn t [.groom] ∧
        t.groom.mbox = some [2])))

/-- The rack: a press is recognised, and a short one starts a withdrawal on a ready module; the secured step, or its timeout, lets it ask
to leave; a touch opens a window of 10 s; the latch starts the emergency sequence in an epoch and
closing it lets the module join again; the flashes and the wait for the daybook's reader end after their times. -/
def Obligations.RackInputsAct : Prop :=
  ∀ (s : State),
    (s.pow.aux = true → s.rack.pressed = false →
      (s.rack.latchAt = 0 → Completes .svcPress s (fun t => s.onlyIn t [.rack, .gctr] ∧ t.rack.pressed = true ∧ t.rack.pressAt = s.time)) ∧
      (s.rack.latchAt ≠ 0 → s.time ≤ s.rack.latchAt - 1 + 21000000 → Completes .svcPress s (fun t => s.onlyIn t [.gctr, .day, .daySeq]))) ∧
    (s.rack.pressed = true → s.rack.longDone = false → s.passed s.rack.pressAt 50000000 = true → s.passed s.rack.pressAt 5000000000 = false →
      (s.boot.ready = false → Completes .shortPress s (fun t => s.onlyIn t [.rack, .day, .daySeq] ∧ t.rack.flashAmber = true ∧
        t.rack.withdraw = s.rack.withdraw)) ∧
      (s.boot.ready = true → s.rack.withdraw = 0 → s.fab.left_ = false → s.rackFld 0 1 ≠ 0 → Completes .shortPress s (fun t =>
        s.onlyIn t [.rack, .day, .daySeq, .gctr, .parts, .fab] ∧ t.rack.withdraw = 1 ∧ t.rack.wdAt = s.time ∧ t.rack.pressed = false)) ∧
      (s.boot.ready = true → s.rack.withdraw ≠ 0 → Completes .shortPress s (fun t => s.onlyIn t [.rack] ∧ t.rack.pressed = false ∧
        t.rack.withdraw = s.rack.withdraw))) ∧
    (s.rack.withdraw = 1 → s.fab.inSystem = true → (List.range 16).any s.joined = true →
      (s.rack.secured = true → s.fab.coord ≠ s.fab.nodeId → Completes .withdrawSecured s (fun t => s.onlyIn t [.rack, .fab] ∧
        t.rack.withdraw = 2 ∧ s.sent t [[0x15, s.fab.coord, s.fab.epoch, 0]])) ∧
      (s.rack.secured = false → s.snapParts ≠ [] → s.passed s.rack.wdAt (s.rackFld 2 2 * 1000000000) = false →
        Completes .withdrawSecured s (fun t => t = s))) ∧
    (s.pow.aux = true → Completes .handleTouch s (fun t => s.onlyIn t [.rack, .gctr, .parts, .fab] ∧ t.rack.touch = true ∧
      t.rack.touchAt = s.time)) ∧
    (s.rack.touch = true → s.passed s.rack.touchAt 10000000000 = true → Completes .touchLapse s (fun t => s.onlyIn t [.rack] ∧
      t.rack.touch = false)) ∧
    (s.pow.aux = true → s.rack.latch = false → s.boot.running = false →
      (s.fab.inSystem = false → Completes .latchOpen s (fun t => s.onlyIn t [.rack, .gctr, .day, .daySeq] ∧ t.rack.latch = true ∧
        t.rack.touch = false)) ∧
      (s.boot.ready = true → s.fab.inSystem = true → s.fab.minority = false → s.fab.left_ = false → s.rack.emerg = false →
        Completes .latchOpen s (fun t => t.rack.latch = true ∧ t.rack.emerg = true ∧ t.rack.emergAt = s.time))) ∧
    (s.rack.latch = true →
      (s.boot.running = true → s.boot.held = true → s.boot.failCause = 0 → Completes .latchClosed s (fun t =>
        t.rack.latch = false ∧ t.boot.stage = s.boot.stage + 1 ∧ t.boot.held = false)) ∧
      (s.boot.running = false → Completes .latchClosed s (fun t => s.onlyIn t [.rack, .fab] ∧ t.rack.latch = false ∧ t.fab.left_ = false))) ∧
    (∀ t0 : Nat, s.rack.safeSince = some t0 → s.idleOut = true → s.passed t0 (s.rackFld 4 2 * 1000000000) = true →
      Completes .safeLogWaitExpiry s (fun t => s.onlyIn t [.rack] ∧ t.rack.logWaived = true)) ∧
    (s.rack.flashAmber = true → s.passed s.rack.flashAt 2000000000 = true → Completes .ledFlashEnd s (fun t => s.onlyIn t [.rack] ∧
      t.rack.flashAmber = false)) ∧
    (s.rack.flashAmber = false → s.rack.flashBlue = true → s.passed s.rack.flashAt 1000000000 = true → Completes .ledFlashEnd s (fun t =>
      s.onlyIn t [.rack] ∧ t.rack.flashBlue = false))

/-- The supervisor's expiry enters the daybook and asks for a power cycle by the pin alone (R470).  The endpoint ID of each of the three
bindings is 0 at reset, and is kept by the binding it is assigned on (R471).  A long press cancels a withdrawal that has not asked to leave, is
logged, and leaves the snapshot it requested; at any other time it is logged and refused and changes nothing else (R492). -/
def Obligations.SupervisorEndpointsAndLongPress : Prop :=
  ∀ (b : Fin 3) (s : State),
    (s.pow.aux = true → 2 ≤ s.boot.stage → Completes .supervisorExpiry s (fun t => s.onlyIn t [.groom, .day, .daySeq] ∧
      t.groom.pwrReq = true ∧ t.groom.events = s.groom.events ∧ t.day = ((s.log 0 Db.supervisor 0).log 0 Db.powerCycleRequest 2).day)) ∧
    tget State.reset.groom.eid b 0 = 0 ∧
    (∀ eid : Nat, s.answers b 2 = true → Completes (.setEndpointId b eid) s (fun t => s.onlyIn t [.groom] ∧
      tget t.groom.eid b 0 = eid % 256 ∧ ∀ k : Fin 3, k ≠ b → tget t.groom.eid k 0 = tget s.groom.eid k 0)) ∧
    (s.rack.pressed = true → s.rack.longDone = false → s.passed s.rack.pressAt 5000000000 = true →
      (s.rack.withdraw = 1 → Completes .longPress s (fun t => s.onlyIn t [.rack, .day, .daySeq, .gctr] ∧ t.rack.withdraw = 0 ∧
        t.rack.flashBlue = true ∧ t.day = (s.logRack 2).day)) ∧
      (s.rack.withdraw ≠ 1 → Completes .longPress s (fun t => s.onlyIn t [.rack, .day, .daySeq] ∧ t.day = (s.logRack 3).day ∧
        t.rack = { s.rack with longDone := true, flashAmber := true, flashBlue := false, flashAt := s.time })))
end

