-- ==== Sys2Proof/Laws/State.lean ====
section
/-! SUPPORT. Laws/State: for every named update of the state, one lemma a field it leaves alone (by rfl), and what the accessors
read after it. -/

namespace Sys2Proof.Machine

/-! ### setCell -/

@[simp] theorem State.setCell_pending (s : State) (c : Nat) (v : Cell) : (s.setCell c v).pending = s.pending := rfl
@[simp] theorem State.setCell_time (s : State) (c : Nat) (v : Cell) : (s.setCell c v).time = s.time := rfl
@[simp] theorem State.setCell_phys (s : State) (c : Nat) (v : Cell) : (s.setCell c v).phys = s.phys := rfl
@[simp] theorem State.setCell_repair (s : State) (c : Nat) (v : Cell) : (s.setCell c v).repair = s.repair := rfl
@[simp] theorem State.setCell_parts (s : State) (c : Nat) (v : Cell) : (s.setCell c v).parts = s.parts := rfl
@[simp] theorem State.setCell_funcs (s : State) (c : Nat) (v : Cell) : (s.setCell c v).funcs = s.funcs := rfl
@[simp] theorem State.setCell_recs (s : State) (c : Nat) (v : Cell) : (s.setCell c v).recs = s.recs := rfl
@[simp] theorem State.setCell_store (s : State) (c : Nat) (v : Cell) : (s.setCell c v).store = s.store := rfl
@[simp] theorem State.setCell_mem (s : State) (c : Nat) (v : Cell) : (s.setCell c v).mem = s.mem := rfl
@[simp] theorem State.setCell_badMem (s : State) (c : Nat) (v : Cell) : (s.setCell c v).badMem = s.badMem := rfl
@[simp] theorem State.setCell_hostMem (s : State) (c : Nat) (v : Cell) : (s.setCell c v).hostMem = s.hostMem := rfl
@[simp] theorem State.setCell_fab (s : State) (c : Nat) (v : Cell) : (s.setCell c v).fab = s.fab := rfl
@[simp] theorem State.setCell_dies (s : State) (c : Nat) (v : Cell) : (s.setCell c v).dies = s.dies := rfl
@[simp] theorem State.setCell_pow (s : State) (c : Nat) (v : Cell) : (s.setCell c v).pow = s.pow := rfl
@[simp] theorem State.setCell_boot (s : State) (c : Nat) (v : Cell) : (s.setCell c v).boot = s.boot := rfl
@[simp] theorem State.setCell_hif (s : State) (c : Nat) (v : Cell) : (s.setCell c v).hif = s.hif := rfl
@[simp] theorem State.setCell_groom (s : State) (c : Nat) (v : Cell) : (s.setCell c v).groom = s.groom := rfl
@[simp] theorem State.setCell_day (s : State) (c : Nat) (v : Cell) : (s.setCell c v).day = s.day := rfl
@[simp] theorem State.setCell_daySeq (s : State) (c : Nat) (v : Cell) : (s.setCell c v).daySeq = s.daySeq := rfl
@[simp] theorem State.setCell_rack (s : State) (c : Nat) (v : Cell) : (s.setCell c v).rack = s.rack := rfl
@[simp] theorem State.setCell_gctr (s : State) (c : Nat) (v : Cell) : (s.setCell c v).gctr = s.gctr := rfl
@[simp] theorem State.setCell_phy (s : State) (c : Nat) (v : Cell) (j : Nat) : (s.setCell c v).phy j = s.phy j := rfl
@[simp] theorem State.setCell_part (s : State) (c : Nat) (v : Cell) (j : Nat) : (s.setCell c v).part j = s.part j := rfl
@[simp] theorem State.setCell_func (s : State) (c : Nat) (v : Cell) (j : Nat) : (s.setCell c v).func j = s.func j := rfl
@[simp] theorem State.setCell_die (s : State) (c : Nat) (v : Cell) (j : Nat) : (s.setCell c v).die j = s.die j := rfl
@[simp] theorem State.setCell_port (s : State) (c : Nat) (v : Cell) (j : Nat) : (s.setCell c v).port j = s.port j := rfl
@[simp] theorem State.setCell_grp (s : State) (c : Nat) (v : Cell) (j : Nat) : (s.setCell c v).grp j = s.grp j := rfl
@[simp] theorem State.setCell_reg (s : State) (c : Nat) (v : Cell) (j : Nat) : (s.setCell c v).reg j = s.reg j := rfl
@[simp] theorem State.setCell_owner (s : State) (c : Nat) (v : Cell) (j : Nat) : (s.setCell c v).owner j = s.owner j := rfl
@[simp] theorem State.setCell_rd8 (s : State) (c : Nat) (v : Cell) (j : Nat) : (s.setCell c v).rd8 j = s.rd8 j := rfl

/-! ### modCell -/

@[simp] theorem State.modCell_pending (s : State) (c : Nat) (f : Cell → Cell) : (s.modCell c f).pending = s.pending := rfl
@[simp] theorem State.modCell_time (s : State) (c : Nat) (f : Cell → Cell) : (s.modCell c f).time = s.time := rfl
@[simp] theorem State.modCell_phys (s : State) (c : Nat) (f : Cell → Cell) : (s.modCell c f).phys = s.phys := rfl
@[simp] theorem State.modCell_repair (s : State) (c : Nat) (f : Cell → Cell) : (s.modCell c f).repair = s.repair := rfl
@[simp] theorem State.modCell_parts (s : State) (c : Nat) (f : Cell → Cell) : (s.modCell c f).parts = s.parts := rfl
@[simp] theorem State.modCell_funcs (s : State) (c : Nat) (f : Cell → Cell) : (s.modCell c f).funcs = s.funcs := rfl
@[simp] theorem State.modCell_recs (s : State) (c : Nat) (f : Cell → Cell) : (s.modCell c f).recs = s.recs := rfl
@[simp] theorem State.modCell_store (s : State) (c : Nat) (f : Cell → Cell) : (s.modCell c f).store = s.store := rfl
@[simp] theorem State.modCell_mem (s : State) (c : Nat) (f : Cell → Cell) : (s.modCell c f).mem = s.mem := rfl
@[simp] theorem State.modCell_badMem (s : State) (c : Nat) (f : Cell → Cell) : (s.modCell c f).badMem = s.badMem := rfl
@[simp] theorem State.modCell_hostMem (s : State) (c : Nat) (f : Cell → Cell) : (s.modCell c f).hostMem = s.hostMem := rfl
@[simp] theorem State.modCell_fab (s : State) (c : Nat) (f : Cell → Cell) : (s.modCell c f).fab = s.fab := rfl
@[simp] theorem State.modCell_dies (s : State) (c : Nat) (f : Cell → Cell) : (s.modCell c f).dies = s.dies := rfl
@[simp] theorem State.modCell_pow (s : State) (c : Nat) (f : Cell → Cell) : (s.modCell c f).pow = s.pow := rfl
@[simp] theorem State.modCell_boot (s : State) (c : Nat) (f : Cell → Cell) : (s.modCell c f).boot = s.boot := rfl
@[simp] theorem State.modCell_hif (s : State) (c : Nat) (f : Cell → Cell) : (s.modCell c f).hif = s.hif := rfl
@[simp] theorem State.modCell_groom (s : State) (c : Nat) (f : Cell → Cell) : (s.modCell c f).groom = s.groom := rfl
@[simp] theorem State.modCell_day (s : State) (c : Nat) (f : Cell → Cell) : (s.modCell c f).day = s.day := rfl
@[simp] theorem State.modCell_daySeq (s : State) (c : Nat) (f : Cell → Cell) : (s.modCell c f).daySeq = s.daySeq := rfl
@[simp] theorem State.modCell_rack (s : State) (c : Nat) (f : Cell → Cell) : (s.modCell c f).rack = s.rack := rfl
@[simp] theorem State.modCell_gctr (s : State) (c : Nat) (f : Cell → Cell) : (s.modCell c f).gctr = s.gctr := rfl
@[simp] theorem State.modCell_phy (s : State) (c : Nat) (f : Cell → Cell) (j : Nat) : (s.modCell c f).phy j = s.phy j := rfl
@[simp] theorem State.modCell_part (s : State) (c : Nat) (f : Cell → Cell) (j : Nat) : (s.modCell c f).part j = s.part j := rfl
@[simp] theorem State.modCell_func (s : State) (c : Nat) (f : Cell → Cell) (j : Nat) : (s.modCell c f).func j = s.func j := rfl
@[simp] theorem State.modCell_die (s : State) (c : Nat) (f : Cell → Cell) (j : Nat) : (s.modCell c f).die j = s.die j := rfl
@[simp] theorem State.modCell_port (s : State) (c : Nat) (f : Cell → Cell) (j : Nat) : (s.modCell c f).port j = s.port j := rfl
@[simp] theorem State.modCell_grp (s : State) (c : Nat) (f : Cell → Cell) (j : Nat) : (s.modCell c f).grp j = s.grp j := rfl
@[simp] theorem State.modCell_reg (s : State) (c : Nat) (f : Cell → Cell) (j : Nat) : (s.modCell c f).reg j = s.reg j := rfl
@[simp] theorem State.modCell_owner (s : State) (c : Nat) (f : Cell → Cell) (j : Nat) : (s.modCell c f).owner j = s.owner j := rfl
@[simp] theorem State.modCell_rd8 (s : State) (c : Nat) (f : Cell → Cell) (j : Nat) : (s.modCell c f).rd8 j = s.rd8 j := rfl

/-! ### modPhy -/

@[simp] theorem State.modPhy_pending (s : State) (r : Nat) (f : Phys → Phys) : (s.modPhy r f).pending = s.pending := rfl
@[simp] theorem State.modPhy_time (s : State) (r : Nat) (f : Phys → Phys) : (s.modPhy r f).time = s.time := rfl
@[simp] theorem State.modPhy_cells (s : State) (r : Nat) (f : Phys → Phys) : (s.modPhy r f).cells = s.cells := rfl
@[simp] theorem State.modPhy_repair (s : State) (r : Nat) (f : Phys → Phys) : (s.modPhy r f).repair = s.repair := rfl
@[simp] theorem State.modPhy_parts (s : State) (r : Nat) (f : Phys → Phys) : (s.modPhy r f).parts = s.parts := rfl
@[simp] theorem State.modPhy_funcs (s : State) (r : Nat) (f : Phys → Phys) : (s.modPhy r f).funcs = s.funcs := rfl
@[simp] theorem State.modPhy_recs (s : State) (r : Nat) (f : Phys → Phys) : (s.modPhy r f).recs = s.recs := rfl
@[simp] theorem State.modPhy_store (s : State) (r : Nat) (f : Phys → Phys) : (s.modPhy r f).store = s.store := rfl
@[simp] theorem State.modPhy_mem (s : State) (r : Nat) (f : Phys → Phys) : (s.modPhy r f).mem = s.mem := rfl
@[simp] theorem State.modPhy_badMem (s : State) (r : Nat) (f : Phys → Phys) : (s.modPhy r f).badMem = s.badMem := rfl
@[simp] theorem State.modPhy_hostMem (s : State) (r : Nat) (f : Phys → Phys) : (s.modPhy r f).hostMem = s.hostMem := rfl
@[simp] theorem State.modPhy_fab (s : State) (r : Nat) (f : Phys → Phys) : (s.modPhy r f).fab = s.fab := rfl
@[simp] theorem State.modPhy_dies (s : State) (r : Nat) (f : Phys → Phys) : (s.modPhy r f).dies = s.dies := rfl
@[simp] theorem State.modPhy_pow (s : State) (r : Nat) (f : Phys → Phys) : (s.modPhy r f).pow = s.pow := rfl
@[simp] theorem State.modPhy_boot (s : State) (r : Nat) (f : Phys → Phys) : (s.modPhy r f).boot = s.boot := rfl
@[simp] theorem State.modPhy_hif (s : State) (r : Nat) (f : Phys → Phys) : (s.modPhy r f).hif = s.hif := rfl
@[simp] theorem State.modPhy_groom (s : State) (r : Nat) (f : Phys → Phys) : (s.modPhy r f).groom = s.groom := rfl
@[simp] theorem State.modPhy_day (s : State) (r : Nat) (f : Phys → Phys) : (s.modPhy r f).day = s.day := rfl
@[simp] theorem State.modPhy_daySeq (s : State) (r : Nat) (f : Phys → Phys) : (s.modPhy r f).daySeq = s.daySeq := rfl
@[simp] theorem State.modPhy_rack (s : State) (r : Nat) (f : Phys → Phys) : (s.modPhy r f).rack = s.rack := rfl
@[simp] theorem State.modPhy_gctr (s : State) (r : Nat) (f : Phys → Phys) : (s.modPhy r f).gctr = s.gctr := rfl
@[simp] theorem State.modPhy_cell (s : State) (r : Nat) (f : Phys → Phys) (j : Nat) : (s.modPhy r f).cell j = s.cell j := rfl
@[simp] theorem State.modPhy_part (s : State) (r : Nat) (f : Phys → Phys) (j : Nat) : (s.modPhy r f).part j = s.part j := rfl
@[simp] theorem State.modPhy_func (s : State) (r : Nat) (f : Phys → Phys) (j : Nat) : (s.modPhy r f).func j = s.func j := rfl
@[simp] theorem State.modPhy_die (s : State) (r : Nat) (f : Phys → Phys) (j : Nat) : (s.modPhy r f).die j = s.die j := rfl
@[simp] theorem State.modPhy_port (s : State) (r : Nat) (f : Phys → Phys) (j : Nat) : (s.modPhy r f).port j = s.port j := rfl
@[simp] theorem State.modPhy_grp (s : State) (r : Nat) (f : Phys → Phys) (j : Nat) : (s.modPhy r f).grp j = s.grp j := rfl
@[simp] theorem State.modPhy_reg (s : State) (r : Nat) (f : Phys → Phys) (j : Nat) : (s.modPhy r f).reg j = s.reg j := rfl
@[simp] theorem State.modPhy_owner (s : State) (r : Nat) (f : Phys → Phys) (j : Nat) : (s.modPhy r f).owner j = s.owner j := rfl
@[simp] theorem State.modPhy_rd8 (s : State) (r : Nat) (f : Phys → Phys) (j : Nat) : (s.modPhy r f).rd8 j = s.rd8 j := rfl

/-! ### modXbar -/

@[simp] theorem State.modXbar_pending (s : State) (r x : Nat) (f : Xbar → Xbar) : (s.modXbar r x f).pending = s.pending := rfl
@[simp] theorem State.modXbar_time (s : State) (r x : Nat) (f : Xbar → Xbar) : (s.modXbar r x f).time = s.time := rfl
@[simp] theorem State.modXbar_cells (s : State) (r x : Nat) (f : Xbar → Xbar) : (s.modXbar r x f).cells = s.cells := rfl
@[simp] theorem State.modXbar_repair (s : State) (r x : Nat) (f : Xbar → Xbar) : (s.modXbar r x f).repair = s.repair := rfl
@[simp] theorem State.modXbar_parts (s : State) (r x : Nat) (f : Xbar → Xbar) : (s.modXbar r x f).parts = s.parts := rfl
@[simp] theorem State.modXbar_funcs (s : State) (r x : Nat) (f : Xbar → Xbar) : (s.modXbar r x f).funcs = s.funcs := rfl
@[simp] theorem State.modXbar_recs (s : State) (r x : Nat) (f : Xbar → Xbar) : (s.modXbar r x f).recs = s.recs := rfl
@[simp] theorem State.modXbar_store (s : State) (r x : Nat) (f : Xbar → Xbar) : (s.modXbar r x f).store = s.store := rfl
@[simp] theorem State.modXbar_mem (s : State) (r x : Nat) (f : Xbar → Xbar) : (s.modXbar r x f).mem = s.mem := rfl
@[simp] theorem State.modXbar_badMem (s : State) (r x : Nat) (f : Xbar → Xbar) : (s.modXbar r x f).badMem = s.badMem := rfl
@[simp] theorem State.modXbar_hostMem (s : State) (r x : Nat) (f : Xbar → Xbar) : (s.modXbar r x f).hostMem = s.hostMem := rfl
@[simp] theorem State.modXbar_fab (s : State) (r x : Nat) (f : Xbar → Xbar) : (s.modXbar r x f).fab = s.fab := rfl
@[simp] theorem State.modXbar_dies (s : State) (r x : Nat) (f : Xbar → Xbar) : (s.modXbar r x f).dies = s.dies := rfl
@[simp] theorem State.modXbar_pow (s : State) (r x : Nat) (f : Xbar → Xbar) : (s.modXbar r x f).pow = s.pow := rfl
@[simp] theorem State.modXbar_boot (s : State) (r x : Nat) (f : Xbar → Xbar) : (s.modXbar r x f).boot = s.boot := rfl
@[simp] theorem State.modXbar_hif (s : State) (r x : Nat) (f : Xbar → Xbar) : (s.modXbar r x f).hif = s.hif := rfl
@[simp] theorem State.modXbar_groom (s : State) (r x : Nat) (f : Xbar → Xbar) : (s.modXbar r x f).groom = s.groom := rfl
@[simp] theorem State.modXbar_day (s : State) (r x : Nat) (f : Xbar → Xbar) : (s.modXbar r x f).day = s.day := rfl
@[simp] theorem State.modXbar_daySeq (s : State) (r x : Nat) (f : Xbar → Xbar) : (s.modXbar r x f).daySeq = s.daySeq := rfl
@[simp] theorem State.modXbar_rack (s : State) (r x : Nat) (f : Xbar → Xbar) : (s.modXbar r x f).rack = s.rack := rfl
@[simp] theorem State.modXbar_gctr (s : State) (r x : Nat) (f : Xbar → Xbar) : (s.modXbar r x f).gctr = s.gctr := rfl
@[simp] theorem State.modXbar_cell (s : State) (r x : Nat) (f : Xbar → Xbar) (j : Nat) : (s.modXbar r x f).cell j = s.cell j := rfl
@[simp] theorem State.modXbar_part (s : State) (r x : Nat) (f : Xbar → Xbar) (j : Nat) : (s.modXbar r x f).part j = s.part j := rfl
@[simp] theorem State.modXbar_func (s : State) (r x : Nat) (f : Xbar → Xbar) (j : Nat) : (s.modXbar r x f).func j = s.func j := rfl
@[simp] theorem State.modXbar_die (s : State) (r x : Nat) (f : Xbar → Xbar) (j : Nat) : (s.modXbar r x f).die j = s.die j := rfl
@[simp] theorem State.modXbar_port (s : State) (r x : Nat) (f : Xbar → Xbar) (j : Nat) : (s.modXbar r x f).port j = s.port j := rfl
@[simp] theorem State.modXbar_grp (s : State) (r x : Nat) (f : Xbar → Xbar) (j : Nat) : (s.modXbar r x f).grp j = s.grp j := rfl
@[simp] theorem State.modXbar_reg (s : State) (r x : Nat) (f : Xbar → Xbar) (j : Nat) : (s.modXbar r x f).reg j = s.reg j := rfl
@[simp] theorem State.modXbar_owner (s : State) (r x : Nat) (f : Xbar → Xbar) (j : Nat) : (s.modXbar r x f).owner j = s.owner j := rfl
@[simp] theorem State.modXbar_rd8 (s : State) (r x : Nat) (f : Xbar → Xbar) (j : Nat) : (s.modXbar r x f).rd8 j = s.rd8 j := rfl

/-! ### modPart -/

@[simp] theorem State.modPart_pending (s : State) (p : Nat) (f : Part → Part) : (s.modPart p f).pending = s.pending := rfl
@[simp] theorem State.modPart_time (s : State) (p : Nat) (f : Part → Part) : (s.modPart p f).time = s.time := rfl
@[simp] theorem State.modPart_cells (s : State) (p : Nat) (f : Part → Part) : (s.modPart p f).cells = s.cells := rfl
@[simp] theorem State.modPart_phys (s : State) (p : Nat) (f : Part → Part) : (s.modPart p f).phys = s.phys := rfl
@[simp] theorem State.modPart_repair (s : State) (p : Nat) (f : Part → Part) : (s.modPart p f).repair = s.repair := rfl
@[simp] theorem State.modPart_funcs (s : State) (p : Nat) (f : Part → Part) : (s.modPart p f).funcs = s.funcs := rfl
@[simp] theorem State.modPart_recs (s : State) (p : Nat) (f : Part → Part) : (s.modPart p f).recs = s.recs := rfl
@[simp] theorem State.modPart_store (s : State) (p : Nat) (f : Part → Part) : (s.modPart p f).store = s.store := rfl
@[simp] theorem State.modPart_mem (s : State) (p : Nat) (f : Part → Part) : (s.modPart p f).mem = s.mem := rfl
@[simp] theorem State.modPart_badMem (s : State) (p : Nat) (f : Part → Part) : (s.modPart p f).badMem = s.badMem := rfl
@[simp] theorem State.modPart_hostMem (s : State) (p : Nat) (f : Part → Part) : (s.modPart p f).hostMem = s.hostMem := rfl
@[simp] theorem State.modPart_fab (s : State) (p : Nat) (f : Part → Part) : (s.modPart p f).fab = s.fab := rfl
@[simp] theorem State.modPart_dies (s : State) (p : Nat) (f : Part → Part) : (s.modPart p f).dies = s.dies := rfl
@[simp] theorem State.modPart_pow (s : State) (p : Nat) (f : Part → Part) : (s.modPart p f).pow = s.pow := rfl
@[simp] theorem State.modPart_boot (s : State) (p : Nat) (f : Part → Part) : (s.modPart p f).boot = s.boot := rfl
@[simp] theorem State.modPart_hif (s : State) (p : Nat) (f : Part → Part) : (s.modPart p f).hif = s.hif := rfl
@[simp] theorem State.modPart_groom (s : State) (p : Nat) (f : Part → Part) : (s.modPart p f).groom = s.groom := rfl
@[simp] theorem State.modPart_day (s : State) (p : Nat) (f : Part → Part) : (s.modPart p f).day = s.day := rfl
@[simp] theorem State.modPart_daySeq (s : State) (p : Nat) (f : Part → Part) : (s.modPart p f).daySeq = s.daySeq := rfl
@[simp] theorem State.modPart_rack (s : State) (p : Nat) (f : Part → Part) : (s.modPart p f).rack = s.rack := rfl
@[simp] theorem State.modPart_gctr (s : State) (p : Nat) (f : Part → Part) : (s.modPart p f).gctr = s.gctr := rfl
@[simp] theorem State.modPart_cell (s : State) (p : Nat) (f : Part → Part) (j : Nat) : (s.modPart p f).cell j = s.cell j := rfl
@[simp] theorem State.modPart_phy (s : State) (p : Nat) (f : Part → Part) (j : Nat) : (s.modPart p f).phy j = s.phy j := rfl
@[simp] theorem State.modPart_func (s : State) (p : Nat) (f : Part → Part) (j : Nat) : (s.modPart p f).func j = s.func j := rfl
@[simp] theorem State.modPart_die (s : State) (p : Nat) (f : Part → Part) (j : Nat) : (s.modPart p f).die j = s.die j := rfl
@[simp] theorem State.modPart_port (s : State) (p : Nat) (f : Part → Part) (j : Nat) : (s.modPart p f).port j = s.port j := rfl
@[simp] theorem State.modPart_grp (s : State) (p : Nat) (f : Part → Part) (j : Nat) : (s.modPart p f).grp j = s.grp j := rfl
@[simp] theorem State.modPart_reg (s : State) (p : Nat) (f : Part → Part) (j : Nat) : (s.modPart p f).reg j = s.reg j := rfl
@[simp] theorem State.modPart_owner (s : State) (p : Nat) (f : Part → Part) (j : Nat) : (s.modPart p f).owner j = s.owner j := rfl
@[simp] theorem State.modPart_rd8 (s : State) (p : Nat) (f : Part → Part) (j : Nat) : (s.modPart p f).rd8 j = s.rd8 j := rfl

/-! ### modFunc -/

@[simp] theorem State.modFunc_pending (s : State) (p : Nat) (f : Func → Func) : (s.modFunc p f).pending = s.pending := rfl
@[simp] theorem State.modFunc_time (s : State) (p : Nat) (f : Func → Func) : (s.modFunc p f).time = s.time := rfl
@[simp] theorem State.modFunc_cells (s : State) (p : Nat) (f : Func → Func) : (s.modFunc p f).cells = s.cells := rfl
@[simp] theorem State.modFunc_phys (s : State) (p : Nat) (f : Func → Func) : (s.modFunc p f).phys = s.phys := rfl
@[simp] theorem State.modFunc_repair (s : State) (p : Nat) (f : Func → Func) : (s.modFunc p f).repair = s.repair := rfl
@[simp] theorem State.modFunc_parts (s : State) (p : Nat) (f : Func → Func) : (s.modFunc p f).parts = s.parts := rfl
@[simp] theorem State.modFunc_recs (s : State) (p : Nat) (f : Func → Func) : (s.modFunc p f).recs = s.recs := rfl
@[simp] theorem State.modFunc_store (s : State) (p : Nat) (f : Func → Func) : (s.modFunc p f).store = s.store := rfl
@[simp] theorem State.modFunc_mem (s : State) (p : Nat) (f : Func → Func) : (s.modFunc p f).mem = s.mem := rfl
@[simp] theorem State.modFunc_badMem (s : State) (p : Nat) (f : Func → Func) : (s.modFunc p f).badMem = s.badMem := rfl
@[simp] theorem State.modFunc_hostMem (s : State) (p : Nat) (f : Func → Func) : (s.modFunc p f).hostMem = s.hostMem := rfl
@[simp] theorem State.modFunc_fab (s : State) (p : Nat) (f : Func → Func) : (s.modFunc p f).fab = s.fab := rfl
@[simp] theorem State.modFunc_dies (s : State) (p : Nat) (f : Func → Func) : (s.modFunc p f).dies = s.dies := rfl
@[simp] theorem State.modFunc_pow (s : State) (p : Nat) (f : Func → Func) : (s.modFunc p f).pow = s.pow := rfl
@[simp] theorem State.modFunc_boot (s : State) (p : Nat) (f : Func → Func) : (s.modFunc p f).boot = s.boot := rfl
@[simp] theorem State.modFunc_hif (s : State) (p : Nat) (f : Func → Func) : (s.modFunc p f).hif = s.hif := rfl
@[simp] theorem State.modFunc_groom (s : State) (p : Nat) (f : Func → Func) : (s.modFunc p f).groom = s.groom := rfl
@[simp] theorem State.modFunc_day (s : State) (p : Nat) (f : Func → Func) : (s.modFunc p f).day = s.day := rfl
@[simp] theorem State.modFunc_daySeq (s : State) (p : Nat) (f : Func → Func) : (s.modFunc p f).daySeq = s.daySeq := rfl
@[simp] theorem State.modFunc_rack (s : State) (p : Nat) (f : Func → Func) : (s.modFunc p f).rack = s.rack := rfl
@[simp] theorem State.modFunc_gctr (s : State) (p : Nat) (f : Func → Func) : (s.modFunc p f).gctr = s.gctr := rfl
@[simp] theorem State.modFunc_cell (s : State) (p : Nat) (f : Func → Func) (j : Nat) : (s.modFunc p f).cell j = s.cell j := rfl
@[simp] theorem State.modFunc_phy (s : State) (p : Nat) (f : Func → Func) (j : Nat) : (s.modFunc p f).phy j = s.phy j := rfl
@[simp] theorem State.modFunc_part (s : State) (p : Nat) (f : Func → Func) (j : Nat) : (s.modFunc p f).part j = s.part j := rfl
@[simp] theorem State.modFunc_die (s : State) (p : Nat) (f : Func → Func) (j : Nat) : (s.modFunc p f).die j = s.die j := rfl
@[simp] theorem State.modFunc_port (s : State) (p : Nat) (f : Func → Func) (j : Nat) : (s.modFunc p f).port j = s.port j := rfl
@[simp] theorem State.modFunc_grp (s : State) (p : Nat) (f : Func → Func) (j : Nat) : (s.modFunc p f).grp j = s.grp j := rfl
@[simp] theorem State.modFunc_reg (s : State) (p : Nat) (f : Func → Func) (j : Nat) : (s.modFunc p f).reg j = s.reg j := rfl
@[simp] theorem State.modFunc_owner (s : State) (p : Nat) (f : Func → Func) (j : Nat) : (s.modFunc p f).owner j = s.owner j := rfl
@[simp] theorem State.modFunc_rd8 (s : State) (p : Nat) (f : Func → Func) (j : Nat) : (s.modFunc p f).rd8 j = s.rd8 j := rfl

/-! ### modQueue -/

@[simp] theorem State.modQueue_pending (s : State) (p q : Nat) (f : Queue → Queue) : (s.modQueue p q f).pending = s.pending := rfl
@[simp] theorem State.modQueue_time (s : State) (p q : Nat) (f : Queue → Queue) : (s.modQueue p q f).time = s.time := rfl
@[simp] theorem State.modQueue_cells (s : State) (p q : Nat) (f : Queue → Queue) : (s.modQueue p q f).cells = s.cells := rfl
@[simp] theorem State.modQueue_phys (s : State) (p q : Nat) (f : Queue → Queue) : (s.modQueue p q f).phys = s.phys := rfl
@[simp] theorem State.modQueue_repair (s : State) (p q : Nat) (f : Queue → Queue) : (s.modQueue p q f).repair = s.repair := rfl
@[simp] theorem State.modQueue_parts (s : State) (p q : Nat) (f : Queue → Queue) : (s.modQueue p q f).parts = s.parts := rfl
@[simp] theorem State.modQueue_recs (s : State) (p q : Nat) (f : Queue → Queue) : (s.modQueue p q f).recs = s.recs := rfl
@[simp] theorem State.modQueue_store (s : State) (p q : Nat) (f : Queue → Queue) : (s.modQueue p q f).store = s.store := rfl
@[simp] theorem State.modQueue_mem (s : State) (p q : Nat) (f : Queue → Queue) : (s.modQueue p q f).mem = s.mem := rfl
@[simp] theorem State.modQueue_badMem (s : State) (p q : Nat) (f : Queue → Queue) : (s.modQueue p q f).badMem = s.badMem := rfl
@[simp] theorem State.modQueue_hostMem (s : State) (p q : Nat) (f : Queue → Queue) : (s.modQueue p q f).hostMem = s.hostMem := rfl
@[simp] theorem State.modQueue_fab (s : State) (p q : Nat) (f : Queue → Queue) : (s.modQueue p q f).fab = s.fab := rfl
@[simp] theorem State.modQueue_dies (s : State) (p q : Nat) (f : Queue → Queue) : (s.modQueue p q f).dies = s.dies := rfl
@[simp] theorem State.modQueue_pow (s : State) (p q : Nat) (f : Queue → Queue) : (s.modQueue p q f).pow = s.pow := rfl
@[simp] theorem State.modQueue_boot (s : State) (p q : Nat) (f : Queue → Queue) : (s.modQueue p q f).boot = s.boot := rfl
@[simp] theorem State.modQueue_hif (s : State) (p q : Nat) (f : Queue → Queue) : (s.modQueue p q f).hif = s.hif := rfl
@[simp] theorem State.modQueue_groom (s : State) (p q : Nat) (f : Queue → Queue) : (s.modQueue p q f).groom = s.groom := rfl
@[simp] theorem State.modQueue_day (s : State) (p q : Nat) (f : Queue → Queue) : (s.modQueue p q f).day = s.day := rfl
@[simp] theorem State.modQueue_daySeq (s : State) (p q : Nat) (f : Queue → Queue) : (s.modQueue p q f).daySeq = s.daySeq := rfl
@[simp] theorem State.modQueue_rack (s : State) (p q : Nat) (f : Queue → Queue) : (s.modQueue p q f).rack = s.rack := rfl
@[simp] theorem State.modQueue_gctr (s : State) (p q : Nat) (f : Queue → Queue) : (s.modQueue p q f).gctr = s.gctr := rfl
@[simp] theorem State.modQueue_cell (s : State) (p q : Nat) (f : Queue → Queue) (j : Nat) : (s.modQueue p q f).cell j = s.cell j := rfl
@[simp] theorem State.modQueue_phy (s : State) (p q : Nat) (f : Queue → Queue) (j : Nat) : (s.modQueue p q f).phy j = s.phy j := rfl
@[simp] theorem State.modQueue_part (s : State) (p q : Nat) (f : Queue → Queue) (j : Nat) : (s.modQueue p q f).part j = s.part j := rfl
@[simp] theorem State.modQueue_die (s : State) (p q : Nat) (f : Queue → Queue) (j : Nat) : (s.modQueue p q f).die j = s.die j := rfl
@[simp] theorem State.modQueue_port (s : State) (p q : Nat) (f : Queue → Queue) (j : Nat) : (s.modQueue p q f).port j = s.port j := rfl
@[simp] theorem State.modQueue_grp (s : State) (p q : Nat) (f : Queue → Queue) (j : Nat) : (s.modQueue p q f).grp j = s.grp j := rfl
@[simp] theorem State.modQueue_reg (s : State) (p q : Nat) (f : Queue → Queue) (j : Nat) : (s.modQueue p q f).reg j = s.reg j := rfl
@[simp] theorem State.modQueue_owner (s : State) (p q : Nat) (f : Queue → Queue) (j : Nat) : (s.modQueue p q f).owner j = s.owner j := rfl
@[simp] theorem State.modQueue_rd8 (s : State) (p q : Nat) (f : Queue → Queue) (j : Nat) : (s.modQueue p q f).rd8 j = s.rd8 j := rfl

/-! ### modDie -/

@[simp] theorem State.modDie_pending (s : State) (d : Nat) (f : Die → Die) : (s.modDie d f).pending = s.pending := rfl
@[simp] theorem State.modDie_time (s : State) (d : Nat) (f : Die → Die) : (s.modDie d f).time = s.time := rfl
@[simp] theorem State.modDie_cells (s : State) (d : Nat) (f : Die → Die) : (s.modDie d f).cells = s.cells := rfl
@[simp] theorem State.modDie_phys (s : State) (d : Nat) (f : Die → Die) : (s.modDie d f).phys = s.phys := rfl
@[simp] theorem State.modDie_repair (s : State) (d : Nat) (f : Die → Die) : (s.modDie d f).repair = s.repair := rfl
@[simp] theorem State.modDie_parts (s : State) (d : Nat) (f : Die → Die) : (s.modDie d f).parts = s.parts := rfl
@[simp] theorem State.modDie_funcs (s : State) (d : Nat) (f : Die → Die) : (s.modDie d f).funcs = s.funcs := rfl
@[simp] theorem State.modDie_recs (s : State) (d : Nat) (f : Die → Die) : (s.modDie d f).recs = s.recs := rfl
@[simp] theorem State.modDie_store (s : State) (d : Nat) (f : Die → Die) : (s.modDie d f).store = s.store := rfl
@[simp] theorem State.modDie_mem (s : State) (d : Nat) (f : Die → Die) : (s.modDie d f).mem = s.mem := rfl
@[simp] theorem State.modDie_badMem (s : State) (d : Nat) (f : Die → Die) : (s.modDie d f).badMem = s.badMem := rfl
@[simp] theorem State.modDie_hostMem (s : State) (d : Nat) (f : Die → Die) : (s.modDie d f).hostMem = s.hostMem := rfl
@[simp] theorem State.modDie_fab (s : State) (d : Nat) (f : Die → Die) : (s.modDie d f).fab = s.fab := rfl
@[simp] theorem State.modDie_pow (s : State) (d : Nat) (f : Die → Die) : (s.modDie d f).pow = s.pow := rfl
@[simp] theorem State.modDie_boot (s : State) (d : Nat) (f : Die → Die) : (s.modDie d f).boot = s.boot := rfl
@[simp] theorem State.modDie_hif (s : State) (d : Nat) (f : Die → Die) : (s.modDie d f).hif = s.hif := rfl
@[simp] theorem State.modDie_groom (s : State) (d : Nat) (f : Die → Die) : (s.modDie d f).groom = s.groom := rfl
@[simp] theorem State.modDie_day (s : State) (d : Nat) (f : Die → Die) : (s.modDie d f).day = s.day := rfl
@[simp] theorem State.modDie_daySeq (s : State) (d : Nat) (f : Die → Die) : (s.modDie d f).daySeq = s.daySeq := rfl
@[simp] theorem State.modDie_rack (s : State) (d : Nat) (f : Die → Die) : (s.modDie d f).rack = s.rack := rfl
@[simp] theorem State.modDie_gctr (s : State) (d : Nat) (f : Die → Die) : (s.modDie d f).gctr = s.gctr := rfl
@[simp] theorem State.modDie_cell (s : State) (d : Nat) (f : Die → Die) (j : Nat) : (s.modDie d f).cell j = s.cell j := rfl
@[simp] theorem State.modDie_phy (s : State) (d : Nat) (f : Die → Die) (j : Nat) : (s.modDie d f).phy j = s.phy j := rfl
@[simp] theorem State.modDie_part (s : State) (d : Nat) (f : Die → Die) (j : Nat) : (s.modDie d f).part j = s.part j := rfl
@[simp] theorem State.modDie_func (s : State) (d : Nat) (f : Die → Die) (j : Nat) : (s.modDie d f).func j = s.func j := rfl
@[simp] theorem State.modDie_port (s : State) (d : Nat) (f : Die → Die) (j : Nat) : (s.modDie d f).port j = s.port j := rfl
@[simp] theorem State.modDie_grp (s : State) (d : Nat) (f : Die → Die) (j : Nat) : (s.modDie d f).grp j = s.grp j := rfl
@[simp] theorem State.modDie_reg (s : State) (d : Nat) (f : Die → Die) (j : Nat) : (s.modDie d f).reg j = s.reg j := rfl
@[simp] theorem State.modDie_owner (s : State) (d : Nat) (f : Die → Die) (j : Nat) : (s.modDie d f).owner j = s.owner j := rfl
@[simp] theorem State.modDie_rd8 (s : State) (d : Nat) (f : Die → Die) (j : Nat) : (s.modDie d f).rd8 j = s.rd8 j := rfl

/-! ### modFab -/

@[simp] theorem State.modFab_pending (s : State) (f : Fab → Fab) : (s.modFab f).pending = s.pending := rfl
@[simp] theorem State.modFab_time (s : State) (f : Fab → Fab) : (s.modFab f).time = s.time := rfl
@[simp] theorem State.modFab_cells (s : State) (f : Fab → Fab) : (s.modFab f).cells = s.cells := rfl
@[simp] theorem State.modFab_phys (s : State) (f : Fab → Fab) : (s.modFab f).phys = s.phys := rfl
@[simp] theorem State.modFab_repair (s : State) (f : Fab → Fab) : (s.modFab f).repair = s.repair := rfl
@[simp] theorem State.modFab_parts (s : State) (f : Fab → Fab) : (s.modFab f).parts = s.parts := rfl
@[simp] theorem State.modFab_funcs (s : State) (f : Fab → Fab) : (s.modFab f).funcs = s.funcs := rfl
@[simp] theorem State.modFab_recs (s : State) (f : Fab → Fab) : (s.modFab f).recs = s.recs := rfl
@[simp] theorem State.modFab_store (s : State) (f : Fab → Fab) : (s.modFab f).store = s.store := rfl
@[simp] theorem State.modFab_mem (s : State) (f : Fab → Fab) : (s.modFab f).mem = s.mem := rfl
@[simp] theorem State.modFab_badMem (s : State) (f : Fab → Fab) : (s.modFab f).badMem = s.badMem := rfl
@[simp] theorem State.modFab_hostMem (s : State) (f : Fab → Fab) : (s.modFab f).hostMem = s.hostMem := rfl
@[simp] theorem State.modFab_dies (s : State) (f : Fab → Fab) : (s.modFab f).dies = s.dies := rfl
@[simp] theorem State.modFab_pow (s : State) (f : Fab → Fab) : (s.modFab f).pow = s.pow := rfl
@[simp] theorem State.modFab_boot (s : State) (f : Fab → Fab) : (s.modFab f).boot = s.boot := rfl
@[simp] theorem State.modFab_hif (s : State) (f : Fab → Fab) : (s.modFab f).hif = s.hif := rfl
@[simp] theorem State.modFab_groom (s : State) (f : Fab → Fab) : (s.modFab f).groom = s.groom := rfl
@[simp] theorem State.modFab_day (s : State) (f : Fab → Fab) : (s.modFab f).day = s.day := rfl
@[simp] theorem State.modFab_daySeq (s : State) (f : Fab → Fab) : (s.modFab f).daySeq = s.daySeq := rfl
@[simp] theorem State.modFab_rack (s : State) (f : Fab → Fab) : (s.modFab f).rack = s.rack := rfl
@[simp] theorem State.modFab_gctr (s : State) (f : Fab → Fab) : (s.modFab f).gctr = s.gctr := rfl
@[simp] theorem State.modFab_cell (s : State) (f : Fab → Fab) (j : Nat) : (s.modFab f).cell j = s.cell j := rfl
@[simp] theorem State.modFab_phy (s : State) (f : Fab → Fab) (j : Nat) : (s.modFab f).phy j = s.phy j := rfl
@[simp] theorem State.modFab_part (s : State) (f : Fab → Fab) (j : Nat) : (s.modFab f).part j = s.part j := rfl
@[simp] theorem State.modFab_func (s : State) (f : Fab → Fab) (j : Nat) : (s.modFab f).func j = s.func j := rfl
@[simp] theorem State.modFab_die (s : State) (f : Fab → Fab) (j : Nat) : (s.modFab f).die j = s.die j := rfl
@[simp] theorem State.modFab_reg (s : State) (f : Fab → Fab) (j : Nat) : (s.modFab f).reg j = s.reg j := rfl
@[simp] theorem State.modFab_owner (s : State) (f : Fab → Fab) (j : Nat) : (s.modFab f).owner j = s.owner j := rfl
@[simp] theorem State.modFab_rd8 (s : State) (f : Fab → Fab) (j : Nat) : (s.modFab f).rd8 j = s.rd8 j := rfl

/-! ### modPort -/

@[simp] theorem State.modPort_pending (s : State) (p : Nat) (f : Port → Port) : (s.modPort p f).pending = s.pending := rfl
@[simp] theorem State.modPort_time (s : State) (p : Nat) (f : Port → Port) : (s.modPort p f).time = s.time := rfl
@[simp] theorem State.modPort_cells (s : State) (p : Nat) (f : Port → Port) : (s.modPort p f).cells = s.cells := rfl
@[simp] theorem State.modPort_phys (s : State) (p : Nat) (f : Port → Port) : (s.modPort p f).phys = s.phys := rfl
@[simp] theorem State.modPort_repair (s : State) (p : Nat) (f : Port → Port) : (s.modPort p f).repair = s.repair := rfl
@[simp] theorem State.modPort_parts (s : State) (p : Nat) (f : Port → Port) : (s.modPort p f).parts = s.parts := rfl
@[simp] theorem State.modPort_funcs (s : State) (p : Nat) (f : Port → Port) : (s.modPort p f).funcs = s.funcs := rfl
@[simp] theorem State.modPort_recs (s : State) (p : Nat) (f : Port → Port) : (s.modPort p f).recs = s.recs := rfl
@[simp] theorem State.modPort_store (s : State) (p : Nat) (f : Port → Port) : (s.modPort p f).store = s.store := rfl
@[simp] theorem State.modPort_mem (s : State) (p : Nat) (f : Port → Port) : (s.modPort p f).mem = s.mem := rfl
@[simp] theorem State.modPort_badMem (s : State) (p : Nat) (f : Port → Port) : (s.modPort p f).badMem = s.badMem := rfl
@[simp] theorem State.modPort_hostMem (s : State) (p : Nat) (f : Port → Port) : (s.modPort p f).hostMem = s.hostMem := rfl
@[simp] theorem State.modPort_dies (s : State) (p : Nat) (f : Port → Port) : (s.modPort p f).dies = s.dies := rfl
@[simp] theorem State.modPort_pow (s : State) (p : Nat) (f : Port → Port) : (s.modPort p f).pow = s.pow := rfl
@[simp] theorem State.modPort_boot (s : State) (p : Nat) (f : Port → Port) : (s.modPort p f).boot = s.boot := rfl
@[simp] theorem State.modPort_hif (s : State) (p : Nat) (f : Port → Port) : (s.modPort p f).hif = s.hif := rfl
@[simp] theorem State.modPort_groom (s : State) (p : Nat) (f : Port → Port) : (s.modPort p f).groom = s.groom := rfl
@[simp] theorem State.modPort_day (s : State) (p : Nat) (f : Port → Port) : (s.modPort p f).day = s.day := rfl
@[simp] theorem State.modPort_daySeq (s : State) (p : Nat) (f : Port → Port) : (s.modPort p f).daySeq = s.daySeq := rfl
@[simp] theorem State.modPort_rack (s : State) (p : Nat) (f : Port → Port) : (s.modPort p f).rack = s.rack := rfl
@[simp] theorem State.modPort_gctr (s : State) (p : Nat) (f : Port → Port) : (s.modPort p f).gctr = s.gctr := rfl
@[simp] theorem State.modPort_cell (s : State) (p : Nat) (f : Port → Port) (j : Nat) : (s.modPort p f).cell j = s.cell j := rfl
@[simp] theorem State.modPort_phy (s : State) (p : Nat) (f : Port → Port) (j : Nat) : (s.modPort p f).phy j = s.phy j := rfl
@[simp] theorem State.modPort_part (s : State) (p : Nat) (f : Port → Port) (j : Nat) : (s.modPort p f).part j = s.part j := rfl
@[simp] theorem State.modPort_func (s : State) (p : Nat) (f : Port → Port) (j : Nat) : (s.modPort p f).func j = s.func j := rfl
@[simp] theorem State.modPort_die (s : State) (p : Nat) (f : Port → Port) (j : Nat) : (s.modPort p f).die j = s.die j := rfl
@[simp] theorem State.modPort_reg (s : State) (p : Nat) (f : Port → Port) (j : Nat) : (s.modPort p f).reg j = s.reg j := rfl
@[simp] theorem State.modPort_owner (s : State) (p : Nat) (f : Port → Port) (j : Nat) : (s.modPort p f).owner j = s.owner j := rfl
@[simp] theorem State.modPort_rd8 (s : State) (p : Nat) (f : Port → Port) (j : Nat) : (s.modPort p f).rd8 j = s.rd8 j := rfl

/-! ### modGrp -/

@[simp] theorem State.modGrp_pending (s : State) (g : Nat) (f : Group → Group) : (s.modGrp g f).pending = s.pending := rfl
@[simp] theorem State.modGrp_time (s : State) (g : Nat) (f : Group → Group) : (s.modGrp g f).time = s.time := rfl
@[simp] theorem State.modGrp_cells (s : State) (g : Nat) (f : Group → Group) : (s.modGrp g f).cells = s.cells := rfl
@[simp] theorem State.modGrp_phys (s : State) (g : Nat) (f : Group → Group) : (s.modGrp g f).phys = s.phys := rfl
@[simp] theorem State.modGrp_repair (s : State) (g : Nat) (f : Group → Group) : (s.modGrp g f).repair = s.repair := rfl
@[simp] theorem State.modGrp_parts (s : State) (g : Nat) (f : Group → Group) : (s.modGrp g f).parts = s.parts := rfl
@[simp] theorem State.modGrp_funcs (s : State) (g : Nat) (f : Group → Group) : (s.modGrp g f).funcs = s.funcs := rfl
@[simp] theorem State.modGrp_recs (s : State) (g : Nat) (f : Group → Group) : (s.modGrp g f).recs = s.recs := rfl
@[simp] theorem State.modGrp_store (s : State) (g : Nat) (f : Group → Group) : (s.modGrp g f).store = s.store := rfl
@[simp] theorem State.modGrp_mem (s : State) (g : Nat) (f : Group → Group) : (s.modGrp g f).mem = s.mem := rfl
@[simp] theorem State.modGrp_badMem (s : State) (g : Nat) (f : Group → Group) : (s.modGrp g f).badMem = s.badMem := rfl
@[simp] theorem State.modGrp_hostMem (s : State) (g : Nat) (f : Group → Group) : (s.modGrp g f).hostMem = s.hostMem := rfl
@[simp] theorem State.modGrp_dies (s : State) (g : Nat) (f : Group → Group) : (s.modGrp g f).dies = s.dies := rfl
@[simp] theorem State.modGrp_pow (s : State) (g : Nat) (f : Group → Group) : (s.modGrp g f).pow = s.pow := rfl
@[simp] theorem State.modGrp_boot (s : State) (g : Nat) (f : Group → Group) : (s.modGrp g f).boot = s.boot := rfl
@[simp] theorem State.modGrp_hif (s : State) (g : Nat) (f : Group → Group) : (s.modGrp g f).hif = s.hif := rfl
@[simp] theorem State.modGrp_groom (s : State) (g : Nat) (f : Group → Group) : (s.modGrp g f).groom = s.groom := rfl
@[simp] theorem State.modGrp_day (s : State) (g : Nat) (f : Group → Group) : (s.modGrp g f).day = s.day := rfl
@[simp] theorem State.modGrp_daySeq (s : State) (g : Nat) (f : Group → Group) : (s.modGrp g f).daySeq = s.daySeq := rfl
@[simp] theorem State.modGrp_rack (s : State) (g : Nat) (f : Group → Group) : (s.modGrp g f).rack = s.rack := rfl
@[simp] theorem State.modGrp_gctr (s : State) (g : Nat) (f : Group → Group) : (s.modGrp g f).gctr = s.gctr := rfl
@[simp] theorem State.modGrp_cell (s : State) (g : Nat) (f : Group → Group) (j : Nat) : (s.modGrp g f).cell j = s.cell j := rfl
@[simp] theorem State.modGrp_phy (s : State) (g : Nat) (f : Group → Group) (j : Nat) : (s.modGrp g f).phy j = s.phy j := rfl
@[simp] theorem State.modGrp_part (s : State) (g : Nat) (f : Group → Group) (j : Nat) : (s.modGrp g f).part j = s.part j := rfl
@[simp] theorem State.modGrp_func (s : State) (g : Nat) (f : Group → Group) (j : Nat) : (s.modGrp g f).func j = s.func j := rfl
@[simp] theorem State.modGrp_die (s : State) (g : Nat) (f : Group → Group) (j : Nat) : (s.modGrp g f).die j = s.die j := rfl
@[simp] theorem State.modGrp_reg (s : State) (g : Nat) (f : Group → Group) (j : Nat) : (s.modGrp g f).reg j = s.reg j := rfl
@[simp] theorem State.modGrp_owner (s : State) (g : Nat) (f : Group → Group) (j : Nat) : (s.modGrp g f).owner j = s.owner j := rfl
@[simp] theorem State.modGrp_rd8 (s : State) (g : Nat) (f : Group → Group) (j : Nat) : (s.modGrp g f).rd8 j = s.rd8 j := rfl

/-! ### modPow -/

@[simp] theorem State.modPow_pending (s : State) (f : Pow → Pow) : (s.modPow f).pending = s.pending := rfl
@[simp] theorem State.modPow_time (s : State) (f : Pow → Pow) : (s.modPow f).time = s.time := rfl
@[simp] theorem State.modPow_cells (s : State) (f : Pow → Pow) : (s.modPow f).cells = s.cells := rfl
@[simp] theorem State.modPow_phys (s : State) (f : Pow → Pow) : (s.modPow f).phys = s.phys := rfl
@[simp] theorem State.modPow_repair (s : State) (f : Pow → Pow) : (s.modPow f).repair = s.repair := rfl
@[simp] theorem State.modPow_parts (s : State) (f : Pow → Pow) : (s.modPow f).parts = s.parts := rfl
@[simp] theorem State.modPow_funcs (s : State) (f : Pow → Pow) : (s.modPow f).funcs = s.funcs := rfl
@[simp] theorem State.modPow_recs (s : State) (f : Pow → Pow) : (s.modPow f).recs = s.recs := rfl
@[simp] theorem State.modPow_store (s : State) (f : Pow → Pow) : (s.modPow f).store = s.store := rfl
@[simp] theorem State.modPow_mem (s : State) (f : Pow → Pow) : (s.modPow f).mem = s.mem := rfl
@[simp] theorem State.modPow_badMem (s : State) (f : Pow → Pow) : (s.modPow f).badMem = s.badMem := rfl
@[simp] theorem State.modPow_hostMem (s : State) (f : Pow → Pow) : (s.modPow f).hostMem = s.hostMem := rfl
@[simp] theorem State.modPow_fab (s : State) (f : Pow → Pow) : (s.modPow f).fab = s.fab := rfl
@[simp] theorem State.modPow_dies (s : State) (f : Pow → Pow) : (s.modPow f).dies = s.dies := rfl
@[simp] theorem State.modPow_boot (s : State) (f : Pow → Pow) : (s.modPow f).boot = s.boot := rfl
@[simp] theorem State.modPow_hif (s : State) (f : Pow → Pow) : (s.modPow f).hif = s.hif := rfl
@[simp] theorem State.modPow_groom (s : State) (f : Pow → Pow) : (s.modPow f).groom = s.groom := rfl
@[simp] theorem State.modPow_day (s : State) (f : Pow → Pow) : (s.modPow f).day = s.day := rfl
@[simp] theorem State.modPow_daySeq (s : State) (f : Pow → Pow) : (s.modPow f).daySeq = s.daySeq := rfl
@[simp] theorem State.modPow_rack (s : State) (f : Pow → Pow) : (s.modPow f).rack = s.rack := rfl
@[simp] theorem State.modPow_gctr (s : State) (f : Pow → Pow) : (s.modPow f).gctr = s.gctr := rfl
@[simp] theorem State.modPow_cell (s : State) (f : Pow → Pow) (j : Nat) : (s.modPow f).cell j = s.cell j := rfl
@[simp] theorem State.modPow_phy (s : State) (f : Pow → Pow) (j : Nat) : (s.modPow f).phy j = s.phy j := rfl
@[simp] theorem State.modPow_part (s : State) (f : Pow → Pow) (j : Nat) : (s.modPow f).part j = s.part j := rfl
@[simp] theorem State.modPow_func (s : State) (f : Pow → Pow) (j : Nat) : (s.modPow f).func j = s.func j := rfl
@[simp] theorem State.modPow_die (s : State) (f : Pow → Pow) (j : Nat) : (s.modPow f).die j = s.die j := rfl
@[simp] theorem State.modPow_port (s : State) (f : Pow → Pow) (j : Nat) : (s.modPow f).port j = s.port j := rfl
@[simp] theorem State.modPow_grp (s : State) (f : Pow → Pow) (j : Nat) : (s.modPow f).grp j = s.grp j := rfl
@[simp] theorem State.modPow_reg (s : State) (f : Pow → Pow) (j : Nat) : (s.modPow f).reg j = s.reg j := rfl
@[simp] theorem State.modPow_owner (s : State) (f : Pow → Pow) (j : Nat) : (s.modPow f).owner j = s.owner j := rfl
@[simp] theorem State.modPow_rd8 (s : State) (f : Pow → Pow) (j : Nat) : (s.modPow f).rd8 j = s.rd8 j := rfl

/-! ### modBoot -/

@[simp] theorem State.modBoot_pending (s : State) (f : Boot → Boot) : (s.modBoot f).pending = s.pending := rfl
@[simp] theorem State.modBoot_time (s : State) (f : Boot → Boot) : (s.modBoot f).time = s.time := rfl
@[simp] theorem State.modBoot_cells (s : State) (f : Boot → Boot) : (s.modBoot f).cells = s.cells := rfl
@[simp] theorem State.modBoot_phys (s : State) (f : Boot → Boot) : (s.modBoot f).phys = s.phys := rfl
@[simp] theorem State.modBoot_repair (s : State) (f : Boot → Boot) : (s.modBoot f).repair = s.repair := rfl
@[simp] theorem State.modBoot_parts (s : State) (f : Boot → Boot) : (s.modBoot f).parts = s.parts := rfl
@[simp] theorem State.modBoot_funcs (s : State) (f : Boot → Boot) : (s.modBoot f).funcs = s.funcs := rfl
@[simp] theorem State.modBoot_recs (s : State) (f : Boot → Boot) : (s.modBoot f).recs = s.recs := rfl
@[simp] theorem State.modBoot_store (s : State) (f : Boot → Boot) : (s.modBoot f).store = s.store := rfl
@[simp] theorem State.modBoot_mem (s : State) (f : Boot → Boot) : (s.modBoot f).mem = s.mem := rfl
@[simp] theorem State.modBoot_badMem (s : State) (f : Boot → Boot) : (s.modBoot f).badMem = s.badMem := rfl
@[simp] theorem State.modBoot_hostMem (s : State) (f : Boot → Boot) : (s.modBoot f).hostMem = s.hostMem := rfl
@[simp] theorem State.modBoot_fab (s : State) (f : Boot → Boot) : (s.modBoot f).fab = s.fab := rfl
@[simp] theorem State.modBoot_dies (s : State) (f : Boot → Boot) : (s.modBoot f).dies = s.dies := rfl
@[simp] theorem State.modBoot_pow (s : State) (f : Boot → Boot) : (s.modBoot f).pow = s.pow := rfl
@[simp] theorem State.modBoot_hif (s : State) (f : Boot → Boot) : (s.modBoot f).hif = s.hif := rfl
@[simp] theorem State.modBoot_groom (s : State) (f : Boot → Boot) : (s.modBoot f).groom = s.groom := rfl
@[simp] theorem State.modBoot_day (s : State) (f : Boot → Boot) : (s.modBoot f).day = s.day := rfl
@[simp] theorem State.modBoot_daySeq (s : State) (f : Boot → Boot) : (s.modBoot f).daySeq = s.daySeq := rfl
@[simp] theorem State.modBoot_rack (s : State) (f : Boot → Boot) : (s.modBoot f).rack = s.rack := rfl
@[simp] theorem State.modBoot_gctr (s : State) (f : Boot → Boot) : (s.modBoot f).gctr = s.gctr := rfl
@[simp] theorem State.modBoot_cell (s : State) (f : Boot → Boot) (j : Nat) : (s.modBoot f).cell j = s.cell j := rfl
@[simp] theorem State.modBoot_phy (s : State) (f : Boot → Boot) (j : Nat) : (s.modBoot f).phy j = s.phy j := rfl
@[simp] theorem State.modBoot_part (s : State) (f : Boot → Boot) (j : Nat) : (s.modBoot f).part j = s.part j := rfl
@[simp] theorem State.modBoot_func (s : State) (f : Boot → Boot) (j : Nat) : (s.modBoot f).func j = s.func j := rfl
@[simp] theorem State.modBoot_die (s : State) (f : Boot → Boot) (j : Nat) : (s.modBoot f).die j = s.die j := rfl
@[simp] theorem State.modBoot_port (s : State) (f : Boot → Boot) (j : Nat) : (s.modBoot f).port j = s.port j := rfl
@[simp] theorem State.modBoot_grp (s : State) (f : Boot → Boot) (j : Nat) : (s.modBoot f).grp j = s.grp j := rfl
@[simp] theorem State.modBoot_reg (s : State) (f : Boot → Boot) (j : Nat) : (s.modBoot f).reg j = s.reg j := rfl
@[simp] theorem State.modBoot_owner (s : State) (f : Boot → Boot) (j : Nat) : (s.modBoot f).owner j = s.owner j := rfl
@[simp] theorem State.modBoot_rd8 (s : State) (f : Boot → Boot) (j : Nat) : (s.modBoot f).rd8 j = s.rd8 j := rfl

/-! ### modHif -/

@[simp] theorem State.modHif_pending (s : State) (f : HostIf → HostIf) : (s.modHif f).pending = s.pending := rfl
@[simp] theorem State.modHif_time (s : State) (f : HostIf → HostIf) : (s.modHif f).time = s.time := rfl
@[simp] theorem State.modHif_cells (s : State) (f : HostIf → HostIf) : (s.modHif f).cells = s.cells := rfl
@[simp] theorem State.modHif_phys (s : State) (f : HostIf → HostIf) : (s.modHif f).phys = s.phys := rfl
@[simp] theorem State.modHif_repair (s : State) (f : HostIf → HostIf) : (s.modHif f).repair = s.repair := rfl
@[simp] theorem State.modHif_parts (s : State) (f : HostIf → HostIf) : (s.modHif f).parts = s.parts := rfl
@[simp] theorem State.modHif_funcs (s : State) (f : HostIf → HostIf) : (s.modHif f).funcs = s.funcs := rfl
@[simp] theorem State.modHif_recs (s : State) (f : HostIf → HostIf) : (s.modHif f).recs = s.recs := rfl
@[simp] theorem State.modHif_store (s : State) (f : HostIf → HostIf) : (s.modHif f).store = s.store := rfl
@[simp] theorem State.modHif_mem (s : State) (f : HostIf → HostIf) : (s.modHif f).mem = s.mem := rfl
@[simp] theorem State.modHif_badMem (s : State) (f : HostIf → HostIf) : (s.modHif f).badMem = s.badMem := rfl
@[simp] theorem State.modHif_hostMem (s : State) (f : HostIf → HostIf) : (s.modHif f).hostMem = s.hostMem := rfl
@[simp] theorem State.modHif_fab (s : State) (f : HostIf → HostIf) : (s.modHif f).fab = s.fab := rfl
@[simp] theorem State.modHif_dies (s : State) (f : HostIf → HostIf) : (s.modHif f).dies = s.dies := rfl
@[simp] theorem State.modHif_pow (s : State) (f : HostIf → HostIf) : (s.modHif f).pow = s.pow := rfl
@[simp] theorem State.modHif_boot (s : State) (f : HostIf → HostIf) : (s.modHif f).boot = s.boot := rfl
@[simp] theorem State.modHif_groom (s : State) (f : HostIf → HostIf) : (s.modHif f).groom = s.groom := rfl
@[simp] theorem State.modHif_day (s : State) (f : HostIf → HostIf) : (s.modHif f).day = s.day := rfl
@[simp] theorem State.modHif_daySeq (s : State) (f : HostIf → HostIf) : (s.modHif f).daySeq = s.daySeq := rfl
@[simp] theorem State.modHif_rack (s : State) (f : HostIf → HostIf) : (s.modHif f).rack = s.rack := rfl
@[simp] theorem State.modHif_gctr (s : State) (f : HostIf → HostIf) : (s.modHif f).gctr = s.gctr := rfl
@[simp] theorem State.modHif_cell (s : State) (f : HostIf → HostIf) (j : Nat) : (s.modHif f).cell j = s.cell j := rfl
@[simp] theorem State.modHif_phy (s : State) (f : HostIf → HostIf) (j : Nat) : (s.modHif f).phy j = s.phy j := rfl
@[simp] theorem State.modHif_part (s : State) (f : HostIf → HostIf) (j : Nat) : (s.modHif f).part j = s.part j := rfl
@[simp] theorem State.modHif_func (s : State) (f : HostIf → HostIf) (j : Nat) : (s.modHif f).func j = s.func j := rfl
@[simp] theorem State.modHif_die (s : State) (f : HostIf → HostIf) (j : Nat) : (s.modHif f).die j = s.die j := rfl
@[simp] theorem State.modHif_port (s : State) (f : HostIf → HostIf) (j : Nat) : (s.modHif f).port j = s.port j := rfl
@[simp] theorem State.modHif_grp (s : State) (f : HostIf → HostIf) (j : Nat) : (s.modHif f).grp j = s.grp j := rfl
@[simp] theorem State.modHif_reg (s : State) (f : HostIf → HostIf) (j : Nat) : (s.modHif f).reg j = s.reg j := rfl
@[simp] theorem State.modHif_owner (s : State) (f : HostIf → HostIf) (j : Nat) : (s.modHif f).owner j = s.owner j := rfl
@[simp] theorem State.modHif_rd8 (s : State) (f : HostIf → HostIf) (j : Nat) : (s.modHif f).rd8 j = s.rd8 j := rfl

/-! ### modGroom -/

@[simp] theorem State.modGroom_pending (s : State) (f : Groom → Groom) : (s.modGroom f).pending = s.pending := rfl
@[simp] theorem State.modGroom_time (s : State) (f : Groom → Groom) : (s.modGroom f).time = s.time := rfl
@[simp] theorem State.modGroom_cells (s : State) (f : Groom → Groom) : (s.modGroom f).cells = s.cells := rfl
@[simp] theorem State.modGroom_phys (s : State) (f : Groom → Groom) : (s.modGroom f).phys = s.phys := rfl
@[simp] theorem State.modGroom_repair (s : State) (f : Groom → Groom) : (s.modGroom f).repair = s.repair := rfl
@[simp] theorem State.modGroom_parts (s : State) (f : Groom → Groom) : (s.modGroom f).parts = s.parts := rfl
@[simp] theorem State.modGroom_funcs (s : State) (f : Groom → Groom) : (s.modGroom f).funcs = s.funcs := rfl
@[simp] theorem State.modGroom_recs (s : State) (f : Groom → Groom) : (s.modGroom f).recs = s.recs := rfl
@[simp] theorem State.modGroom_store (s : State) (f : Groom → Groom) : (s.modGroom f).store = s.store := rfl
@[simp] theorem State.modGroom_mem (s : State) (f : Groom → Groom) : (s.modGroom f).mem = s.mem := rfl
@[simp] theorem State.modGroom_badMem (s : State) (f : Groom → Groom) : (s.modGroom f).badMem = s.badMem := rfl
@[simp] theorem State.modGroom_hostMem (s : State) (f : Groom → Groom) : (s.modGroom f).hostMem = s.hostMem := rfl
@[simp] theorem State.modGroom_fab (s : State) (f : Groom → Groom) : (s.modGroom f).fab = s.fab := rfl
@[simp] theorem State.modGroom_dies (s : State) (f : Groom → Groom) : (s.modGroom f).dies = s.dies := rfl
@[simp] theorem State.modGroom_pow (s : State) (f : Groom → Groom) : (s.modGroom f).pow = s.pow := rfl
@[simp] theorem State.modGroom_boot (s : State) (f : Groom → Groom) : (s.modGroom f).boot = s.boot := rfl
@[simp] theorem State.modGroom_hif (s : State) (f : Groom → Groom) : (s.modGroom f).hif = s.hif := rfl
@[simp] theorem State.modGroom_day (s : State) (f : Groom → Groom) : (s.modGroom f).day = s.day := rfl
@[simp] theorem State.modGroom_daySeq (s : State) (f : Groom → Groom) : (s.modGroom f).daySeq = s.daySeq := rfl
@[simp] theorem State.modGroom_rack (s : State) (f : Groom → Groom) : (s.modGroom f).rack = s.rack := rfl
@[simp] theorem State.modGroom_gctr (s : State) (f : Groom → Groom) : (s.modGroom f).gctr = s.gctr := rfl
@[simp] theorem State.modGroom_cell (s : State) (f : Groom → Groom) (j : Nat) : (s.modGroom f).cell j = s.cell j := rfl
@[simp] theorem State.modGroom_phy (s : State) (f : Groom → Groom) (j : Nat) : (s.modGroom f).phy j = s.phy j := rfl
@[simp] theorem State.modGroom_part (s : State) (f : Groom → Groom) (j : Nat) : (s.modGroom f).part j = s.part j := rfl
@[simp] theorem State.modGroom_func (s : State) (f : Groom → Groom) (j : Nat) : (s.modGroom f).func j = s.func j := rfl
@[simp] theorem State.modGroom_die (s : State) (f : Groom → Groom) (j : Nat) : (s.modGroom f).die j = s.die j := rfl
@[simp] theorem State.modGroom_port (s : State) (f : Groom → Groom) (j : Nat) : (s.modGroom f).port j = s.port j := rfl
@[simp] theorem State.modGroom_grp (s : State) (f : Groom → Groom) (j : Nat) : (s.modGroom f).grp j = s.grp j := rfl
@[simp] theorem State.modGroom_reg (s : State) (f : Groom → Groom) (j : Nat) : (s.modGroom f).reg j = s.reg j := rfl
@[simp] theorem State.modGroom_owner (s : State) (f : Groom → Groom) (j : Nat) : (s.modGroom f).owner j = s.owner j := rfl
@[simp] theorem State.modGroom_rd8 (s : State) (f : Groom → Groom) (j : Nat) : (s.modGroom f).rd8 j = s.rd8 j := rfl

/-! ### modRack -/

@[simp] theorem State.modRack_pending (s : State) (f : Rack → Rack) : (s.modRack f).pending = s.pending := rfl
@[simp] theorem State.modRack_time (s : State) (f : Rack → Rack) : (s.modRack f).time = s.time := rfl
@[simp] theorem State.modRack_cells (s : State) (f : Rack → Rack) : (s.modRack f).cells = s.cells := rfl
@[simp] theorem State.modRack_phys (s : State) (f : Rack → Rack) : (s.modRack f).phys = s.phys := rfl
@[simp] theorem State.modRack_repair (s : State) (f : Rack → Rack) : (s.modRack f).repair = s.repair := rfl
@[simp] theorem State.modRack_parts (s : State) (f : Rack → Rack) : (s.modRack f).parts = s.parts := rfl
@[simp] theorem State.modRack_funcs (s : State) (f : Rack → Rack) : (s.modRack f).funcs = s.funcs := rfl
@[simp] theorem State.modRack_recs (s : State) (f : Rack → Rack) : (s.modRack f).recs = s.recs := rfl
@[simp] theorem State.modRack_store (s : State) (f : Rack → Rack) : (s.modRack f).store = s.store := rfl
@[simp] theorem State.modRack_mem (s : State) (f : Rack → Rack) : (s.modRack f).mem = s.mem := rfl
@[simp] theorem State.modRack_badMem (s : State) (f : Rack → Rack) : (s.modRack f).badMem = s.badMem := rfl
@[simp] theorem State.modRack_hostMem (s : State) (f : Rack → Rack) : (s.modRack f).hostMem = s.hostMem := rfl
@[simp] theorem State.modRack_fab (s : State) (f : Rack → Rack) : (s.modRack f).fab = s.fab := rfl
@[simp] theorem State.modRack_dies (s : State) (f : Rack → Rack) : (s.modRack f).dies = s.dies := rfl
@[simp] theorem State.modRack_pow (s : State) (f : Rack → Rack) : (s.modRack f).pow = s.pow := rfl
@[simp] theorem State.modRack_boot (s : State) (f : Rack → Rack) : (s.modRack f).boot = s.boot := rfl
@[simp] theorem State.modRack_hif (s : State) (f : Rack → Rack) : (s.modRack f).hif = s.hif := rfl
@[simp] theorem State.modRack_groom (s : State) (f : Rack → Rack) : (s.modRack f).groom = s.groom := rfl
@[simp] theorem State.modRack_day (s : State) (f : Rack → Rack) : (s.modRack f).day = s.day := rfl
@[simp] theorem State.modRack_daySeq (s : State) (f : Rack → Rack) : (s.modRack f).daySeq = s.daySeq := rfl
@[simp] theorem State.modRack_gctr (s : State) (f : Rack → Rack) : (s.modRack f).gctr = s.gctr := rfl
@[simp] theorem State.modRack_cell (s : State) (f : Rack → Rack) (j : Nat) : (s.modRack f).cell j = s.cell j := rfl
@[simp] theorem State.modRack_phy (s : State) (f : Rack → Rack) (j : Nat) : (s.modRack f).phy j = s.phy j := rfl
@[simp] theorem State.modRack_part (s : State) (f : Rack → Rack) (j : Nat) : (s.modRack f).part j = s.part j := rfl
@[simp] theorem State.modRack_func (s : State) (f : Rack → Rack) (j : Nat) : (s.modRack f).func j = s.func j := rfl
@[simp] theorem State.modRack_die (s : State) (f : Rack → Rack) (j : Nat) : (s.modRack f).die j = s.die j := rfl
@[simp] theorem State.modRack_port (s : State) (f : Rack → Rack) (j : Nat) : (s.modRack f).port j = s.port j := rfl
@[simp] theorem State.modRack_grp (s : State) (f : Rack → Rack) (j : Nat) : (s.modRack f).grp j = s.grp j := rfl
@[simp] theorem State.modRack_reg (s : State) (f : Rack → Rack) (j : Nat) : (s.modRack f).reg j = s.reg j := rfl
@[simp] theorem State.modRack_owner (s : State) (f : Rack → Rack) (j : Nat) : (s.modRack f).owner j = s.owner j := rfl
@[simp] theorem State.modRack_rd8 (s : State) (f : Rack → Rack) (j : Nat) : (s.modRack f).rd8 j = s.rd8 j := rfl

/-! ### setFld -/

@[simp] theorem State.setFld_pending (s : State) (p ty k o n v : Nat) : (s.setFld p ty k o n v).pending = s.pending := rfl
@[simp] theorem State.setFld_time (s : State) (p ty k o n v : Nat) : (s.setFld p ty k o n v).time = s.time := rfl
@[simp] theorem State.setFld_cells (s : State) (p ty k o n v : Nat) : (s.setFld p ty k o n v).cells = s.cells := rfl
@[simp] theorem State.setFld_phys (s : State) (p ty k o n v : Nat) : (s.setFld p ty k o n v).phys = s.phys := rfl
@[simp] theorem State.setFld_repair (s : State) (p ty k o n v : Nat) : (s.setFld p ty k o n v).repair = s.repair := rfl
@[simp] theorem State.setFld_parts (s : State) (p ty k o n v : Nat) : (s.setFld p ty k o n v).parts = s.parts := rfl
@[simp] theorem State.setFld_funcs (s : State) (p ty k o n v : Nat) : (s.setFld p ty k o n v).funcs = s.funcs := rfl
@[simp] theorem State.setFld_store (s : State) (p ty k o n v : Nat) : (s.setFld p ty k o n v).store = s.store := rfl
@[simp] theorem State.setFld_mem (s : State) (p ty k o n v : Nat) : (s.setFld p ty k o n v).mem = s.mem := rfl
@[simp] theorem State.setFld_badMem (s : State) (p ty k o n v : Nat) : (s.setFld p ty k o n v).badMem = s.badMem := rfl
@[simp] theorem State.setFld_hostMem (s : State) (p ty k o n v : Nat) : (s.setFld p ty k o n v).hostMem = s.hostMem := rfl
@[simp] theorem State.setFld_fab (s : State) (p ty k o n v : Nat) : (s.setFld p ty k o n v).fab = s.fab := rfl
@[simp] theorem State.setFld_dies (s : State) (p ty k o n v : Nat) : (s.setFld p ty k o n v).dies = s.dies := rfl
@[simp] theorem State.setFld_pow (s : State) (p ty k o n v : Nat) : (s.setFld p ty k o n v).pow = s.pow := rfl
@[simp] theorem State.setFld_boot (s : State) (p ty k o n v : Nat) : (s.setFld p ty k o n v).boot = s.boot := rfl
@[simp] theorem State.setFld_hif (s : State) (p ty k o n v : Nat) : (s.setFld p ty k o n v).hif = s.hif := rfl
@[simp] theorem State.setFld_groom (s : State) (p ty k o n v : Nat) : (s.setFld p ty k o n v).groom = s.groom := rfl
@[simp] theorem State.setFld_day (s : State) (p ty k o n v : Nat) : (s.setFld p ty k o n v).day = s.day := rfl
@[simp] theorem State.setFld_daySeq (s : State) (p ty k o n v : Nat) : (s.setFld p ty k o n v).daySeq = s.daySeq := rfl
@[simp] theorem State.setFld_rack (s : State) (p ty k o n v : Nat) : (s.setFld p ty k o n v).rack = s.rack := rfl
@[simp] theorem State.setFld_gctr (s : State) (p ty k o n v : Nat) : (s.setFld p ty k o n v).gctr = s.gctr := rfl
@[simp] theorem State.setFld_cell (s : State) (p ty k o n v : Nat) (j : Nat) : (s.setFld p ty k o n v).cell j = s.cell j := rfl
@[simp] theorem State.setFld_phy (s : State) (p ty k o n v : Nat) (j : Nat) : (s.setFld p ty k o n v).phy j = s.phy j := rfl
@[simp] theorem State.setFld_part (s : State) (p ty k o n v : Nat) (j : Nat) : (s.setFld p ty k o n v).part j = s.part j := rfl
@[simp] theorem State.setFld_func (s : State) (p ty k o n v : Nat) (j : Nat) : (s.setFld p ty k o n v).func j = s.func j := rfl
@[simp] theorem State.setFld_die (s : State) (p ty k o n v : Nat) (j : Nat) : (s.setFld p ty k o n v).die j = s.die j := rfl
@[simp] theorem State.setFld_port (s : State) (p ty k o n v : Nat) (j : Nat) : (s.setFld p ty k o n v).port j = s.port j := rfl
@[simp] theorem State.setFld_grp (s : State) (p ty k o n v : Nat) (j : Nat) : (s.setFld p ty k o n v).grp j = s.grp j := rfl
@[simp] theorem State.setFld_reg (s : State) (p ty k o n v : Nat) (j : Nat) : (s.setFld p ty k o n v).reg j = s.reg j := rfl
@[simp] theorem State.setFld_rd8 (s : State) (p ty k o n v : Nat) (j : Nat) : (s.setFld p ty k o n v).rd8 j = s.rd8 j := rfl

/-! ### wrMem -/

@[simp] theorem State.wrMem_pending (s : State) (a : Nat) (l : List Byte) : (s.wrMem a l).pending = s.pending := rfl
@[simp] theorem State.wrMem_time (s : State) (a : Nat) (l : List Byte) : (s.wrMem a l).time = s.time := rfl
@[simp] theorem State.wrMem_cells (s : State) (a : Nat) (l : List Byte) : (s.wrMem a l).cells = s.cells := rfl
@[simp] theorem State.wrMem_phys (s : State) (a : Nat) (l : List Byte) : (s.wrMem a l).phys = s.phys := rfl
@[simp] theorem State.wrMem_repair (s : State) (a : Nat) (l : List Byte) : (s.wrMem a l).repair = s.repair := rfl
@[simp] theorem State.wrMem_parts (s : State) (a : Nat) (l : List Byte) : (s.wrMem a l).parts = s.parts := rfl
@[simp] theorem State.wrMem_funcs (s : State) (a : Nat) (l : List Byte) : (s.wrMem a l).funcs = s.funcs := rfl
@[simp] theorem State.wrMem_recs (s : State) (a : Nat) (l : List Byte) : (s.wrMem a l).recs = s.recs := rfl
@[simp] theorem State.wrMem_store (s : State) (a : Nat) (l : List Byte) : (s.wrMem a l).store = s.store := rfl
@[simp] theorem State.wrMem_badMem (s : State) (a : Nat) (l : List Byte) : (s.wrMem a l).badMem = s.badMem := rfl
@[simp] theorem State.wrMem_hostMem (s : State) (a : Nat) (l : List Byte) : (s.wrMem a l).hostMem = s.hostMem := rfl
@[simp] theorem State.wrMem_fab (s : State) (a : Nat) (l : List Byte) : (s.wrMem a l).fab = s.fab := rfl
@[simp] theorem State.wrMem_dies (s : State) (a : Nat) (l : List Byte) : (s.wrMem a l).dies = s.dies := rfl
@[simp] theorem State.wrMem_pow (s : State) (a : Nat) (l : List Byte) : (s.wrMem a l).pow = s.pow := rfl
@[simp] theorem State.wrMem_boot (s : State) (a : Nat) (l : List Byte) : (s.wrMem a l).boot = s.boot := rfl
@[simp] theorem State.wrMem_hif (s : State) (a : Nat) (l : List Byte) : (s.wrMem a l).hif = s.hif := rfl
@[simp] theorem State.wrMem_groom (s : State) (a : Nat) (l : List Byte) : (s.wrMem a l).groom = s.groom := rfl
@[simp] theorem State.wrMem_day (s : State) (a : Nat) (l : List Byte) : (s.wrMem a l).day = s.day := rfl
@[simp] theorem State.wrMem_daySeq (s : State) (a : Nat) (l : List Byte) : (s.wrMem a l).daySeq = s.daySeq := rfl
@[simp] theorem State.wrMem_rack (s : State) (a : Nat) (l : List Byte) : (s.wrMem a l).rack = s.rack := rfl
@[simp] theorem State.wrMem_gctr (s : State) (a : Nat) (l : List Byte) : (s.wrMem a l).gctr = s.gctr := rfl
@[simp] theorem State.wrMem_cell (s : State) (a : Nat) (l : List Byte) (j : Nat) : (s.wrMem a l).cell j = s.cell j := rfl
@[simp] theorem State.wrMem_phy (s : State) (a : Nat) (l : List Byte) (j : Nat) : (s.wrMem a l).phy j = s.phy j := rfl
@[simp] theorem State.wrMem_part (s : State) (a : Nat) (l : List Byte) (j : Nat) : (s.wrMem a l).part j = s.part j := rfl
@[simp] theorem State.wrMem_func (s : State) (a : Nat) (l : List Byte) (j : Nat) : (s.wrMem a l).func j = s.func j := rfl
@[simp] theorem State.wrMem_die (s : State) (a : Nat) (l : List Byte) (j : Nat) : (s.wrMem a l).die j = s.die j := rfl
@[simp] theorem State.wrMem_port (s : State) (a : Nat) (l : List Byte) (j : Nat) : (s.wrMem a l).port j = s.port j := rfl
@[simp] theorem State.wrMem_grp (s : State) (a : Nat) (l : List Byte) (j : Nat) : (s.wrMem a l).grp j = s.grp j := rfl
@[simp] theorem State.wrMem_reg (s : State) (a : Nat) (l : List Byte) (j : Nat) : (s.wrMem a l).reg j = s.reg j := rfl
@[simp] theorem State.wrMem_owner (s : State) (a : Nat) (l : List Byte) (j : Nat) : (s.wrMem a l).owner j = s.owner j := rfl

/-! ### wrHost -/

@[simp] theorem State.wrHost_pending (s : State) (a : Nat) (l : List Byte) : (s.wrHost a l).pending = s.pending := rfl
@[simp] theorem State.wrHost_time (s : State) (a : Nat) (l : List Byte) : (s.wrHost a l).time = s.time := rfl
@[simp] theorem State.wrHost_cells (s : State) (a : Nat) (l : List Byte) : (s.wrHost a l).cells = s.cells := rfl
@[simp] theorem State.wrHost_phys (s : State) (a : Nat) (l : List Byte) : (s.wrHost a l).phys = s.phys := rfl
@[simp] theorem State.wrHost_repair (s : State) (a : Nat) (l : List Byte) : (s.wrHost a l).repair = s.repair := rfl
@[simp] theorem State.wrHost_parts (s : State) (a : Nat) (l : List Byte) : (s.wrHost a l).parts = s.parts := rfl
@[simp] theorem State.wrHost_funcs (s : State) (a : Nat) (l : List Byte) : (s.wrHost a l).funcs = s.funcs := rfl
@[simp] theorem State.wrHost_recs (s : State) (a : Nat) (l : List Byte) : (s.wrHost a l).recs = s.recs := rfl
@[simp] theorem State.wrHost_store (s : State) (a : Nat) (l : List Byte) : (s.wrHost a l).store = s.store := rfl
@[simp] theorem State.wrHost_mem (s : State) (a : Nat) (l : List Byte) : (s.wrHost a l).mem = s.mem := rfl
@[simp] theorem State.wrHost_badMem (s : State) (a : Nat) (l : List Byte) : (s.wrHost a l).badMem = s.badMem := rfl
@[simp] theorem State.wrHost_fab (s : State) (a : Nat) (l : List Byte) : (s.wrHost a l).fab = s.fab := rfl
@[simp] theorem State.wrHost_dies (s : State) (a : Nat) (l : List Byte) : (s.wrHost a l).dies = s.dies := rfl
@[simp] theorem State.wrHost_pow (s : State) (a : Nat) (l : List Byte) : (s.wrHost a l).pow = s.pow := rfl
@[simp] theorem State.wrHost_boot (s : State) (a : Nat) (l : List Byte) : (s.wrHost a l).boot = s.boot := rfl
@[simp] theorem State.wrHost_hif (s : State) (a : Nat) (l : List Byte) : (s.wrHost a l).hif = s.hif := rfl
@[simp] theorem State.wrHost_groom (s : State) (a : Nat) (l : List Byte) : (s.wrHost a l).groom = s.groom := rfl
@[simp] theorem State.wrHost_day (s : State) (a : Nat) (l : List Byte) : (s.wrHost a l).day = s.day := rfl
@[simp] theorem State.wrHost_daySeq (s : State) (a : Nat) (l : List Byte) : (s.wrHost a l).daySeq = s.daySeq := rfl
@[simp] theorem State.wrHost_rack (s : State) (a : Nat) (l : List Byte) : (s.wrHost a l).rack = s.rack := rfl
@[simp] theorem State.wrHost_gctr (s : State) (a : Nat) (l : List Byte) : (s.wrHost a l).gctr = s.gctr := rfl
@[simp] theorem State.wrHost_cell (s : State) (a : Nat) (l : List Byte) (j : Nat) : (s.wrHost a l).cell j = s.cell j := rfl
@[simp] theorem State.wrHost_phy (s : State) (a : Nat) (l : List Byte) (j : Nat) : (s.wrHost a l).phy j = s.phy j := rfl
@[simp] theorem State.wrHost_part (s : State) (a : Nat) (l : List Byte) (j : Nat) : (s.wrHost a l).part j = s.part j := rfl
@[simp] theorem State.wrHost_func (s : State) (a : Nat) (l : List Byte) (j : Nat) : (s.wrHost a l).func j = s.func j := rfl
@[simp] theorem State.wrHost_die (s : State) (a : Nat) (l : List Byte) (j : Nat) : (s.wrHost a l).die j = s.die j := rfl
@[simp] theorem State.wrHost_port (s : State) (a : Nat) (l : List Byte) (j : Nat) : (s.wrHost a l).port j = s.port j := rfl
@[simp] theorem State.wrHost_grp (s : State) (a : Nat) (l : List Byte) (j : Nat) : (s.wrHost a l).grp j = s.grp j := rfl
@[simp] theorem State.wrHost_reg (s : State) (a : Nat) (l : List Byte) (j : Nat) : (s.wrHost a l).reg j = s.reg j := rfl
@[simp] theorem State.wrHost_owner (s : State) (a : Nat) (l : List Byte) (j : Nat) : (s.wrHost a l).owner j = s.owner j := rfl
@[simp] theorem State.wrHost_rd8 (s : State) (a : Nat) (l : List Byte) (j : Nat) : (s.wrHost a l).rd8 j = s.rd8 j := rfl

/-! ### pcount -/

@[simp] theorem State.pcount_pending (s : State) (p i n : Nat) : (s.pcount p i n).pending = s.pending := rfl
@[simp] theorem State.pcount_time (s : State) (p i n : Nat) : (s.pcount p i n).time = s.time := rfl
@[simp] theorem State.pcount_cells (s : State) (p i n : Nat) : (s.pcount p i n).cells = s.cells := rfl
@[simp] theorem State.pcount_phys (s : State) (p i n : Nat) : (s.pcount p i n).phys = s.phys := rfl
@[simp] theorem State.pcount_repair (s : State) (p i n : Nat) : (s.pcount p i n).repair = s.repair := rfl
@[simp] theorem State.pcount_parts (s : State) (p i n : Nat) : (s.pcount p i n).parts = s.parts := rfl
@[simp] theorem State.pcount_funcs (s : State) (p i n : Nat) : (s.pcount p i n).funcs = s.funcs := rfl
@[simp] theorem State.pcount_recs (s : State) (p i n : Nat) : (s.pcount p i n).recs = s.recs := rfl
@[simp] theorem State.pcount_store (s : State) (p i n : Nat) : (s.pcount p i n).store = s.store := rfl
@[simp] theorem State.pcount_mem (s : State) (p i n : Nat) : (s.pcount p i n).mem = s.mem := rfl
@[simp] theorem State.pcount_badMem (s : State) (p i n : Nat) : (s.pcount p i n).badMem = s.badMem := rfl
@[simp] theorem State.pcount_hostMem (s : State) (p i n : Nat) : (s.pcount p i n).hostMem = s.hostMem := rfl
@[simp] theorem State.pcount_fab (s : State) (p i n : Nat) : (s.pcount p i n).fab = s.fab := rfl
@[simp] theorem State.pcount_dies (s : State) (p i n : Nat) : (s.pcount p i n).dies = s.dies := rfl
@[simp] theorem State.pcount_pow (s : State) (p i n : Nat) : (s.pcount p i n).pow = s.pow := rfl
@[simp] theorem State.pcount_boot (s : State) (p i n : Nat) : (s.pcount p i n).boot = s.boot := rfl
@[simp] theorem State.pcount_hif (s : State) (p i n : Nat) : (s.pcount p i n).hif = s.hif := rfl
@[simp] theorem State.pcount_groom (s : State) (p i n : Nat) : (s.pcount p i n).groom = s.groom := rfl
@[simp] theorem State.pcount_day (s : State) (p i n : Nat) : (s.pcount p i n).day = s.day := rfl
@[simp] theorem State.pcount_daySeq (s : State) (p i n : Nat) : (s.pcount p i n).daySeq = s.daySeq := rfl
@[simp] theorem State.pcount_rack (s : State) (p i n : Nat) : (s.pcount p i n).rack = s.rack := rfl
@[simp] theorem State.pcount_cell (s : State) (p i n : Nat) (j : Nat) : (s.pcount p i n).cell j = s.cell j := rfl
@[simp] theorem State.pcount_phy (s : State) (p i n : Nat) (j : Nat) : (s.pcount p i n).phy j = s.phy j := rfl
@[simp] theorem State.pcount_part (s : State) (p i n : Nat) (j : Nat) : (s.pcount p i n).part j = s.part j := rfl
@[simp] theorem State.pcount_func (s : State) (p i n : Nat) (j : Nat) : (s.pcount p i n).func j = s.func j := rfl
@[simp] theorem State.pcount_die (s : State) (p i n : Nat) (j : Nat) : (s.pcount p i n).die j = s.die j := rfl
@[simp] theorem State.pcount_port (s : State) (p i n : Nat) (j : Nat) : (s.pcount p i n).port j = s.port j := rfl
@[simp] theorem State.pcount_grp (s : State) (p i n : Nat) (j : Nat) : (s.pcount p i n).grp j = s.grp j := rfl
@[simp] theorem State.pcount_reg (s : State) (p i n : Nat) (j : Nat) : (s.pcount p i n).reg j = s.reg j := rfl
@[simp] theorem State.pcount_owner (s : State) (p i n : Nat) (j : Nat) : (s.pcount p i n).owner j = s.owner j := rfl
@[simp] theorem State.pcount_rd8 (s : State) (p i n : Nat) (j : Nat) : (s.pcount p i n).rd8 j = s.rd8 j := rfl

/-! ### logE -/

@[simp] theorem State.logE_pending (s : State) (e : DayEntry) : (s.logE e).pending = s.pending := rfl
@[simp] theorem State.logE_time (s : State) (e : DayEntry) : (s.logE e).time = s.time := rfl
@[simp] theorem State.logE_cells (s : State) (e : DayEntry) : (s.logE e).cells = s.cells := rfl
@[simp] theorem State.logE_phys (s : State) (e : DayEntry) : (s.logE e).phys = s.phys := rfl
@[simp] theorem State.logE_repair (s : State) (e : DayEntry) : (s.logE e).repair = s.repair := rfl
@[simp] theorem State.logE_parts (s : State) (e : DayEntry) : (s.logE e).parts = s.parts := rfl
@[simp] theorem State.logE_funcs (s : State) (e : DayEntry) : (s.logE e).funcs = s.funcs := rfl
@[simp] theorem State.logE_recs (s : State) (e : DayEntry) : (s.logE e).recs = s.recs := rfl
@[simp] theorem State.logE_store (s : State) (e : DayEntry) : (s.logE e).store = s.store := rfl
@[simp] theorem State.logE_mem (s : State) (e : DayEntry) : (s.logE e).mem = s.mem := rfl
@[simp] theorem State.logE_badMem (s : State) (e : DayEntry) : (s.logE e).badMem = s.badMem := rfl
@[simp] theorem State.logE_hostMem (s : State) (e : DayEntry) : (s.logE e).hostMem = s.hostMem := rfl
@[simp] theorem State.logE_fab (s : State) (e : DayEntry) : (s.logE e).fab = s.fab := rfl
@[simp] theorem State.logE_dies (s : State) (e : DayEntry) : (s.logE e).dies = s.dies := rfl
@[simp] theorem State.logE_pow (s : State) (e : DayEntry) : (s.logE e).pow = s.pow := rfl
@[simp] theorem State.logE_boot (s : State) (e : DayEntry) : (s.logE e).boot = s.boot := rfl
@[simp] theorem State.logE_hif (s : State) (e : DayEntry) : (s.logE e).hif = s.hif := rfl
@[simp] theorem State.logE_groom (s : State) (e : DayEntry) : (s.logE e).groom = s.groom := rfl
@[simp] theorem State.logE_rack (s : State) (e : DayEntry) : (s.logE e).rack = s.rack := rfl
@[simp] theorem State.logE_gctr (s : State) (e : DayEntry) : (s.logE e).gctr = s.gctr := rfl
@[simp] theorem State.logE_cell (s : State) (e : DayEntry) (j : Nat) : (s.logE e).cell j = s.cell j := rfl
@[simp] theorem State.logE_phy (s : State) (e : DayEntry) (j : Nat) : (s.logE e).phy j = s.phy j := rfl
@[simp] theorem State.logE_part (s : State) (e : DayEntry) (j : Nat) : (s.logE e).part j = s.part j := rfl
@[simp] theorem State.logE_func (s : State) (e : DayEntry) (j : Nat) : (s.logE e).func j = s.func j := rfl
@[simp] theorem State.logE_die (s : State) (e : DayEntry) (j : Nat) : (s.logE e).die j = s.die j := rfl
@[simp] theorem State.logE_port (s : State) (e : DayEntry) (j : Nat) : (s.logE e).port j = s.port j := rfl
@[simp] theorem State.logE_grp (s : State) (e : DayEntry) (j : Nat) : (s.logE e).grp j = s.grp j := rfl
@[simp] theorem State.logE_reg (s : State) (e : DayEntry) (j : Nat) : (s.logE e).reg j = s.reg j := rfl
@[simp] theorem State.logE_owner (s : State) (e : DayEntry) (j : Nat) : (s.logE e).owner j = s.owner j := rfl
@[simp] theorem State.logE_rd8 (s : State) (e : DayEntry) (j : Nat) : (s.logE e).rd8 j = s.rd8 j := rfl

/-! ### send -/

@[simp] theorem State.send_pending (s : State) (ty dst : Nat) (l : List Nat) : (s.send ty dst l).pending = s.pending := rfl
@[simp] theorem State.send_time (s : State) (ty dst : Nat) (l : List Nat) : (s.send ty dst l).time = s.time := rfl
@[simp] theorem State.send_cells (s : State) (ty dst : Nat) (l : List Nat) : (s.send ty dst l).cells = s.cells := rfl
@[simp] theorem State.send_phys (s : State) (ty dst : Nat) (l : List Nat) : (s.send ty dst l).phys = s.phys := rfl
@[simp] theorem State.send_repair (s : State) (ty dst : Nat) (l : List Nat) : (s.send ty dst l).repair = s.repair := rfl
@[simp] theorem State.send_parts (s : State) (ty dst : Nat) (l : List Nat) : (s.send ty dst l).parts = s.parts := rfl
@[simp] theorem State.send_funcs (s : State) (ty dst : Nat) (l : List Nat) : (s.send ty dst l).funcs = s.funcs := rfl
@[simp] theorem State.send_recs (s : State) (ty dst : Nat) (l : List Nat) : (s.send ty dst l).recs = s.recs := rfl
@[simp] theorem State.send_store (s : State) (ty dst : Nat) (l : List Nat) : (s.send ty dst l).store = s.store := rfl
@[simp] theorem State.send_mem (s : State) (ty dst : Nat) (l : List Nat) : (s.send ty dst l).mem = s.mem := rfl
@[simp] theorem State.send_badMem (s : State) (ty dst : Nat) (l : List Nat) : (s.send ty dst l).badMem = s.badMem := rfl
@[simp] theorem State.send_hostMem (s : State) (ty dst : Nat) (l : List Nat) : (s.send ty dst l).hostMem = s.hostMem := rfl
@[simp] theorem State.send_dies (s : State) (ty dst : Nat) (l : List Nat) : (s.send ty dst l).dies = s.dies := rfl
@[simp] theorem State.send_pow (s : State) (ty dst : Nat) (l : List Nat) : (s.send ty dst l).pow = s.pow := rfl
@[simp] theorem State.send_boot (s : State) (ty dst : Nat) (l : List Nat) : (s.send ty dst l).boot = s.boot := rfl
@[simp] theorem State.send_hif (s : State) (ty dst : Nat) (l : List Nat) : (s.send ty dst l).hif = s.hif := rfl
@[simp] theorem State.send_groom (s : State) (ty dst : Nat) (l : List Nat) : (s.send ty dst l).groom = s.groom := rfl
@[simp] theorem State.send_day (s : State) (ty dst : Nat) (l : List Nat) : (s.send ty dst l).day = s.day := rfl
@[simp] theorem State.send_daySeq (s : State) (ty dst : Nat) (l : List Nat) : (s.send ty dst l).daySeq = s.daySeq := rfl
@[simp] theorem State.send_rack (s : State) (ty dst : Nat) (l : List Nat) : (s.send ty dst l).rack = s.rack := rfl
@[simp] theorem State.send_gctr (s : State) (ty dst : Nat) (l : List Nat) : (s.send ty dst l).gctr = s.gctr := rfl
@[simp] theorem State.send_cell (s : State) (ty dst : Nat) (l : List Nat) (j : Nat) : (s.send ty dst l).cell j = s.cell j := rfl
@[simp] theorem State.send_phy (s : State) (ty dst : Nat) (l : List Nat) (j : Nat) : (s.send ty dst l).phy j = s.phy j := rfl
@[simp] theorem State.send_part (s : State) (ty dst : Nat) (l : List Nat) (j : Nat) : (s.send ty dst l).part j = s.part j := rfl
@[simp] theorem State.send_func (s : State) (ty dst : Nat) (l : List Nat) (j : Nat) : (s.send ty dst l).func j = s.func j := rfl
@[simp] theorem State.send_die (s : State) (ty dst : Nat) (l : List Nat) (j : Nat) : (s.send ty dst l).die j = s.die j := rfl
@[simp] theorem State.send_reg (s : State) (ty dst : Nat) (l : List Nat) (j : Nat) : (s.send ty dst l).reg j = s.reg j := rfl
@[simp] theorem State.send_owner (s : State) (ty dst : Nat) (l : List Nat) (j : Nat) : (s.send ty dst l).owner j = s.owner j := rfl
@[simp] theorem State.send_rd8 (s : State) (ty dst : Nat) (l : List Nat) (j : Nat) : (s.send ty dst l).rd8 j = s.rd8 j := rfl

/-! ### platform -/

@[simp] theorem State.platform_pending (s : State) (k arg : Nat) : (s.platform k arg).pending = s.pending := rfl
@[simp] theorem State.platform_time (s : State) (k arg : Nat) : (s.platform k arg).time = s.time := rfl
@[simp] theorem State.platform_cells (s : State) (k arg : Nat) : (s.platform k arg).cells = s.cells := rfl
@[simp] theorem State.platform_phys (s : State) (k arg : Nat) : (s.platform k arg).phys = s.phys := rfl
@[simp] theorem State.platform_repair (s : State) (k arg : Nat) : (s.platform k arg).repair = s.repair := rfl
@[simp] theorem State.platform_parts (s : State) (k arg : Nat) : (s.platform k arg).parts = s.parts := rfl
@[simp] theorem State.platform_funcs (s : State) (k arg : Nat) : (s.platform k arg).funcs = s.funcs := rfl
@[simp] theorem State.platform_recs (s : State) (k arg : Nat) : (s.platform k arg).recs = s.recs := rfl
@[simp] theorem State.platform_store (s : State) (k arg : Nat) : (s.platform k arg).store = s.store := rfl
@[simp] theorem State.platform_mem (s : State) (k arg : Nat) : (s.platform k arg).mem = s.mem := rfl
@[simp] theorem State.platform_badMem (s : State) (k arg : Nat) : (s.platform k arg).badMem = s.badMem := rfl
@[simp] theorem State.platform_hostMem (s : State) (k arg : Nat) : (s.platform k arg).hostMem = s.hostMem := rfl
@[simp] theorem State.platform_fab (s : State) (k arg : Nat) : (s.platform k arg).fab = s.fab := rfl
@[simp] theorem State.platform_dies (s : State) (k arg : Nat) : (s.platform k arg).dies = s.dies := rfl
@[simp] theorem State.platform_pow (s : State) (k arg : Nat) : (s.platform k arg).pow = s.pow := rfl
@[simp] theorem State.platform_boot (s : State) (k arg : Nat) : (s.platform k arg).boot = s.boot := rfl
@[simp] theorem State.platform_hif (s : State) (k arg : Nat) : (s.platform k arg).hif = s.hif := rfl
@[simp] theorem State.platform_day (s : State) (k arg : Nat) : (s.platform k arg).day = s.day := rfl
@[simp] theorem State.platform_daySeq (s : State) (k arg : Nat) : (s.platform k arg).daySeq = s.daySeq := rfl
@[simp] theorem State.platform_rack (s : State) (k arg : Nat) : (s.platform k arg).rack = s.rack := rfl
@[simp] theorem State.platform_gctr (s : State) (k arg : Nat) : (s.platform k arg).gctr = s.gctr := rfl
@[simp] theorem State.platform_cell (s : State) (k arg : Nat) (j : Nat) : (s.platform k arg).cell j = s.cell j := rfl
@[simp] theorem State.platform_phy (s : State) (k arg : Nat) (j : Nat) : (s.platform k arg).phy j = s.phy j := rfl
@[simp] theorem State.platform_part (s : State) (k arg : Nat) (j : Nat) : (s.platform k arg).part j = s.part j := rfl
@[simp] theorem State.platform_func (s : State) (k arg : Nat) (j : Nat) : (s.platform k arg).func j = s.func j := rfl
@[simp] theorem State.platform_die (s : State) (k arg : Nat) (j : Nat) : (s.platform k arg).die j = s.die j := rfl
@[simp] theorem State.platform_port (s : State) (k arg : Nat) (j : Nat) : (s.platform k arg).port j = s.port j := rfl
@[simp] theorem State.platform_grp (s : State) (k arg : Nat) (j : Nat) : (s.platform k arg).grp j = s.grp j := rfl
@[simp] theorem State.platform_reg (s : State) (k arg : Nat) (j : Nat) : (s.platform k arg).reg j = s.reg j := rfl
@[simp] theorem State.platform_owner (s : State) (k arg : Nat) (j : Nat) : (s.platform k arg).owner j = s.owner j := rfl
@[simp] theorem State.platform_rd8 (s : State) (k arg : Nat) (j : Nat) : (s.platform k arg).rd8 j = s.rd8 j := rfl

/-! ### fire -/

@[simp] theorem State.fire_pending (s : State) (p v : Nat) : (s.fire p v).pending = s.pending := rfl
@[simp] theorem State.fire_time (s : State) (p v : Nat) : (s.fire p v).time = s.time := rfl
@[simp] theorem State.fire_cells (s : State) (p v : Nat) : (s.fire p v).cells = s.cells := rfl
@[simp] theorem State.fire_phys (s : State) (p v : Nat) : (s.fire p v).phys = s.phys := rfl
@[simp] theorem State.fire_repair (s : State) (p v : Nat) : (s.fire p v).repair = s.repair := rfl
@[simp] theorem State.fire_parts (s : State) (p v : Nat) : (s.fire p v).parts = s.parts := rfl
@[simp] theorem State.fire_recs (s : State) (p v : Nat) : (s.fire p v).recs = s.recs := rfl
@[simp] theorem State.fire_store (s : State) (p v : Nat) : (s.fire p v).store = s.store := rfl
@[simp] theorem State.fire_mem (s : State) (p v : Nat) : (s.fire p v).mem = s.mem := rfl
@[simp] theorem State.fire_badMem (s : State) (p v : Nat) : (s.fire p v).badMem = s.badMem := rfl
@[simp] theorem State.fire_hostMem (s : State) (p v : Nat) : (s.fire p v).hostMem = s.hostMem := rfl
@[simp] theorem State.fire_fab (s : State) (p v : Nat) : (s.fire p v).fab = s.fab := rfl
@[simp] theorem State.fire_dies (s : State) (p v : Nat) : (s.fire p v).dies = s.dies := rfl
@[simp] theorem State.fire_pow (s : State) (p v : Nat) : (s.fire p v).pow = s.pow := rfl
@[simp] theorem State.fire_boot (s : State) (p v : Nat) : (s.fire p v).boot = s.boot := rfl
@[simp] theorem State.fire_hif (s : State) (p v : Nat) : (s.fire p v).hif = s.hif := rfl
@[simp] theorem State.fire_groom (s : State) (p v : Nat) : (s.fire p v).groom = s.groom := rfl
@[simp] theorem State.fire_day (s : State) (p v : Nat) : (s.fire p v).day = s.day := rfl
@[simp] theorem State.fire_daySeq (s : State) (p v : Nat) : (s.fire p v).daySeq = s.daySeq := rfl
@[simp] theorem State.fire_rack (s : State) (p v : Nat) : (s.fire p v).rack = s.rack := rfl
@[simp] theorem State.fire_gctr (s : State) (p v : Nat) : (s.fire p v).gctr = s.gctr := rfl
@[simp] theorem State.fire_cell (s : State) (p v : Nat) (j : Nat) : (s.fire p v).cell j = s.cell j := rfl
@[simp] theorem State.fire_phy (s : State) (p v : Nat) (j : Nat) : (s.fire p v).phy j = s.phy j := rfl
@[simp] theorem State.fire_part (s : State) (p v : Nat) (j : Nat) : (s.fire p v).part j = s.part j := rfl
@[simp] theorem State.fire_die (s : State) (p v : Nat) (j : Nat) : (s.fire p v).die j = s.die j := rfl
@[simp] theorem State.fire_port (s : State) (p v : Nat) (j : Nat) : (s.fire p v).port j = s.port j := rfl
@[simp] theorem State.fire_grp (s : State) (p v : Nat) (j : Nat) : (s.fire p v).grp j = s.grp j := rfl
@[simp] theorem State.fire_reg (s : State) (p v : Nat) (j : Nat) : (s.fire p v).reg j = s.reg j := rfl
@[simp] theorem State.fire_owner (s : State) (p v : Nat) (j : Nat) : (s.fire p v).owner j = s.owner j := rfl
@[simp] theorem State.fire_rd8 (s : State) (p v : Nat) (j : Nat) : (s.fire p v).rd8 j = s.rd8 j := rfl

end Sys2Proof.Machine
end

