-- ==== Sys2Proof/Laws/Tables.lean ====
section
/-! SUPPORT. Laws/Tables: what the operations on sparse tables do, and that they keep the canonical form. -/

namespace Sys2Proof.Machine

variable {α : Type}

/-- Reading after an insertion. -/
theorem tget_tins (t : Tbl α) (k j : Nat) (v d : α) : tget (tins t k v) j d = if j = k then v else tget t j d := by
  induction t with
  | nil => simp only [tins, tget]; split <;> split <;> simp_all
  | cons e r ih =>
    obtain ⟨i, w⟩ := e
    simp only [tins]
    split
    · simp only [tget]; grind
    · split
      · simp only [tget]; grind
      · simp only [tget, ih]; grind

/-- Reading after a deletion. -/
theorem tget_tdel (t : Tbl α) (k j : Nat) (d : α) : tget (tdel t k) j d = if j = k then d else tget t j d := by
  induction t with
  | nil => simp [tdel, tget]
  | cons e r ih =>
    obtain ⟨i, w⟩ := e
    simp only [tdel, List.filter_cons] at ih ⊢
    split
    · simp only [tget, ih]; grind
    · rw [ih]; simp only [tget]; grind

/-- Reading after a write: the value at its key, every other key as before. -/
theorem tget_tset [DecidableEq α] (t : Tbl α) (k j : Nat) (v d : α) :
    tget (tset t k v d) j d = if j = k then v else tget t j d := by
  unfold tset
  split
  · next h => rw [tget_tdel, h]
  · exact tget_tins t k j v d

@[simp] theorem tget_tset_self [DecidableEq α] (t : Tbl α) (k : Nat) (v d : α) : tget (tset t k v d) k d = v := by
  simp [tget_tset]

theorem tget_tset_ne [DecidableEq α] (t : Tbl α) {k j : Nat} (v d : α) (h : j ≠ k) :
    tget (tset t k v d) j d = tget t j d := by
  simp [tget_tset, h]

/-- Reading after a run of writes. -/
theorem tget_tputs [DecidableEq α] (l : List α) (t : Tbl α) (k j : Nat) (d : α) :
    tget (tputs t k l d) j d = if k ≤ j ∧ j < k + l.length then l.getD (j - k) d else tget t j d := by
  induction l generalizing t k with
  | nil => simp only [tputs, List.length_nil]; split <;> [omega; rfl]
  | cons v r ih =>
    simp only [tputs, ih, tget_tset, List.length_cons]
    by_cases h1 : k + 1 ≤ j ∧ j < k + 1 + r.length
    · have h2 : k ≤ j ∧ j < k + (r.length + 1) := by omega
      obtain ⟨m, hm⟩ : ∃ m, j - k = m + 1 := ⟨j - k - 1, by omega⟩
      have h3 : j - (k + 1) = m := by omega
      simp [h1, h2, hm, h3]
    · by_cases h4 : j = k
      · subst h4; simp
      · have h2 : ¬ (k ≤ j ∧ j < k + (r.length + 1)) := by omega
        rw [if_neg h1, if_neg h4, if_neg h2]

/-- Reading after a range is cleared. -/
theorem tget_tclear (t : Tbl α) (lo hi j : Nat) (d : α) :
    tget (tclear t lo hi) j d = if lo ≤ j ∧ j < hi then d else tget t j d := by
  induction t with
  | nil => simp [tclear, tget]
  | cons e r ih =>
    obtain ⟨i, w⟩ := e
    simp only [tclear, List.filter_cons] at ih ⊢
    split
    · simp only [tget, ih]; grind
    · rw [ih]; simp only [tget]; grind

/-! ### The canonical form -/

/-- The canonical form, said of the whole list: keys strictly rising and no entry equal to the default. -/
theorem twf_iff [DecidableEq α] (t : Tbl α) (d : α) :
    twf t d = true ↔ (t.Pairwise (fun a b => a.1 < b.1) ∧ ∀ e ∈ t, e.2 ≠ d) := by
  induction t with
  | nil => simp [twf]
  | cons e r ih =>
    obtain ⟨i, w⟩ := e
    cases r with
    | nil => simp [twf]
    | cons f q =>
      obtain ⟨j, v⟩ := f
      simp only [twf, Bool.and_eq_true, decide_eq_true_eq, ih, List.pairwise_cons, List.mem_cons, forall_eq_or_imp]
      constructor
      · rintro ⟨⟨h1, h2⟩, ⟨h3, h4⟩, h5, h6⟩
        exact ⟨⟨⟨h2, fun a ha => Nat.lt_trans h2 (h3 a ha)⟩, h3, h4⟩, h1, h5, h6⟩
      · rintro ⟨⟨⟨h2, _⟩, h3, h4⟩, h1, h5, h6⟩
        exact ⟨⟨h1, h2⟩, ⟨h3, h4⟩, h5, h6⟩

/-- Any part of a canonical table picked out by a test is canonical. -/
theorem twf_filter [DecidableEq α] {t : Tbl α} {d : α} (p : Nat × α → Bool) (h : twf t d = true) : twf (t.filter p) d = true := by
  rw [twf_iff] at h ⊢
  exact ⟨h.1.filter p, fun e he => h.2 e (List.mem_filter.mp he).1⟩

theorem twf_tdel [DecidableEq α] {t : Tbl α} {d : α} (k : Nat) (h : twf t d = true) : twf (tdel t k) d = true := twf_filter _ h

theorem twf_tclear [DecidableEq α] {t : Tbl α} {d : α} (lo hi : Nat) (h : twf t d = true) : twf (tclear t lo hi) d = true :=
  twf_filter _ h

/-- The keys of a table after an insertion. -/
theorem mem_tins {t : Tbl α} {k : Nat} {v : α} {e : Nat × α} (h : e ∈ tins t k v) : e = (k, v) ∨ e ∈ t := by
  induction t with
  | nil => simpa [tins] using h
  | cons f r ih =>
    obtain ⟨i, w⟩ := f
    simp only [tins] at h
    split at h
    · simpa using h
    · split at h
      · rcases List.mem_cons.mp h with h | h
        · exact .inl h
        · exact .inr (List.mem_cons_of_mem _ h)
      · rcases List.mem_cons.mp h with h | h
        · exact .inr (h ▸ List.mem_cons_self)
        · exact (ih h).imp id (List.mem_cons_of_mem _)

theorem twf_tins [DecidableEq α] {t : Tbl α} {d : α} (k : Nat) {v : α} (hv : v ≠ d) (h : twf t d = true) :
    twf (tins t k v) d = true := by
  rw [twf_iff] at h ⊢
  refine ⟨?_, fun e he => ?_⟩
  · replace h := h.1
    clear hv
    induction t with
    | nil => simp [tins]
    | cons f r ih =>
      obtain ⟨i, w⟩ := f
      rw [List.pairwise_cons] at h
      simp only [tins]
      split
      · next hk =>
        refine List.pairwise_cons.mpr ⟨fun e he => ?_, List.pairwise_cons.mpr h⟩
        rcases List.mem_cons.mp he with he | he
        · subst he; exact hk
        · exact Nat.lt_trans hk (h.1 e he)
      · split
        · next hk => subst hk; exact List.pairwise_cons.mpr h
        · next h1 h2 =>
          refine List.pairwise_cons.mpr ⟨fun e he => ?_, ih h.2⟩
          rcases mem_tins he with he | he
          · subst he; show i < k; omega
          · exact h.1 e he
  · rcases mem_tins he with he | he
    · subst he; exact hv
    · exact h.2 e he

/-- A write keeps the canonical form. -/
theorem twf_tset [DecidableEq α] {t : Tbl α} {d : α} (k : Nat) (v : α) (h : twf t d = true) : twf (tset t k v d) d = true := by
  unfold tset
  split
  · exact twf_tdel k h
  · next hv => exact twf_tins k hv h

theorem twf_tputs [DecidableEq α] {d : α} (l : List α) {t : Tbl α} (k : Nat) (h : twf t d = true) :
    twf (tputs t k l d) d = true := by
  induction l generalizing t k with
  | nil => exact h
  | cons v r ih => exact ih (k + 1) (twf_tset k v h)

end Sys2Proof.Machine
end

