-- ==== Sys2Proof/Laws/Access.lean ====
section
/-! SUPPORT. Laws/Access: what the accessors read after an update of the same part. -/

namespace Sys2Proof.Machine

theorem State.setCell_cell (s : State) (c d : Nat) (v : Cell) : (s.setCell c v).cell d = if d = c then v else s.cell d :=
  tget_tset _ _ _ _ _

@[simp] theorem State.setCell_cell_self (s : State) (c : Nat) (v : Cell) : (s.setCell c v).cell c = v := by
  simp [State.setCell_cell]

theorem State.modCell_cell (s : State) (c d : Nat) (f : Cell → Cell) :
    (s.modCell c f).cell d = if d = c then f (s.cell c) else s.cell d := State.setCell_cell s c d _

@[simp] theorem State.modCell_cell_self (s : State) (c : Nat) (f : Cell → Cell) : (s.modCell c f).cell c = f (s.cell c) := by
  simp [State.modCell_cell]

theorem State.modPhy_phy (s : State) (r q : Nat) (f : Phys → Phys) :
    (s.modPhy r f).phy q = if q = r then f (s.phy r) else s.phy q := tget_tset _ _ _ _ _

@[simp] theorem State.modPhy_phy_self (s : State) (r : Nat) (f : Phys → Phys) : (s.modPhy r f).phy r = f (s.phy r) := by
  simp [State.modPhy_phy]

theorem State.modXbar_xbar (s : State) (r x q y : Nat) (f : Xbar → Xbar) :
    (s.modXbar r x f).xbar q y = if q = r ∧ y = x then f (s.xbar r x) else s.xbar q y := by
  unfold State.modXbar State.xbar
  rw [State.modPhy_phy]
  by_cases h : q = r
  · subst h; simp [tget_tset]
  · simp [h]

@[simp] theorem State.modXbar_xbar_self (s : State) (r x : Nat) (f : Xbar → Xbar) :
    (s.modXbar r x f).xbar r x = f (s.xbar r x) := by simp [State.modXbar_xbar]

theorem State.modPart_part (s : State) (p q : Nat) (f : Part → Part) :
    (s.modPart p f).part q = if q = p then f (s.part p) else s.part q := tget_tset _ _ _ _ _

@[simp] theorem State.modPart_part_self (s : State) (p : Nat) (f : Part → Part) : (s.modPart p f).part p = f (s.part p) := by
  simp [State.modPart_part]

theorem State.modFunc_func (s : State) (p q : Nat) (f : Func → Func) :
    (s.modFunc p f).func q = if q = p then f (s.func p) else s.func q := tget_tset _ _ _ _ _

@[simp] theorem State.modFunc_func_self (s : State) (p : Nat) (f : Func → Func) : (s.modFunc p f).func p = f (s.func p) := by
  simp [State.modFunc_func]

theorem State.modQueue_queue (s : State) (p q a b : Nat) (f : Queue → Queue) :
    (s.modQueue p q f).queue a b = if a = p ∧ b = q then f (s.queue p q) else s.queue a b := by
  unfold State.modQueue State.queue
  rw [State.modFunc_func]
  by_cases h : a = p
  · subst h; simp [tget_tset]
  · simp [h]

@[simp] theorem State.modQueue_queue_self (s : State) (p q : Nat) (f : Queue → Queue) :
    (s.modQueue p q f).queue p q = f (s.queue p q) := by simp [State.modQueue_queue]

theorem State.modDie_die (s : State) (d e : Nat) (f : Die → Die) :
    (s.modDie d f).die e = if e = d then f (s.die d) else s.die e := tget_tset _ _ _ _ _

@[simp] theorem State.modDie_die_self (s : State) (d : Nat) (f : Die → Die) : (s.modDie d f).die d = f (s.die d) := by
  simp [State.modDie_die]

theorem State.modPort_port (s : State) (p q : Nat) (f : Port → Port) :
    (s.modPort p f).port q = if q = p then f (s.port p) else s.port q := tget_tset _ _ _ _ _

@[simp] theorem State.modPort_port_self (s : State) (p : Nat) (f : Port → Port) : (s.modPort p f).port p = f (s.port p) := by
  simp [State.modPort_port]

theorem State.modGrp_grp (s : State) (g h : Nat) (f : Group → Group) :
    (s.modGrp g f).grp h = if h = g then f (s.grp g) else s.grp h := tget_tset _ _ _ _ _

@[simp] theorem State.modGrp_grp_self (s : State) (g : Nat) (f : Group → Group) : (s.modGrp g f).grp g = f (s.grp g) := by
  simp [State.modGrp_grp]

@[simp] theorem State.modFab_fab (s : State) (f : Fab → Fab) : (s.modFab f).fab = f s.fab := rfl
@[simp] theorem State.modPow_pow (s : State) (f : Pow → Pow) : (s.modPow f).pow = f s.pow := rfl
@[simp] theorem State.modBoot_boot (s : State) (f : Boot → Boot) : (s.modBoot f).boot = f s.boot := rfl
@[simp] theorem State.modHif_hif (s : State) (f : HostIf → HostIf) : (s.modHif f).hif = f s.hif := rfl
@[simp] theorem State.modGroom_groom (s : State) (f : Groom → Groom) : (s.modGroom f).groom = f s.groom := rfl
@[simp] theorem State.modRack_rack (s : State) (f : Rack → Rack) : (s.modRack f).rack = f s.rack := rfl

/-- A byte of module memory after a write: the byte written there, every other as before. -/
theorem State.wrMem_rd8 (s : State) (a b : Nat) (l : List Byte) :
    (s.wrMem a l).rd8 b = if a ≤ b ∧ b < a + l.length then l.getD (b - a) 0 else s.rd8 b := tget_tputs _ _ _ _ _

/-- A write of module memory keeps its canonical form. -/
theorem State.wrMem_wf (s : State) (a : Nat) (l : List Byte) (h : Memory.wf s.mem = true) : Memory.wf (s.wrMem a l).mem = true :=
  twf_tputs l a h

end Sys2Proof.Machine
end

