-- ==== Sys2Proof/Laws/Ops.lean ====
section
/-! SUPPORT. Laws/Ops: for each shared operation, the parts of the state it can change. -/

namespace Sys2Proof.Machine

/-! ### The relation -/

theorem State.onlyIn_refl (s : State) (l : List Area) : s.onlyIn s l := by
  intro a _
  cases a <;> rfl

theorem State.onlyIn.trans {s t u : State} {l : List Area} (h : s.onlyIn t l) (k : t.onlyIn u l) : s.onlyIn u l := by
  intro a ha
  have h1 := h a ha
  have h2 := k a ha
  cases a <;> exact Eq.trans h2 h1

theorem State.onlyIn.mono {s t : State} {l m : List Area} (h : s.onlyIn t l) (k : ∀ a ∈ l, a ∈ m) : s.onlyIn t m :=
  fun a ha => h a (fun hl => ha (k a hl))

/-- A state that agrees with another outside a list is known in each part outside it. -/
theorem State.onlyIn.cells {s t : State} {l : List Area} (h : s.onlyIn t l) (k : .cells ∉ l) : t.cells = s.cells := h _ k
theorem State.onlyIn.mem {s t : State} {l : List Area} (h : s.onlyIn t l) (k : .mem ∉ l) : t.mem = s.mem := h _ k
theorem State.onlyIn.pending {s t : State} {l : List Area} (h : s.onlyIn t l) (k : .pending ∉ l) : t.pending = s.pending := h _ k

/-- A fold of operations that stay within some parts stays within them. -/
theorem State.onlyIn_foldl {α : Type} {l : List Area} {f : State → α → State} (hf : ∀ (s : State) x, s.onlyIn (f s x) l) (xs : List α)
    (s : State) : s.onlyIn (xs.foldl f s) l := by
  induction xs generalizing s with
  | nil => exact s.onlyIn_refl l
  | cons x r ih => exact (hf s x).trans (ih (f s x))

/-! ### Named updates -/

theorem State.setCell_only (s : State) (c : Nat) (v : Cell) : s.onlyIn (s.setCell c v) [.cells] := by
  intro a ha; cases a <;> first | rfl | exact absurd (by decide) ha
theorem State.modCell_only (s : State) (c : Nat) (f : Cell → Cell) : s.onlyIn (s.modCell c f) [.cells] := s.setCell_only c _
theorem State.modPhy_only (s : State) (r : Nat) (f : Phys → Phys) : s.onlyIn (s.modPhy r f) [.phys] := by
  intro a ha; cases a <;> first | rfl | exact absurd (by decide) ha
theorem State.modXbar_only (s : State) (r x : Nat) (f : Xbar → Xbar) : s.onlyIn (s.modXbar r x f) [.phys] := s.modPhy_only r _
theorem State.modPart_only (s : State) (p : Nat) (f : Part → Part) : s.onlyIn (s.modPart p f) [.parts] := by
  intro a ha; cases a <;> first | rfl | exact absurd (by decide) ha
theorem State.modFunc_only (s : State) (p : Nat) (f : Func → Func) : s.onlyIn (s.modFunc p f) [.funcs] := by
  intro a ha; cases a <;> first | rfl | exact absurd (by decide) ha
theorem State.modQueue_only (s : State) (p q : Nat) (f : Queue → Queue) : s.onlyIn (s.modQueue p q f) [.funcs] := s.modFunc_only p _
theorem State.modDie_only (s : State) (d : Nat) (f : Die → Die) : s.onlyIn (s.modDie d f) [.dies] := by
  intro a ha; cases a <;> first | rfl | exact absurd (by decide) ha
theorem State.modFab_only (s : State) (f : Fab → Fab) : s.onlyIn (s.modFab f) [.fab] := by
  intro a ha; cases a <;> first | rfl | exact absurd (by decide) ha
theorem State.modPort_only (s : State) (p : Nat) (f : Port → Port) : s.onlyIn (s.modPort p f) [.fab] := s.modFab_only _
theorem State.modGrp_only (s : State) (g : Nat) (f : Group → Group) : s.onlyIn (s.modGrp g f) [.fab] := s.modFab_only _
theorem State.modPow_only (s : State) (f : Pow → Pow) : s.onlyIn (s.modPow f) [.pow] := by
  intro a ha; cases a <;> first | rfl | exact absurd (by decide) ha
theorem State.modBoot_only (s : State) (f : Boot → Boot) : s.onlyIn (s.modBoot f) [.boot] := by
  intro a ha; cases a <;> first | rfl | exact absurd (by decide) ha
theorem State.modHif_only (s : State) (f : HostIf → HostIf) : s.onlyIn (s.modHif f) [.hif] := by
  intro a ha; cases a <;> first | rfl | exact absurd (by decide) ha
theorem State.modGroom_only (s : State) (f : Groom → Groom) : s.onlyIn (s.modGroom f) [.groom] := by
  intro a ha; cases a <;> first | rfl | exact absurd (by decide) ha
theorem State.modRack_only (s : State) (f : Rack → Rack) : s.onlyIn (s.modRack f) [.rack] := by
  intro a ha; cases a <;> first | rfl | exact absurd (by decide) ha
theorem State.setFld_only (s : State) (p ty k o n v : Nat) : s.onlyIn (s.setFld p ty k o n v) [.recs] := by
  intro a ha; cases a <;> first | rfl | exact absurd (by decide) ha
theorem State.wrMem_only (s : State) (a : Nat) (l : List Byte) : s.onlyIn (s.wrMem a l) [.mem] := by
  intro a ha; cases a <;> first | rfl | exact absurd (by decide) ha
theorem State.wrHost_only (s : State) (a : Nat) (l : List Byte) : s.onlyIn (s.wrHost a l) [.hostMem] := by
  intro a ha; cases a <;> first | rfl | exact absurd (by decide) ha
theorem State.pcount_only (s : State) (p i n : Nat) : s.onlyIn (s.pcount p i n) [.gctr] := by
  intro a ha; cases a <;> first | rfl | exact absurd (by decide) ha
theorem State.logE_only (s : State) (e : DayEntry) : s.onlyIn (s.logE e) [.day, .daySeq] := by
  intro a ha; cases a <;> first | rfl | exact absurd (by decide) ha
theorem State.send_only (s : State) (ty dst : Nat) (l : List Nat) : s.onlyIn (s.send ty dst l) [.fab] := s.modFab_only _
theorem State.platform_only (s : State) (k arg : Nat) : s.onlyIn (s.platform k arg) [.groom] := s.modGroom_only _
theorem State.fire_only (s : State) (p v : Nat) : s.onlyIn (s.fire p v) [.funcs] := s.modFunc_only p _

/-! ### Counters and the daybook -/

theorem State.count_only (s : State) (c ev n : Nat) (l : List (Nat × Nat)) : s.onlyIn (s.count c ev n l) [.cells] := by
  unfold State.count
  extract_lets q
  split
  · exact s.modCell_only c _
  · exact s.onlyIn_refl _

theorem State.gcount_only (s : State) (i n : Nat) (l : List (Nat × Nat)) : s.onlyIn (s.gcount i n l) [.gctr] := by
  unfold State.gcount
  extract_lets q
  split
  · intro a ha; cases a <;> first | rfl | exact absurd (by decide) ha
  · exact s.onlyIn_refl _

theorem State.countEdge_only (s : State) (c ev : Nat) : s.onlyIn (s.countEdge c ev) [.cells] := by
  unfold State.countEdge
  split
  · exact s.count_only c ev 1 []
  · exact s.onlyIn_refl _

theorem State.log_only (s : State) (src code arg : Nat) (l : List Nat) : s.onlyIn (s.log src code arg l) [.day, .daySeq] := s.logE_only _
theorem State.logP_only (s : State) (src p code arg : Nat) (l : List Nat) : s.onlyIn (s.logP src p code arg l) [.day, .daySeq] :=
  s.logE_only _
theorem State.logC_only (s : State) (c code arg : Nat) (l : List Nat) : s.onlyIn (s.logC c code arg l) [.day, .daySeq] := s.logE_only _
theorem State.logR_only (s : State) (r code arg : Nat) (l : List Nat) : s.onlyIn (s.logR r code arg l) [.day, .daySeq] := by
  unfold State.logR
  split
  · exact s.logC_only _ _ _ _
  · exact s.logE_only _

/-! ### Completions -/

theorem State.placeCqe_only (s : State) (p q : Nat) (e : Cqe) : s.onlyIn (s.placeCqe p q e) [.funcs, .hostMem] := by
  unfold State.placeCqe
  extract_lets
  split
  · exact ((s.wrHost_only _ _).mono (by decide)).trans (((State.modQueue_only _ p q _).mono (by decide)).trans
      ((State.fire_only _ p _).mono (by decide)))
  · exact ((s.wrHost_only _ _).mono (by decide)).trans ((State.modQueue_only _ p q _).mono (by decide))

theorem State.postCqe_only (s : State) (p q : Nat) (e : Cqe) : s.onlyIn (s.postCqe p q e) [.funcs, .hostMem] := by
  unfold State.postCqe
  extract_lets
  split
  · exact s.onlyIn_refl _
  · split
    · exact (s.modQueue_only p q _).mono (by decide)
    · exact s.placeCqe_only p q e

theorem State.drainCqe_only (n : Nat) (s : State) (p q : Nat) : s.onlyIn (s.drainCqe p q n) [.funcs, .hostMem] := by
  induction n generalizing s with
  | zero => exact s.onlyIn_refl _
  | succ n ih =>
    unfold State.drainCqe
    extract_lets
    split
    · exact s.onlyIn_refl _
    · split
      · exact s.onlyIn_refl _
      · exact ((s.modQueue_only p q _).mono (by decide)).trans ((State.placeCqe_only _ p q _).trans (ih _))

theorem State.event_only (s : State) (p k c a b : Nat) (f : Bool) : s.onlyIn (s.event p k c a b f) [.funcs, .hostMem] :=
  s.postCqe_only p 0 _

theorem State.complete_only (s : State) (p q cid st ca a b : Nat) (i : Bool) :
    s.onlyIn (s.complete p q cid st ca a b i) [.funcs, .hostMem] :=
  ((s.modQueue_only p q _).mono (by decide)).trans (State.postCqe_only _ p q _)

theorem State.settle_only (s : State) (p tok st ca : Nat) : s.onlyIn (s.settle p tok st ca) [.funcs, .hostMem] := by
  unfold State.settle
  split
  · exact s.onlyIn_refl _
  · exact s.complete_only p _ _ st ca 0 0 _

/-! ### Faults and flags -/

/-- The parts a cell's fault can change. -/
abbrev faultAreas : List Area := [.cells, .funcs, .hostMem, .day, .daySeq]

theorem State.faultAt_only (s : State) (c code cause pc : Nat) (w : BitVec 128) (a u : Nat) :
    s.onlyIn (s.faultAt c code cause pc w a u) faultAreas := by
  unfold State.faultAt
  extract_lets
  split
  · exact s.onlyIn_refl _
  · exact ((s.setCell_only c _).mono (by decide)).trans (((State.count_only _ c _ 1 []).mono (by decide)).trans
      ((State.onlyIn_foldl (fun s t => (s.settle_only _ t 0 0).mono (by decide)) _ _).trans
        (((State.event_only _ _ 5 0 _ code false).mono (by decide)).trans ((State.logC_only _ c _ _ _).mono (by decide)))))

theorem State.precise_only (s : State) (c code cause : Nat) : s.onlyIn (s.precise c code cause) faultAreas :=
  s.faultAt_only c code cause _ _ 0 8

theorem State.addFlag_only (s : State) (c k n : Nat) : s.onlyIn (s.addFlag c k n) faultAreas := by
  unfold State.addFlag
  split
  · exact s.onlyIn_refl _
  · dsimp only
    split
    · exact (s.modCell_only c _).mono (by decide)
    · exact ((s.modCell_only c _).mono (by decide)).trans (State.precise_only _ c _ 0)

theorem State.moduleFault_only (s : State) (cause u : Nat) : s.onlyIn (s.moduleFault cause u) [.boot, .groom, .day, .daySeq] :=
  ((s.modBoot_only _).mono (by decide)).trans (((State.platform_only _ 4 cause).mono (by decide)).trans
    ((State.log_only _ 0 _ cause [u]).mono (by decide)))

/-- A flag counter below its end takes the count, and only that counter (R35). -/
theorem State.addFlag_flag (s : State) (c k n j : Nat) (hk : k ≠ 0) (h : tget (s.cell c).flags k 0 + n < 2 ^ 32) :
    tget ((s.addFlag c k n).cell c).flags j 0 = if j = k then tget (s.cell c).flags k 0 + n else tget (s.cell c).flags j 0 := by
  unfold State.addFlag
  extract_lets v
  rw [if_neg (by simpa using hk), if_pos h, State.modCell_cell_self]
  exact tget_tset _ _ _ _ _

/-- A message for this module, sound in its reserved fields, is acted on; no message is a fault or a refusal (R297, R302). -/
theorem State.receive_next (s : State) (h : Hdr) (f : State → State) (h0 : h.rsv = 0)
    (h1 : h.dst = s.fab.nodeId ∨ h.dst = 0xFFFF) : s.receive h f = .next (f s) := by
  unfold State.receive
  rcases h1 with h1 | h1 <;> simp [h0, h1]

end Sys2Proof.Machine
end

