-- ==== Sys2Proof/Laws/Control.lean ====
section
/-! SUPPORT. Laws/Control: what the retirement of an instruction and its entry into a unit's queue change. -/

namespace Sys2Proof.Machine

theorem Cell.sameBody_refl (x : Cell) : x.sameBody x := rfl

theorem Cell.sameBody.trans {x y z : Cell} (h : x.sameBody y) (k : y.sameBody z) : x.sameBody z := by
  unfold Cell.sameBody at h k ⊢
  rw [h] at k
  exact k

theorem State.cellOnly_refl (s : State) (c : Nat) : s.cellOnly s c := ⟨s.onlyIn_refl _, fun _ _ => rfl⟩

theorem State.cellOnly.trans {s t u : State} {c : Nat} (h : s.cellOnly t c) (k : t.cellOnly u c) : s.cellOnly u c :=
  ⟨h.1.trans k.1, fun d hd => (k.2 d hd).trans (h.2 d hd)⟩

theorem State.modCell_cellOnly (s : State) (c : Nat) (f : Cell → Cell) : s.cellOnly (s.modCell c f) c :=
  ⟨s.modCell_only c f, fun d hd => by rw [State.modCell_cell, if_neg hd]⟩

theorem State.setCell_cellOnly (s : State) (c : Nat) (v : Cell) : s.cellOnly (s.setCell c v) c :=
  ⟨s.setCell_only c v, fun d hd => by rw [State.setCell_cell, if_neg hd]⟩

theorem State.count_cellOnly (s : State) (c ev n : Nat) (l : List (Nat × Nat)) : s.cellOnly (s.count c ev n l) c := by
  unfold State.count
  extract_lets q
  split
  · exact s.modCell_cellOnly c _
  · exact s.cellOnly_refl c

/-- A counted event changes nothing of its cell but the counters. -/
theorem State.count_cell (s : State) (c ev n : Nat) (l : List (Nat × Nat)) :
    (s.count c ev n l).cell c = { s.cell c with ctr := ((s.count c ev n l).cell c).ctr } := by
  unfold State.count
  extract_lets q
  split
  · rw [State.modCell_cell_self]
  · rfl

/-- Two cells agree in everything but the event counters and the sampling of tags. -/
def Cell.sameRun (x y : Cell) : Prop :=
  x.sameBody y ∧ y.pc = x.pc ∧ y.loops = x.loops ∧ y.wait = x.wait ∧ y.heartbeat = x.heartbeat ∧ y.flags = x.flags ∧
    y.unitStatus = x.unitStatus

theorem Cell.sameRun_refl (x : Cell) : x.sameRun x := ⟨rfl, rfl, rfl, rfl, rfl, rfl, rfl⟩

theorem Cell.sameRun.trans {x y z : Cell} (h : x.sameRun y) (k : y.sameRun z) : x.sameRun z :=
  ⟨h.1.trans k.1, k.2.1.trans h.2.1, k.2.2.1.trans h.2.2.1, k.2.2.2.1.trans h.2.2.2.1, k.2.2.2.2.1.trans h.2.2.2.2.1,
    k.2.2.2.2.2.1.trans h.2.2.2.2.2.1, k.2.2.2.2.2.2.trans h.2.2.2.2.2.2⟩

theorem State.count_sameRun (s : State) (c ev n : Nat) (l : List (Nat × Nat)) : (s.cell c).sameRun ((s.count c ev n l).cell c) := by
  rw [s.count_cell]
  exact ⟨rfl, rfl, rfl, rfl, rfl, rfl, rfl⟩

theorem State.modCell_sameRun (s : State) (c : Nat) (f : Cell → Cell) (h : ∀ x : Cell, x.sameRun (f x)) :
    (s.cell c).sameRun ((s.modCell c f).cell c) := by
  rw [State.modCell_cell_self]; exact h _

theorem State.sampleTag_cellOnly (s : State) (c : Nat) : s.cellOnly (s.sampleTag c).1 c := by
  unfold State.sampleTag
  extract_lets cl k hit u
  split
  · exact s.cellOnly_refl c
  · split
    · exact s.modCell_cellOnly c _
    · split
      · exact (s.modCell_cellOnly c _).trans (State.count_cellOnly _ c _ _ _)
      · exact (s.modCell_cellOnly c _).trans ((State.modCell_cellOnly _ c _).trans (State.count_cellOnly _ c _ _ _))

theorem State.sampleTag_sameRun (s : State) (c : Nat) : (s.cell c).sameRun ((s.sampleTag c).1.cell c) := by
  unfold State.sampleTag
  extract_lets cl k hit u
  have hu : (s.cell c).sameRun (u.cell c) := s.modCell_sameRun c _ (fun _ => ⟨rfl, rfl, rfl, rfl, rfl, rfl, rfl⟩)
  clear_value u
  split
  · exact Cell.sameRun_refl _
  · split
    · exact hu
    · split
      · exact hu.trans (State.count_sameRun _ _ _ _ _)
      · refine hu.trans (Cell.sameRun.trans (State.modCell_sameRun _ c _ (fun _ => ?_)) (State.count_sameRun _ _ _ _ _))
        exact ⟨rfl, rfl, rfl, rfl, rfl, rfl, rfl⟩

/-- A cell's record of a tagged instruction changed is no change of its run. -/
theorem State.tagged_sameRun (s : State) (c : Nat) (t : Bool) (f : Cell → Cell) (h : ∀ x : Cell, x.sameRun (f x)) :
    (s.cell c).sameRun ((if t then s.modCell c f else s).cell c) := by
  split
  · exact s.modCell_sameRun c f h
  · exact Cell.sameRun_refl _

theorem State.tagged_cellOnly (s : State) (c : Nat) (t : Bool) (f : Cell → Cell) : s.cellOnly (if t then s.modCell c f else s) c := by
  split
  · exact s.modCell_cellOnly c f
  · exact s.cellOnly_refl c

/-- A flag counter below its end takes its count, with nothing else changed. -/
theorem State.addFlag_fits (s : State) (c k : Nat) (h : k = 0 ∨ tget (s.cell c).flags k 0 + 1 < 2 ^ 32) :
    s.addFlag c k 1 = if k = 0 then s else s.modCell c (fun cl => { cl with flags := tset cl.flags k (tget (s.cell c).flags k 0 + 1) 0 }) := by
  unfold State.addFlag
  extract_lets v
  by_cases hk : k = 0
  · simp [hk]
  · rw [if_neg (by simpa using hk), if_neg hk, if_pos (h.resolve_left hk)]

/-- The counters and the unit status that a retirement writes, before its COMP. -/
theorem State.retired_spec (s : State) (c u st k : Nat) (h : k = 0 ∨ tget (s.cell c).flags k 0 + 1 < 2 ^ 32) :
    s.cellOnly (s.retired c u st k) c ∧ (s.cell c).sameBody ((s.retired c u st k).cell c) ∧
      ((s.retired c u st k).cell c).pc = (s.cell c).pc ∧ ((s.retired c u st k).cell c).loops = (s.cell c).loops ∧
      ((s.retired c u st k).cell c).wait = (s.cell c).wait ∧
      ((s.retired c u st k).cell c).heartbeat = ((s.cell c).heartbeat + 1) % 2 ^ 64 ∧
      ((s.retired c u st k).cell c).unitStatus = tset (s.cell c).unitStatus u st 15 ∧
      ∀ j, tget ((s.retired c u st k).cell c).flags j 0 = tget (s.cell c).flags j 0 + (if j = k ∧ j ≠ 0 then 1 else 0) := by
  unfold State.retired
  extract_lets s1 s2 s3
  have h1 : s.cellOnly s1 c := s.modCell_cellOnly c _
  have e1 : s1.cell c = { s.cell c with
      heartbeat := ((s.cell c).heartbeat + 1) % 2 ^ 64, unitStatus := tset (s.cell c).unitStatus u st 15 } := s.modCell_cell_self c _
  have h3 : s1.cellOnly s3 c := by
    refine (s1.count_cellOnly c Ev.instrRetired 1 []).trans ?_
    show s2.cellOnly (if st = 1 then _ else _) c
    split
    · exact s2.count_cellOnly c Ev.zeroWork 1 []
    · exact s2.cellOnly_refl c
  have r3 : (s1.cell c).sameRun (s3.cell c) := by
    refine (s1.count_sameRun c Ev.instrRetired 1 []).trans ?_
    show (s2.cell c).sameRun ((if st = 1 then _ else _ : State).cell c)
    split
    · exact s2.count_sameRun c Ev.zeroWork 1 []
    · exact Cell.sameRun_refl _
  clear_value s3 s1
  have hf : k = 0 ∨ tget (s3.cell c).flags k 0 + 1 < 2 ^ 32 := by rw [r3.2.2.2.2.2.1, e1]; exact h
  rw [State.addFlag_fits _ _ _ hf]
  by_cases hk : k = 0
  · rw [if_pos hk]
    refine ⟨h1.trans h3, Cell.sameBody.trans ?_ r3.1, ?_, ?_, ?_, ?_, ?_, fun j => ?_⟩
    · rw [e1]; rfl
    · rw [r3.2.1, e1]
    · rw [r3.2.2.1, e1]
    · rw [r3.2.2.2.1, e1]
    · rw [r3.2.2.2.2.1, e1]
    · rw [r3.2.2.2.2.2.2, e1]
    · rw [r3.2.2.2.2.2.1, e1, if_neg (by omega)]; rfl
  · rw [if_neg hk]
    refine ⟨(h1.trans h3).trans (s3.modCell_cellOnly c _), Cell.sameBody.trans (Cell.sameBody.trans (y := s1.cell c) ?_ r3.1) ?_,
      ?_, ?_, ?_, ?_, ?_, fun j => ?_⟩
    · rw [e1]; rfl
    · rw [State.modCell_cell_self]; rfl
    · rw [State.modCell_cell_self]; show (s3.cell c).pc = _; rw [r3.2.1, e1]
    · rw [State.modCell_cell_self]; show (s3.cell c).loops = _; rw [r3.2.2.1, e1]
    · rw [State.modCell_cell_self]; show (s3.cell c).wait = _; rw [r3.2.2.2.1, e1]
    · rw [State.modCell_cell_self]; show (s3.cell c).heartbeat = _; rw [r3.2.2.2.2.1, e1]
    · rw [State.modCell_cell_self]; show (s3.cell c).unitStatus = _; rw [r3.2.2.2.2.2.2, e1]
    · rw [State.modCell_cell_self]
      refine (tget_tset (s3.cell c).flags k j (tget (s3.cell c).flags k 0 + 1) 0).trans ?_
      rw [r3.2.2.2.2.2.1, e1]
      by_cases hj : j = k
      · subst hj; simp [hk]
      · simp [hj]

/-- The retirement of a control instruction (R31): the next word, and nothing else than a retirement changes. -/
theorem State.retire_spec (s : State) (c st : Nat) (h : s.compFits c (s.cell c).word.toNat) :
    s.retiredAs (s.retire c st) c (s.cell c).word.toNat ∧
      ((s.retire c st).cell c).pc = (nextWord (s.cell c).pc (s.cell c).loops).1 ∧
      ((s.retire c st).cell c).loops = (nextWord (s.cell c).pc (s.cell c).loops).2 ∧
      ((s.retire c st).cell c).unitStatus = tset (s.cell c).unitStatus 0 st 15 := by
  unfold State.retire
  extract_lets w
  split
  next u t hu =>
  extract_lets s1 s2
  have a1 : s.cellOnly s1 c := by
    have := s.sampleTag_cellOnly c; rw [hu] at this
    exact this.trans (State.tagged_cellOnly u c t _)
  have b1 : (s.cell c).sameRun (s1.cell c) := by
    have := s.sampleTag_sameRun c; rw [hu] at this
    exact this.trans (State.tagged_sameRun u c t _ (fun x => ⟨rfl, rfl, rfl, rfl, rfl, rfl, rfl⟩))
  have e2 : s2.cell c = { s1.cell c with wait := Wait.reset, pc := (nextWord (s1.cell c).pc (s1.cell c).loops).1,
                                         loops := (nextWord (s1.cell c).pc (s1.cell c).loops).2 } := s1.modCell_cell_self c _
  have a2 : s1.cellOnly s2 c := s1.modCell_cellOnly c _
  clear_value s1 s2
  obtain ⟨p1, p2, p3, p4, p5, p6, p7, p8⟩ := s2.retired_spec c 0 st (wordComp w) (by
    rw [e2]; show _ ∨ tget (s1.cell c).flags _ 0 + 1 < _; rw [b1.2.2.2.2.2.1]; exact h)
  refine ⟨⟨(a1.trans a2).trans p1, (b1.1.trans ?_).trans p2, ?_, ?_, fun k => ?_⟩, ?_, ?_, ?_⟩
  · rw [e2]; rfl
  · rw [p5, e2]
  · rw [p6, e2]; show ((s1.cell c).heartbeat + 1) % _ = _; rw [b1.2.2.2.2.1]
  · rw [p8, e2]; show tget (s1.cell c).flags k 0 + _ = _; rw [b1.2.2.2.2.2.1]
  · rw [p3, e2]; show (nextWord (s1.cell c).pc (s1.cell c).loops).1 = _; rw [b1.2.1, b1.2.2.1]
  · rw [p4, e2]; show (nextWord (s1.cell c).pc (s1.cell c).loops).2 = _; rw [b1.2.1, b1.2.2.1]
  · rw [p7, e2]; show tset (s1.cell c).unitStatus 0 st 15 = _; rw [b1.2.2.2.2.2.2]

end Sys2Proof.Machine
end

