-- ==== Sys2Proof/WellFormed.lean ====
section
/-! DEFINITION. WellFormed: when a command is one the module's interfaces can carry: every field inside the width the spec gives it.  The
messages' widths are those of R296, R304, R305 and R308, the registers' those of R518 to R520, the pins' and sensors' those of R389 to R427. -/

namespace Sys2Proof

/-- A number fits n bits. -/
def fits (n x : Nat) : Bool := decide (x < 2 ^ n)

/-- Conversions and achieved values are 16-bit signed numbers. -/
def codesWf (l : List Int) : Bool := l.all (fun v => decide (-32768 ≤ v) && decide (v < 32768))

/-- The header fields (R302, R305). -/
def Hdr.wf (h : Hdr) : Bool := fits 16 h.src && fits 16 h.dst && fits 32 h.epoch && fits 4 h.ver && fits 8 h.hop

/-- HELLO (R296). -/
def HelloMsg.wf (m : HelloMsg) : Bool :=
  fits 4 m.verMin && fits 4 m.verMax && fits 16 m.isa && fits 16 m.node && fits 32 m.epoch && fits 16 m.coord && fits 8 m.feed &&
    fits 64 m.serial && decide (m.port < 24)

/-- DATA (R215, R220, R304). -/
def DataMsg.wf (m : DataMsg) : Bool :=
  fits 10 m.srcCell && fits 10 m.dstCell && fits 4 m.chan && fits 32 m.seq && m.scales.all (fits 8) && m.elems.all (fits 32) &&
    decide (m.off + m.elems.length ≤ m.total)

/-- COLL_DATA (R308). -/
def CollMsg.wf (m : CollMsg) : Bool :=
  fits 16 m.rank && (decide (m.op < 4) || m.op == 5) && fits 16 m.root && m.data.all (fits 32) && (m.op == 5 || decide (m.data.length = m.count))

/-- FETCH_DATA (R345, R348). -/
def FetchMsg.wf (m : FetchMsg) : Bool := fits 16 m.owner && decide (m.kind < 3) && fits 32 m.step && m.steps.all (fits 32)

/-- A run of a drill round: the other cells are four at most (R362, R364). -/
def DrillRun.wf (k : DrillRun) : Bool := decide (k.crcs.length ≤ 5) && k.crcs.all (fits 64) && decide (k.dev.length ≤ 4) && decide (k.dev8.length ≤ 4)

/-- A change of an epoch (R311). -/
def changeWf (k : Change) : Bool := decide (k.1 < 6) && fits 16 k.2.1 && fits 16 k.2.2

/-- Whether a command is well formed.
DEDUCED: log entry 9. -/
def Instr.wf (i : Instr) : Bool :=
  match i with
  | .nop _ => true
  | .stop _ => true
  | .br _ => true
  | .loop _ => true
  | .wait _ => true
  | .waitSatisfied _ => true
  | .waitTimeout _ => true
  | .signal _ => true
  | .fence _ => true
  | .barrier _ => true
  | .localBarrierComplete _ _ => true
  | .lds _ => true
  | .sts _ => true
  | .copy _ => true
  | .gather _ => true
  | .scatter _ => true
  | .send _ => true
  | .recv _ => true
  | .amv _ => true
  | .amvt _ => true
  | .productStart _ codes => codesWf codes
  | .referenceProductReturn _ => true
  | .insertedProduct _ => true
  | .convRangeWiden _ _ _ => true
  | .crossbarSuspect _ _ => true
  | .noiseSigmaUpdate _ _ => true
  | .outputBaseline _ _ => true
  | .driftRefRead _ _ codes => codesWf codes
  | .aread _ levels => codesWf levels
  | .aprogUpdate _ => true
  | .aprogLoad _ => true
  | .writeStart _ => true
  | .rowWriteDone _ ok rounds levels => decide (rounds ≤ 80) && codesWf levels && (!ok || decide (levels.length = 516))
  | .writeComplete _ => true
  | .aswap _ => true
  | .aswapExchange _ => true
  | .acal _ => true
  | .calibrationStart _ => true
  | .recalSlice _ _ _ _ rows sg sgT => decide (rows.length ≤ 512) && fits 16 sg && fits 16 sgT
  | .dmm _ => true
  | .dconv _ => true
  | .qrot _ => true
  | .qnt _ => true
  | .dqnt _ => true
  | .vadd _ => true
  | .vmul _ => true
  | .vfma _ => true
  | .vcmp _ => true
  | .vsel _ => true
  | .vmin _ => true
  | .vmax _ => true
  | .acc _ => true
  | .accrd _ => true
  | .cred _ => true
  | .cbcast _ => true
  | .cnorm _ => true
  | .cfin _ => true
  | .topkScan _ => true
  | .topkMerge _ => true
  | .tack _ => true
  | .tcommit _ => true
  | .drill _ => true
  | .drillReferenceTimeout _ => true
  | .digest _ => true
  | .illegalInstruction _ => true
  | .instrComplete _ _ => true
  | .executionFault _ _ code cause addr => fits 8 code && fits 8 cause && fits 48 addr
  | .collectiveTimeout _ => true
  | .drillVisit _ => true
  | .drillRound _ _ runs => runs.all DrillRun.wf
  | .govSample vin iin => fits 16 vin && fits 16 iin
  | .govWindow => true
  | .govCeilingRaise => true
  | .overcurrentStall iin => fits 16 iin
  | .overcurrentRelease iin => fits 16 iin
  | .gaitChange _ _ => true
  | .gaitClockSwitch _ => true
  | .droopStretch _ mv => fits 16 mv
  | .droopDerate _ => true
  | .droopDerateEnd _ => true
  | .tempSplit hot cold _ => decide (hot < 2048) && decide (cold < 2048)
  | .tempSplitClear _ _ => true
  | .bridgeFail _ _ => true
  | .regulatorFail _ _ _ why => fits 8 why
  | .senseFault _ _ mv => fits 16 mv
  | .jointSample _ _ _ _ _ => true
  | .jointFault _ _ _ => true
  | .vcFail _ _ amps => fits 16 amps
  | .memoryConverterFail _ => true
  | .regionSwitchOn _ _ _ => true
  | .switchOnStage _ seg => fits 16 seg
  | .switchOnFault _ => true
  | .regionLeaveOn _ => true
  | .inputOvervoltage vin => fits 16 vin
  | .inputOvWarn vin => fits 16 vin
  | .inputUndervoltage vin => fits 16 vin
  | .powerFailHold vin => fits 16 vin
  | .powerFailRelease vin => fits 16 vin
  | .inputCollapse vin => fits 16 vin
  | .thermalTrip _ _ => true
  | .monConversion _ _ _ _ _ => true
  | .monBurstTrigger _ _ => true
  | .monUrgent _ _ => true
  | .refinFault _ => true
  | .refinFaultClear _ => true
  | .sensorFail _ _ => true
  | .monitorSelfCal _ _ _ => true
  | .columnSelfCal _ bad => bad.all (fun k => decide (k < 9 * 516))
  | .calRecordStore _ => true
  | .portSignalDetect _ => true
  | .linkTrainingEnd _ _ => true
  | .portDown _ => true
  | .linkReplay _ _ => true
  | .hello _ m => m.wf
  | .helloAck _ m => m.wf
  | .helloResend _ => true
  | .linkState h nbrs => h.wf && decide (nbrs.length ≤ 24) && nbrs.all (fits 16)
  | .ping h => h.wf
  | .pong h => h.wf
  | .pingTimer => true
  | .lossTimeout n => fits 16 n
  | .suspect h n => h.wf && fits 16 n
  | .suspectGatherEnd => true
  | .coordinatorLost => true
  | .epochPropose h e chg => h.wf && fits 32 e && chg.all changeWf
  | .deferredAckTest => true
  | .epochAck h e => h.wf && fits 32 e
  | .immediateAckTimeout => true
  | .epochCommit h e chg => h.wf && fits 32 e && chg.all changeWf
  | .joinReq h lo hi => h.wf && fits 4 lo && fits 4 hi
  | .joinLockTimeout => true
  | .leaveReq h _ => h.wf
  | .stepReplay h _ step => h.wf && fits 32 step
  | .timeSync _ h t1 grand _ => h.wf && fits 64 t1 && fits 16 grand
  | .timeReply _ h t1 t2 t3 => h.wf && fits 64 t1 && fits 64 t2 && fits 64 t3
  | .timeSyncTimer => true
  | .ftimeSet _ v => fits 64 v
  | .ftimeStep => true
  | .ppsInEdge => true
  | .ppsOutSecond => true
  | .data h m => h.wf && m.wf
  | .e2eAck h flow seq _ => h.wf && fits 24 flow && fits 32 seq
  | .e2eResend _ n => decide (n < 16)
  | .remoteSignal h _ k n => h.wf && decide (1 ≤ k) && fits 4 k && fits 16 n
  | .barrierArrive h g rank => h.wf && fits 12 g && fits 16 rank
  | .barrierRelease h g => h.wf && fits 12 g
  | .collData h g m => h.wf && fits 12 g && m.wf
  | .collCtrl h g rank count => h.wf && fits 12 g && fits 16 rank && fits 32 count
  | .unknownMessage h ty => h.wf && fits 8 ty
  | .groupDigest h g dg => h.wf && fits 12 g && decide (dg.length = 32)
  | .snapPlan h _ step ival => h.wf && fits 32 step && fits 32 ival
  | .quiesceDone _ => true
  | .snapReq h _ cause => h.wf && decide (cause < 2)
  | .remountAsk h size => h.wf && fits 48 size
  | .remountGrant h left => h.wf && fits 48 left
  | .remountDeny h left => h.wf && fits 48 left
  | .snapData h step _ _ _ _ => h.wf && fits 32 step
  | .snapStored h _ step _ => h.wf && fits 32 step
  | .snapDone h _ step _ => h.wf && fits 32 step
  | .snapLeaderTimeout _ => true
  | .snapSecured h _ step => h.wf && fits 32 step
  | .snapAbort h _ step => h.wf && fits 32 step
  | .emergRecord h bs => h.wf && decide (0 < bs.length)
  | .fetchReq h owner step _ _ _ => h.wf && fits 16 owner && fits 32 step
  | .fetchData h _ m => h.wf && m.wf
  | .restoreReady h _ step _ => h.wf && fits 32 step
  | .resumeMsg h _ step t => h.wf && fits 32 step && fits 64 t
  | .load _ _ => true
  | .start _ _ => true
  | .startTimeReached _ => true
  | .hostStop _ _ => true
  | .resume _ _ => true
  | .resetContext _ _ => true
  | .resetEngine _ _ => true
  | .dmaCopy _ _ => true
  | .dmaCopyDone _ _ => true
  | .hostReadTimeout _ _ _ => true
  | .hostTack _ _ => true
  | .hostTcommit _ _ => true
  | .flag _ _ => true
  | .attach _ _ => true
  | .attachDriftCheck _ levels codes => codesWf levels && codesWf codes
  | .hostSnapReq _ _ => true
  | .drillPkg _ _ => true
  | .shardMap _ _ => true
  | .shardCopy _ => true
  | .planBuf _ _ => true
  | .status _ _ => true
  | .sqDoorbell _ _ tail entries _ => fits 17 tail && decide (entries.length % 64 = 0)
  | .cqHeadDoorbell _ _ head => fits 17 head
  | .qCreate _ _ => true
  | .qDelete _ _ => true
  | .cqCoalesceTimer _ _ => true
  | .bar4Access _ off _ _ => fits 48 off
  | .poisonedTlp _ _ addr => fits 64 addr
  | .malformedTlp => true
  | .linkLoss => true
  | .perstDeassert => true
  | .perstAssert => true
  | .pcieLinkUp rate width => decide (1 ≤ rate) && decide (rate ≤ 6) && fits 5 width
  | .functionLevelReset _ => true
  | .pcieHotReset => true
  | .moduleReset _ v => fits 64 v
  | .moduleResetStage => true
  | .moduleResetOverrun => true
  | .pwrCycleReq _ v => fits 64 v
  | .supervisorExpiry => true
  | .counterLowRead _ n _ => decide (n < 131584)
  | .cellSampleRead _ _ => true
  | .monWrIndexRead _ => true
  | .shadowSel _ ty inst => fits 16 ty && fits 16 inst
  | .commit _ ty => fits 16 ty
  | .registerWrite _ off len v => fits 27 off && [1, 2, 4, 8].contains len && fits (8 * len) v
  | .inputRise => true
  | .bootStageComplete _ => true
  | .bootStageTimeout => true
  | .tackStoreWrite => true
  | .setEndpointId _ eid => fits 8 eid
  | .pldmSensorRead _ id => fits 16 id
  | .platformEventRetry id => fits 8 id
  | .platformEventAck id => fits 8 id
  | .setStateEffecterStates _ eff st => fits 16 eff && fits 8 st
  | .pldmFirmwareUpdate _ comp _ => fits 16 comp
  | .activateFirmware _ => true
  | .spdmGetVersion _ => true
  | .spdmGetCapabilities _ => true
  | .spdmNegotiateAlgorithms _ _ _ => true
  | .spdmGetCertificate _ slot => fits 8 slot
  | .spdmChallenge _ slot nonce => fits 8 slot && fits 256 nonce
  | .spdmGetMeasurements _ idx slot => fits 8 idx && fits 8 slot
  | .readLog _ seq count => fits 32 seq && fits 8 count
  | .daybookHighWater => true
  | .getStatus => true
  | .getIdentity => true
  | .readSensor id => fits 16 id
  | .mailboxReadLog seq count => fits 32 seq && fits 8 count
  | .getPower => true
  | .getThermal => true
  | .getAlert => true
  | .clearAlert bits => fits 8 bits
  | .requestReset v => fits 8 v
  | .fwStart len => fits 32 len
  | .fwData off bs => fits 32 off && decide (bs.length ≤ 32)
  | .fwFinish => true
  | .mailboxReadResponse => true
  | .mailboxBadCmd code => fits 8 code
  | .svcPress => true
  | .shortPress => true
  | .longPress => true
  | .handleTouch => true
  | .touchLapse => true
  | .latchOpen => true
  | .latchClosed => true
  | .withdrawSecured => true
  | .safeLogWaitExpiry => true
  | .dumpInstant _ => true
  | .tagRecordWrite _ => true
  | .feedIdChange _ => true
  | .auxConverterFail _ => true
  | .auxiliaryRailLoss => true
  | .numvfsChange _ => true
  | .snapReqLapse _ => true
  | .progressWordSample _ => true
  | .policyEngineWindow conf gaits => conf.all (fun e => decide (e.1 < 1088) && decide (e.2.1 < 9) && fits 8 e.2.2) && gaits.all (fun e => decide (e.1 < 1088) && decide (e.2 < 4))
  | .messageLands _ n => decide (n < 16)
  | .resetComplete _ => true
  | .ledFlashEnd => true

end Sys2Proof
end

