-- ==== Sys2Proof/Tests/Slice0.lean ====
section
/-! SUPPORT. Tests/Slice0: ill-formed commands refused, instruction words spelt from R208 to R210, and for each statement with hypotheses
states that meet them. -/

set_option Elab.async false

namespace Sys2Proof.Tests

open Sys2Proof Sys2Proof.Machine

/-! ### States -/

/-- A module in service: rails up, ready, link up, node 5 of a system of three; cell 0's region ON. -/
def up : State := { State.reset with
  time := 20000000000, phys := [(0, { Phys.reset with rst := 0 })], pow := { Pow.reset with aux := true, main := true }
  boot := { Boot.reset with ready := true, stage := 9 }, hif := { HostIf.reset with up := true }
  fab := { Fab.reset with nodeId := 5, inSystem := true, epoch := 1, coord := 5, members := [5, 6, 7] } }

/-- The module with a logical cell 0 as given. -/
def has (cl : Cell) : State := { up with cells := [(0, cl)] }

/-- An instruction word (R46, R202): CLASS, OP, MOD, COMP and the operand field. -/
def spell (cls op mod comp f : Nat) : Nat := 2 ^ 124 + cls * 2 ^ 120 + op * 2 ^ 112 + mod * 2 ^ 104 + comp * 2 ^ 100 + f

/-- The module with cell 0 RUNNING at a word. -/
def at0 (w : Nat) (cl : Cell := Cell.reset) : State := has { cl with st := 2, fbuf := [(0, BitVec.ofNat 128 w)] }

/-- The next state an outcome holds. -/
def got (o : Host.Outcome State Fault Refusal) : Option State :=
  match o with
  | .next t => some t
  | _ => none

/-- What a command leaves of the state. -/
def after {α : Type} (i : Instr) (s : State) (f : State → α) : Option α := (got (exec i s)).map f

/-! ### Commands that are not well formed -/

/-- A header as another node of the system sends it. -/
def hdr : Hdr := { src := 6, dst := 5, epoch := 1, ver := 1, hop := 1, rsv := 0 }

theorem test_wf_header : (Instr.ping hdr).wf = true ∧ (Instr.ping { hdr with src := 65536 }).wf = false ∧
    (Instr.ping { hdr with dst := 65536 }).wf = false ∧ (Instr.ping { hdr with epoch := 2 ^ 32 }).wf = false ∧
    (Instr.ping { hdr with ver := 16 }).wf = false ∧ (Instr.ping { hdr with hop := 256 }).wf = false := by decide +kernel

theorem test_wf_messages :
    (Instr.hello 0 { verMin := 16, verMax := 1, isa := 1, node := 6, epoch := 1, coord := 5, feed := 0, serial := 1, port := 0, locked := true }).wf = false ∧
    (Instr.data hdr { srcCell := 0, dstCell := 0, chan := 0, mb := 0, seq := 0, form := 7, total := 1, off := 1, elems := [0], scales := [] }).wf = false ∧
    (Instr.collData hdr 0 { rank := 0, op := 4, count := 0, mode := 0, root := 0, data := [] }).wf = false ∧
    (Instr.collData hdr 4096 { rank := 0, op := 0, count := 0, mode := 0, root := 0, data := [] }).wf = false ∧
    (Instr.fetchData hdr 0 { owner := 6, steps := [], kind := 3, step := 0, item := 0, off := 0, data := [], last := true }).wf = false ∧
    (Instr.epochPropose hdr 2 [(6, 7, 0)]).wf = false ∧ (Instr.epochPropose hdr 2 [(0, 7, 0)]).wf = true := by decide +kernel

theorem test_wf_values :
    (Instr.productStart 0 [32768]).wf = false ∧ (Instr.rowWriteDone 0 true 81 []).wf = false ∧ (Instr.govSample 65536 0).wf = false ∧
    (Instr.executionFault 0 0 256 0 0).wf = false ∧ (Instr.drillRound 0 none [{ dev := [], dev8 := [], x2 := 0, crcs := [0, 0, 0, 0, 0, 0] }]).wf = false ∧
    (Instr.tempSplit 2048 0 0).wf = false ∧ (Instr.linkState hdr [65536]).wf = false ∧ (Instr.joinReq hdr 1 16).wf = false ∧
    (Instr.remoteSignal hdr 0 0 1).wf = false ∧ (Instr.e2eAck hdr (2 ^ 24) 0 false).wf = false ∧ (Instr.groupDigest hdr 0 []).wf = false ∧
    (Instr.snapReq hdr 0 2).wf = false ∧ (Instr.sqDoorbell 0 0 0 [0] []).wf = false ∧ (Instr.pcieLinkUp 7 16).wf = false ∧
    (Instr.counterLowRead 0 131584 false).wf = false ∧ (Instr.registerWrite 0 0 3 0).wf = false ∧ (Instr.registerWrite 0 0 1 256).wf = false ∧
    (Instr.readLog 0 0 256).wf = false ∧ (Instr.fwData 0 (List.replicate 33 0)).wf = false ∧ (Instr.mailboxBadCmd 256).wf = false ∧
    (Instr.policyEngineWindow [(1088, 0, 0)] []).wf = false ∧ (Instr.policyEngineWindow [] [(0, 4)]).wf = false ∧
    (Instr.messageLands 0 16).wf = false ∧ (Instr.columnSelfCal 0 [4644]).wf = false := by decide +kernel

/-! ### The machine's steps -/

theorem test_step_hyp : ({ up with pending := [.nop 0] } : State).pending = .nop 0 :: [] ∧ up.pending = [] ∧ up.memoryCanonical ∧
    up.pow.aux = true ∧ up.fab.slew = 0 ∧ State.reset.pow.aux = false := by decide +kernel

/-- An unpowered module does not count; a powered one counts a nanosecond (R324, R389). -/
theorem test_tick : got (step State.reset) = some State.reset ∧ (up.tick).time = 20000000001 := by decide +kernel

/-! ### Control instructions -/

/-- BR always, target word 7 (R210: TARGET in bits 95 to 84). -/
def brWord : Nat := spell 0 2 0 0 (7 * 2 ^ 84)
/-- LOOP over words 1 and 2, n times (COUNT in bits 95 to 64, END in bits 63 to 52). -/
def loopWord (n : Nat) : Nat := spell 0 3 0 0 (n * 2 ^ 64 + 2 * 2 ^ 52)
/-- Eight nested loops whose bodies all end past this one. -/
def eight : Cell := { Cell.reset with loops := List.replicate 8 { start := 0, stop := 9, left := 2 } }

theorem test_control_hyp :
    (at0 (spell 0 0 0 1 0)).compFits 0 (spell 0 0 0 1 0) ∧ (at0 (spell 0 0 0 1 0)).atControl 0 .nop = some (spell 0 0 0 1 0) ∧
    (at0 brWord).compFits 0 brWord ∧ (at0 brWord).atControl 0 .br = some brWord ∧
    (at0 (loopWord 3)).compFits 0 (loopWord 3) ∧ (at0 (loopWord 3)).atControl 0 .loop = some (loopWord 3) ∧ bits (loopWord 3) 95 64 = 3 ∧
    (at0 (loopWord 0)).compFits 0 (loopWord 0) ∧ (at0 (loopWord 0)).atControl 0 .loop = some (loopWord 0) ∧ bits (loopWord 0) 95 64 = 0 ∧
    (at0 (spell 0 6 0 0 0)).atControl 0 .fence = some (spell 0 6 0 0 0) ∧
    (at0 (spell 0 1 0 15 0)).compFits 0 (spell 0 1 0 15 0) ∧ (at0 (spell 0 1 0 15 0)).atControl 0 .stop = some (spell 0 1 0 15 0) ∧
    (at0 (loopWord 1) eight).atControl 0 .loop = some (loopWord 1) ∧ ((at0 (loopWord 1) eight).cell 0).loops.length = 8 := by decide +kernel

/-- A taken BR goes to its target (R211); a LOOP enters its body with the level pushed (R45). -/
theorem test_br_loop : after (.br 0) (at0 brWord) (fun t => (t.cell 0).pc) = some 7 ∧
    after (.loop 0) (at0 (loopWord 3)) (fun t => ((t.cell 0).pc, (t.cell 0).loops)) = some (1, [{ start := 1, stop := 2, left := 3 }]) := by
  decide +kernel

/-- WAIT on F3 for n (R210: Fk in bits 95 to 92, N in bits 91 to 60). -/
def waitWord (n : Nat) : Nat := spell 0 4 0 0 (3 * 2 ^ 92 + n * 2 ^ 60)
/-- F3 holds 5. -/
def f3 : Cell := { Cell.reset with flags := [(3, 5)] }
/-- A cell whose WAIT on F3 for n is pending, with a timeout of 10 µs since the start. -/
def waiting (n : Nat) : State := at0 (waitWord n) { f3 with wait := { Wait.reset with kind := 1, sel := 3, count := n, timed := true, tmo := 10 } }
/-- SIGNAL of 2 on F1 of cell c (target cell in bits 75 to 66, count in bits 91 to 76). -/
def sigWord (c : Nat) : Nat := spell 0 5 0 0 (2 ^ 92 + 2 * 2 ^ 76 + c * 2 ^ 66)
/-- Cell 1 belongs to partition 1. -/
def lent (s : State) : State := s.setFld 0 Ty.partition 0 1 1 1

theorem test_flags_hyp :
    (at0 (waitWord 0)).atControl 0 .wait = some (waitWord 0) ∧ (at0 (waitWord 0)).compFits 0 (waitWord 0) ∧ bits (waitWord 0) 91 60 = 0 ∧
    (at0 (waitWord 5) f3).atControl 0 .wait = some (waitWord 5) ∧ bits (waitWord 5) 91 60 = 5 ∧
    tget ((at0 (waitWord 5) f3).cell 0).flags (bits (waitWord 5) 95 92) 0 = 5 ∧
    (at0 (waitWord 6) f3).atControl 0 .wait = some (waitWord 6) ∧ bit (wordMod (waitWord 6)) 0 = false ∧
    (waiting 5).waits 0 1 = true ∧ (waiting 6).waits 0 1 = true ∧ (waiting 6).passed 0 10000 = true ∧
    (waiting 6).compFits 0 ((waiting 6).cell 0).word.toNat ∧
    (at0 (sigWord 1)).atControl 0 .signal = some (sigWord 1) ∧ bit (wordMod (sigWord 1)) 1 = false ∧ bits (sigWord 1) 75 66 = 1 ∧
    (at0 (sigWord 1)).owner 1 = (at0 (sigWord 1)).owner 0 ∧
    (lent (at0 (sigWord 1))).atControl 0 .signal = some (sigWord 1) ∧ (lent (at0 (sigWord 1))).owner 1 = 1 ∧
    (lent (at0 (sigWord 1))).owner 0 = 0 := by decide +kernel

/-- A counter at its end stays there and its cell faults (R36); one count less fits. -/
theorem test_flag_overflow : (let s := at0 0 { Cell.reset with flags := [(1, 2 ^ 32 - 2)] }
    after (.remoteSignal { src := 6, dst := 5, epoch := 1, ver := 1, hop := 1, rsv := 0 } 0 1 2) s
      (fun t => (tget (t.cell 0).flags 1 0, (t.cell 0).st, (t.cell 0).fault.code)) = some (4294967295, 4, 0x12) ∧
    after (.remoteSignal { src := 6, dst := 5, epoch := 1, ver := 1, hop := 1, rsv := 0 } 0 1 1) s
      (fun t => (tget (t.cell 0).flags 1 0, (t.cell 0).st)) = some (4294967295, 2)) := by decide +kernel

/-! ### Movement, vector, tally, matrix and quantise instructions -/

/-- A stream descriptor (R185): base, FORM, INNER, OUTER, OUTER_STRIDE. -/
def strm (base form inner outer stride : Nat) : List Byte :=
  leBytes 6 base ++ leBytes 8 0 ++ leBytes 2 form ++ leBytes 4 inner ++ leBytes 4 1 ++ leBytes 4 outer ++ leBytes 4 stride

/-- A matrix descriptor (R204): base, FORM, ROWS, COLS, row stride. -/
def matr (base form rows cols stride : Nat) : List Byte :=
  leBytes 6 base ++ leBytes 8 0 ++ leBytes 2 form ++ leBytes 4 rows ++ leBytes 4 cols ++ leBytes 4 stride ++ leBytes 4 0

/-- The scratchpad's structures, 32 bytes each.  FP32 streams of four at 0x1000, 0x2000, 0x3000 and in device memory; one of none; BF16
512 × 1 at 0x4000 and 0x5000; FP32 2 × 2 matrices at 0x6000, 0x6100 and 0x6200; an FP4 block-scaled stream; a parameter block with stream 5;
BF16 streams of four at 0x1000 and 0x2000. -/
def structs : List Byte :=
  strm 0x1000 7 4 1 4 ++ strm 0x2000 7 4 1 4 ++ strm 0x3000 7 4 1 4 ++ strm 0x10000 0x107 4 1 4 ++ strm 0x1000 7 0 1 4 ++
    strm 0x4000 6 512 1 512 ++ strm 0x5000 6 512 1 512 ++ matr 0x6000 6 2 2 2 ++ matr 0x6100 6 2 2 2 ++ matr 0x6200 7 2 2 2 ++
    strm 0x7000 3 4 1 4 ++ (leBytes 12 0 ++ leBytes 2 5 ++ leBytes 6 0 ++ leBytes 2 0 ++ leBytes 2 1 ++ leBytes 4 0x3F800000 ++ leBytes 4 0) ++
    strm 0x1000 6 4 1 4 ++ strm 0x2000 6 4 1 4

/-- Cell 0 at a word, with those structures and training stream 5 in the dice record. -/
def unit0 (w : Nat) : State :=
  let s := at0 w { Cell.reset with spad := tputs [] 0 structs 0 }
  (s.setFld 0 Ty.dice 0 8 1 1).setFld 0 Ty.dice 0 12 2 5

/-- The operand field of two references. -/
def rr (a b : Nat) : Nat := a * 2 ^ 80 + b * 2 ^ 64

def ldsWord : Nat := spell 1 0 0 0 (rr 3 0)
def stsWord : Nat := spell 1 1 0 0 (rr 0 3)
def copyWord : Nat := spell 1 2 0 0 (rr 0 1)
def zeroWord : Nat := spell 1 2 0 0 (rr 4 4)
/-- STS of an outbox record: eight FP32 elements to the shard window (R265, R530). -/
def postWord : Nat := spell 1 1 0 0 (rr 0 1)
def poster : State :=
  let s := at0 postWord { Cell.reset with spad := tputs [] 0 (strm 0x1000 7 8 1 8 ++ strm 0x21000000000 0x107 8 1 8) 0 }
  s

theorem test_copies_hyp :
    ((unit0 ldsWord).issCopy 0 .lds ldsWord).zero = false ∧ (unit0 ldsWord).atOp 0 .lds = some ldsWord ∧
    (unit0 ldsWord).accepts 0 ldsWord ((unit0 ldsWord).issCopy 0 .lds ldsWord) true = true ∧
    ((unit0 copyWord).issCopy 0 .copy copyWord).zero = false ∧ (unit0 copyWord).atOp 0 .copy = some copyWord ∧
    (unit0 copyWord).accepts 0 copyWord ((unit0 copyWord).issCopy 0 .copy copyWord) true = true ∧
    ((unit0 stsWord).issCopy 0 .sts stsWord).zero = false ∧ (unit0 stsWord).atOp 0 .sts = some stsWord ∧
    (unit0 stsWord).accepts 0 stsWord ((unit0 stsWord).issCopy 0 .sts stsWord) true = true ∧
    (outboxForm ((unit0 stsWord).issCopy 0 .sts stsWord).a ((unit0 stsWord).issCopy 0 .sts stsWord).d false).1 = false := by decide +kernel

theorem test_post_hyp :
    (poster.issCopy 0 .sts postWord).zero = false ∧ poster.atOp 0 .sts = some postWord ∧
    poster.accepts 0 postWord (poster.issCopy 0 .sts postWord) (!poster.outboxFull 0) = true ∧
    (outboxForm (poster.issCopy 0 .sts postWord).a (poster.issCopy 0 .sts postWord).d false).1 = true := by decide +kernel

/-- Where LDS puts device bytes (R216). -/
theorem test_lds : (after (.lds 0) ((unit0 ldsWord).wrMem 0x10000 [1, 2, 3]) (fun t => t.rdLoc 0 0x1000 4)) = some [1, 2, 3, 0] := by decide +kernel

/-- Bases of the streams a copy's frame speaks of: one in a cell, one in device memory and neither in a scratchpad window. -/
theorem test_copyframe_hyp :
    ((unit0 0).streamDesc 0 1).1.dev = false ∧ ((unit0 0).streamDesc 0 3).1.dev = true ∧
    (∀ x ∈ ((unit0 0).streamDesc 0 3).1.pos, spadWindow (((unit0 0).streamDesc 0 3).1.addr x.1 x.2) = none) ∧
    ((unit0 0).streamDesc 0 3).1.blocks = [] := by decide +kernel

/-- GATHER of two rows of a table of one into a stream: bags of one. -/
def gatherWord : Nat := spell 1 3 0 0 (rr 0 1 + 0x180 * 2 ^ 48 + 1 * 2 ^ 32 + 1 * 2 ^ 24)
def gather0 : Nat := spell 1 3 0 0 (rr 0 1 + 0x180 * 2 ^ 48 + 0 * 2 ^ 32 + 1 * 2 ^ 24)
/-- SCATTER of one row of gradients. -/
def scatterWord : Nat := spell 1 4 0 0 (rr 0 1 + 0x180 * 2 ^ 48 + 1 * 2 ^ 32 + 11 * 2 ^ 16)
/-- SEND of stream 0 to cell 1 and RECV into stream 1, channel 2, done flag 4. -/
def sendWord : Nat := spell 1 5 0 0 (0 * 2 ^ 80 + 1 * 2 ^ 54 + 2 * 2 ^ 50 + 4 * 2 ^ 40)
def recvWord : Nat := spell 1 6 0 0 (1 * 2 ^ 80 + 1 * 2 ^ 54 + 2 * 2 ^ 50 + 4 * 2 ^ 40)

theorem test_table_message_hyp :
    (unit0 gatherWord).atOp 0 .gather = some gatherWord ∧
    (unit0 gatherWord).accepts 0 gatherWord ((unit0 gatherWord).issGather 0 gatherWord) true = true ∧
    (unit0 scatterWord).atOp 0 .scatter = some scatterWord ∧
    (unit0 scatterWord).accepts 0 scatterWord ((unit0 scatterWord).issScatter 0 scatterWord) true = true ∧
    (unit0 sendWord).atOp 0 .send = some sendWord ∧ ((unit0 sendWord).issMsg 0 sendWord false).zero = false ∧
    (unit0 sendWord).accepts 0 sendWord ((unit0 sendWord).issMsg 0 sendWord false) true = true ∧
    (unit0 recvWord).atOp 0 .recv = some recvWord ∧ ((unit0 recvWord).issMsg 0 recvWord true).zero = false ∧
    (unit0 recvWord).accepts 0 recvWord ((unit0 recvWord).issMsg 0 recvWord true) true = true := by decide +kernel

/-- A vector word: a, b, c and d, with OP n of class 5 (R208, R210). -/
def vecWord (n : Nat) : Nat := spell 5 n 0 0 (rr 0 1 + (if n = 2 ∨ n = 4 then 1 * 2 ^ 48 else 0) + 2 * 2 ^ 32)
def vecs : List (Nat × Op) := [(0, .vadd), (1, .vmul), (2, .vfma), (3, .vcmp), (4, .vsel), (5, .vmin), (6, .vmax)]

theorem test_vector_hyp : vecs.all (fun e =>
    let s := unit0 (vecWord e.1)
    let i := s.issVec 0 e.2 (vecWord e.1)
    i.zero == false && s.atOp 0 e.2 == some (vecWord e.1) && s.accepts 0 (vecWord e.1) i true && !s.masterUpdate 0) = true := by decide +kernel

def accWord : Nat := spell 6 0 0 0 (rr 0 11 + 1 * 2 ^ 58)
def accrdWord : Nat := spell 6 1 0 0 (rr 0 11)
/-- DMM of two 2 × 2 matrices. -/
def dmmWord : Nat := spell 3 0 0 0 (rr 7 8 + 9 * 2 ^ 48)
def qntWord : Nat := spell 4 1 0 0 (rr 12 10)
def dqntWord : Nat := spell 4 2 0 0 (rr 12 1)

theorem test_tally_matrix_quantise_hyp :
    (unit0 accWord).atOp 0 .acc = some accWord ∧ (unit0 accWord).accepts 0 accWord ((unit0 accWord).issAcc 0 accWord) true = true ∧
    (unit0 accrdWord).atOp 0 .accrd = some accrdWord ∧
    (unit0 accrdWord).accepts 0 accrdWord ((unit0 accrdWord).issAccrd 0 accrdWord) true = true ∧
    (unit0 dmmWord).atOp 0 .dmm = some dmmWord ∧ (unit0 dmmWord).accepts 0 dmmWord ((unit0 dmmWord).issMat 0 dmmWord false).1 true = true ∧
    (unit0 qntWord).atOp 0 .qnt = some qntWord ∧ (unit0 qntWord).accepts 0 qntWord ((unit0 qntWord).issQnt 0 qntWord) true = true ∧
    (unit0 dqntWord).atOp 0 .dqnt = some dqntWord ∧ ((unit0 dqntWord).issDqnt 0 dqntWord).zero = false ∧
    (unit0 dqntWord).accepts 0 dqntWord ((unit0 dqntWord).issDqnt 0 dqntWord) true = true := by decide +kernel

/-- QROT with layer 0's rotation, N = 4, in force; DCONV of a 1 × 1 kernel over a batch of 2 with 2 channels, 2 outputs. -/
def qrotWord : Nat := spell 4 0 0 0 (rr 12 13)
def dconvWord : Nat := spell 3 1 0 0 (rr 7 14 + 9 * 2 ^ 48 + 15 * 2 ^ 4)
def conv0 (s : State) : State :=
  s.modCell 0 (fun cl => { cl with spad := tputs cl.spad (14 * 32) (matr 0x8000 0x206 2 2 0 ++
    (leBytes 2 2 ++ leBytes 2 1 ++ leBytes 2 1 ++ leBytes 2 0 ++ leBytes 4 2 ++ leBytes 4 2 ++ [1, 1, 1, 1, 1, 1, 0, 0, 0, 0, 0, 0, 0, 0, 0, 0])) 0 })

theorem test_qrot_dconv_hyp :
    ((unit0 qrotWord).setFld 0 Ty.rotation 0 8 2 4).atOp 0 .qrot = some qrotWord ∧
    ((unit0 qrotWord).setFld 0 Ty.rotation 0 8 2 4).accepts 0 qrotWord (((unit0 qrotWord).setFld 0 Ty.rotation 0 8 2 4).issQrot 0 qrotWord) true = true ∧
    (conv0 (unit0 dconvWord)).atOp 0 .dconv = some dconvWord ∧
    (conv0 (unit0 dconvWord)).accepts 0 dconvWord ((conv0 (unit0 dconvWord)).issMat 0 dconvWord true).1 true = true := by decide +kernel

/-- Zero counts of each family (R48). -/
theorem test_zero_hyp :
    ((unit0 (spell 1 0 0 0 (rr 4 4))).issCopy 0 .lds (spell 1 0 0 0 (rr 4 4))).zero = true ∧
    ((unit0 gather0).issGather 0 gather0).zero = true ∧ (unit0 gather0).accepts 0 gather0 ((unit0 gather0).issGather 0 gather0) true = true ∧
    ((unit0 (spell 5 1 0 0 (rr 4 4 + 4 * 2 ^ 32))).issVec 0 .vmul (spell 5 1 0 0 (rr 4 4 + 4 * 2 ^ 32))).zero = true ∧
    (unit0 (spell 5 1 0 0 (rr 4 4 + 4 * 2 ^ 32))).accepts 0 (spell 5 1 0 0 (rr 4 4 + 4 * 2 ^ 32))
      ((unit0 (spell 5 1 0 0 (rr 4 4 + 4 * 2 ^ 32))).issVec 0 .vmul (spell 5 1 0 0 (rr 4 4 + 4 * 2 ^ 32))) true = true := by decide +kernel

/-- An element 2^−k. -/
def tiny (k : Nat) : Fv := .num (mkRat 1 (2 ^ k)) false

/-- Blocks of each row of R135 in INT4: one beyond the window above, one below it, one within. -/
theorem test_quant_rows :
    quantBlock 2 127 127 [none, none] [.num 8 false, .num (-9) false] = (127, [7, 9], 3) ∧
    quantBlock 2 127 127 [none, none] [tiny 2, .zero] = (0, [0, 0], 2) ∧
    quantBlock 2 127 127 [none, none] [.nan, .zero] = (255, [0, 0], 4) ∧
    quantBlock 2 126 128 [none, none] [.num 7 false, .num 1 false] = (127, [7, 1], 0) ∧
    quantBlock 2 126 128 [none, none] [.num 8 false, .num 1 false] = (128, [4, 0], 0) := by decide +kernel

/-- Positions of a stream that a lane of VMUL reads: its first and its last. -/
theorem test_lanes_hyp : (let s := unit0 (vecWord 1); let i := s.issVec 0 .vmul (vecWord 1)
    i.a.outer = 1 ∧ (s.rowOf 0 i.a 0)[3]? = some .zero ∧ (s.rowOf 0 i.b 0)[3]? = some .zero ∧ (s.rowOf 0 i.c 0)[3]? = some .zero ∧
    (s.rowOf 0 i.a 0)[0]? = some .zero) := by decide +kernel

/-! ### Arrays -/

/-- The same crossbar at every place of region 0, which is ON. -/
def xbars (b : Xbar) (s : State) : State := { s with phys := [(0, { Phys.reset with rst := 0, xb := (List.range 9).map (fun x => (x, b)) })] }
/-- A crossbar in service. -/
def live : Xbar := { Xbar.reset with st := 0, selfCal := false, calOk := true }
/-- More structures: an INT8 stream of 512 × 512 at 0x40000, a load header of zero scales, an FP32 row of 516. -/
def moreStructs (s : State) : State :=
  s.modCell 0 (fun cl => { cl with spad := tputs cl.spad (16 * 32) (strm 0x40000 5 512 512 512 ++ List.replicate 64 0 ++ strm 0x9000 7 516 1 516) 0 })

def amvWord : Nat := spell 2 0 0 0 (rr 5 6)
def amvtWord : Nat := spell 2 1 0 0 (rr 5 6)
def aswapWord : Nat := spell 2 4 0 0 (1 * 2 ^ 92)
def updWord : Nat := spell 2 3 0 0 (1 * 2 ^ 71 + 5 * 2 ^ 55 + 2 * 2 ^ 35)
def ldWord : Nat := spell 2 3 0 0 (1 * 2 ^ 90 + 512 * 2 ^ 71 + 16 * 2 ^ 55 + 17 * 2 ^ 39 + 2 * 2 ^ 35)
def areadWord : Nat := spell 2 2 0 0 (19 * 2 ^ 80 + 1 * 2 ^ 57)

theorem test_array_enter_hyp :
    (unit0 amvWord).atOp 0 .amv = some amvWord ∧ (unit0 amvWord).accepts 0 amvWord ((unit0 amvWord).issAmv 0 amvWord).1 true = true ∧
    (unit0 amvtWord).atOp 0 .amvt = some amvtWord ∧ (unit0 amvtWord).accepts 0 amvtWord ((unit0 amvtWord).issAmv 0 amvtWord).1 true = true ∧
    (unit0 aswapWord).atOp 0 .aswap = some aswapWord ∧ rsvIll aswapWord [(95, 92)] = [] ∧ bits aswapWord 95 92 = 1 ∧
    commonIll aswapWord = [] ∧ ((unit0 aswapWord).cell 0).queued 1 = 0 ∧ wordUnit aswapWord = 1 := by decide +kernel

theorem test_aprog_hyp :
    ((unit0 updWord).issAprog 0 updWord).zero = false ∧ ((unit0 updWord).cell 0).queued 1 = 0 ∧ ((unit0 updWord).cell 0).wq.length = 0 ∧
    (unit0 updWord).accepts 0 updWord ((unit0 updWord).issAprog 0 updWord) true = true ∧ (unit0 updWord).atOp 0 .aprog = some updWord ∧
    ((unit0 updWord).xbar 0 0).st = 4 ∧ ((xbars live (unit0 updWord)).xbar 0 0).st = 0 ∧
    (xbars live (unit0 updWord)).accepts 0 updWord ((xbars live (unit0 updWord)).issAprog 0 updWord) true = true ∧
    ((xbars live (unit0 updWord)).cell 0).holdsImage 0 = false ∧ bits updWord 91 90 = 0 ∧ bits ldWord 91 90 = 1 ∧
    (moreStructs (unit0 ldWord)).atOp 0 .aprog = some ldWord ∧ ((moreStructs (unit0 ldWord)).issAprog 0 ldWord).zero = false ∧
    (moreStructs (unit0 ldWord)).accepts 0 ldWord ((moreStructs (unit0 ldWord)).issAprog 0 ldWord) true = true ∧
    (∀ g < 16, (decElem fBF16 (leNat ((((moreStructs (unit0 ldWord)).rdLoc 0 (bits ldWord 54 39 * 32) 64).drop (2 * g)).take 2))).fin = true) := by
  decide +kernel

/-- 1 saturation in 999 conversions is more than 1 in 1,000, and 17 redos are more than 16. -/
def worn : State := xbars { live with prods := 65536, conv := [(0, 999)], sat := [(0, 1)], redos := 17, outN := 65536 } (has Cell.reset)

theorem test_crossbar_hyp :
    65536 ≤ (worn.xbar 0 0).prods ∧ tget (worn.xbar 0 0).conv 0 0 < 1000 * tget (worn.xbar 0 0).sat 0 0 ∧ 0 < tget (worn.xbar 0 0).rng 0 2 ∧
    16 < (worn.xbar 0 0).redos ∧ (worn.xbar 0 0).st = 0 ∧ (worn.xbar 0 0).base = [] ∧ 65536 ≤ (worn.xbar 0 0).outN ∧
    0 < (worn.xbar 0 0).sigmaCal ∧ worn.cellOf 0 = some 0 ∧ worn.fld (worn.owner 0) Ty.arrayRead (worn.owner 0) 5 1 ≠ 0 ∧ worn.regionOn 0 = true ∧
    (worn.cell 0).logical 0 ≠ 8 ∧ worn.passed (worn.xbar 0 0).refAt (worn.fld 0 Ty.arrayRead 0 12 4 * 1000000) = true := by decide +kernel

theorem test_aread_hyp :
    (moreStructs (unit0 areadWord)).atOp 0 .aread = some areadWord ∧ ((moreStructs (unit0 areadWord)).issAread 0 areadWord).zero = false ∧
    (moreStructs (unit0 areadWord)).accepts 0 areadWord ((moreStructs (unit0 areadWord)).issAread 0 areadWord) true = true ∧
    ((moreStructs (unit0 areadWord)).die 0).slots < 256 ∧ ((moreStructs (unit0 areadWord)).xbar 0 0).st = 4 ∧
    ((xbars live (moreStructs (unit0 areadWord))).xbar 0 0).st ≤ 2 ∧
    (xbars live (moreStructs (unit0 areadWord))).accepts 0 areadWord ((xbars live (moreStructs (unit0 areadWord))).issAread 0 areadWord) true = true := by
  decide +kernel

/-- A restore write of crossbar 0, waiting; the same with its last row done; and with row 3 under way. -/
def job : WriteJob := { WriteJob.reset with load := true, zeroCarry := true, restore := true, rowsArg := 512 }
def updJob : WriteJob := { WriteJob.reset with running := true, wdone := 2, rowsArg := 1 }
def writes (j : WriteJob) (b : Xbar) : State := xbars b (has { Cell.reset with st := 2, wq := [j] })

/-- The codes of an empty codes plane are zeros. -/
theorem test_restore_codes : ((writes job live).loadCodes 0 job).all (fun k => decide (k.natAbs ≤ 15)) = true := by
  simp only [State.loadCodes, job, Bool.or_true, ite_true, List.all_eq_true, List.mem_map]
  rintro k ⟨i, -, rfl⟩
  simp [State.codeAt, State.rd8, tget, writes, xbars, has, up, State.reset]
  decide

theorem test_writes_hyp :
    ((writes job live).cell 0).wq = job :: [] ∧ job.running = false ∧ (writes job live).pow.hold = false ∧ (writes job live).regionOn 0 = true ∧
    (writes job live).slotFor 0 job = true ∧ job.spare = false ∧ job.relay = false ∧ job.repair = false ∧ job.load = true ∧ job.zeroCarry = true ∧
    ((writes job live).xbar 0 0).st ≠ 3 ∧ ((writes job { live with st := 3 }).xbar 0 0).st = 3 ∧
    (writes job { live with st := 3 }).slotFor 0 job = true ∧ updJob.running = true ∧ updJob.rows = [] ∧ updJob.cut = false ∧
    updJob.load = false ∧ updJob.relay = false ∧ updJob.restore = false ∧ updJob.wdone ≠ 0 ∧
    tget ((writes updJob live).cell 0).flags updJob.wdone 0 + 1 < 2 ^ 32 := by decide +kernel

/-- A row whose codes are zeros and whose levels read zero is verified. -/
theorem test_row_hyp :
    ({ updJob with rows := [3] } : WriteJob).rows = 3 :: [] ∧ ({ updJob with rows := [3] } : WriteJob).retried = false ∧
    tget ((writes { updJob with rows := [3] } live).xbar ((writes { updJob with rows := [3] } live).jobRegion 0 { updJob with rows := [3] }) 0).wear 3 0 < 1000000 ∧
    verified 8 ((List.range 516).map (fun _ => 0)) (List.replicate 516 0) = true ∧ verified 8 [0] [0] = false := by decide +kernel

/-- An ASWAP of crossbar 1 whose image stands in the relay. -/
def swapFl : Flight := { Flight.reset with unit := 1, word := BitVec.ofNat 128 aswapWord, left := 1, lx := 1 }
def swapper : State := xbars live (has { Cell.reset with st := 2, flight := [swapFl], relayImg := 2 })

theorem test_aswap_hyp :
    (swapper.cell 0).head 1 = some swapFl ∧ wordOp swapFl.word.toNat = some .aswap ∧ swapper.regionOn 0 = true ∧ (swapper.cell 0).halt = false ∧
    swapper.pow.overcur = false ∧ swapper.pow.hold = false ∧ (swapper.cell 0).relayRepair = false ∧
    (swapper.xbar (swapper.reg 0) ((swapper.cell 0).phys 8)).st ≠ 3 ∧ (swapper.cell 0).wq = [] ∧ (swapper.cell 0).relayImg = 1 + 1 ∧
    (swapper.cell 0).phys 1 ≠ (swapper.cell 0).phys 8 := by decide +kernel

/-- An AMV of one vector on crossbar 0, whose crossbar is as given. -/
def amvFl : Flight := { Flight.reset with unit := 1, word := BitVec.ofNat 128 amvWord, src := { Desc.reset with inner := 512, outer := 1 } }
def product (b : Xbar) : State := xbars b (has { Cell.reset with st := 2, flight := [amvFl], ins := [InsJob.reset], arbs := [{ ArbJob.reset with ref := 1 }] })

theorem test_products_hyp :
    (product live).regionOn 0 = true ∧ (product live).pow.overcur = false ∧ ((product live).cell 0).nextProduct = some amvFl ∧
    amvFl.xbars = [0] ∧ (product live).pathOf 0 0 false false = .arrays ∧ amvFl.started = false ∧ amvFl.isScan = false ∧ amvFl.isT = false ∧
    ((product Xbar.reset).xbar 0 0).st = 4 ∧ ((product Xbar.reset).cell 0).nextProduct = some amvFl ∧ ((product Xbar.reset).cell 0).st = 2 ∧
    ((product live).modCell 0 (fun cl => { cl with wq := [updJob] })).pathOf 0 0 false false = .wait ∧
    ((product live).cell 0).ins = InsJob.reset :: [] ∧ ((product live).cell 0).byKey 0 = some amvFl := by decide +kernel

theorem test_plane_hyp : (product live).badCodes ((product live).planeBase 0 (((product live).cell 0).set 0) 0) = false := by
  simp [State.badCodes, State.rd8, tget, product, xbars, has, up, State.reset]

/-- A reference region that is ON. -/
def referee : State := { product live with phys := (product live).phys ++ [(1, { Phys.reset with rst := 0 })] }

theorem test_reference_hyp : (referee.cell 0).arbs = { ArbJob.reset with ref := 1 } :: [] ∧ (referee.phy 1).rst = 0 ∧ (referee.phy 1).quar = false := by
  decide +kernel

/-! ### Barriers, messages, collectives -/

/-- Members of a communication group in partition 0's record: node and cell, by rank (R307). -/
def group (g : Nat) (ms : List (Nat × Nat)) (s : State) : State :=
  let s := { s with recs := tins s.recs (recKey 0 Ty.group g) { len := 8 + 4 * ms.length, bytes := [] } }
  (List.zip (List.range ms.length) ms).foldl (fun s e => (s.setFld 0 Ty.group g (8 + 4 * e.1) 2 e.2.1).setFld 0 Ty.group g (10 + 4 * e.1) 2 e.2.2)
    (s.setFld 0 Ty.group g 4 4 ms.length)
/-- Cell 0 in local group 3 of partition 0. -/
def inLocal (s : State) : State := s.setFld 0 Ty.partition 0 (1024 + 3 * 128) 1 1

def barWord : Nat := spell 0 7 0 0 (3 * 2 ^ 84)
def gbarWord : Nat := spell 0 7 1 0 (9 * 2 ^ 84)
/-- A member of local group 3, arrived. -/
def arrived : Cell := { Cell.reset with st := 2, wait := { Wait.reset with kind := 2, group := 3, arrived := true } }
def gArrived : Cell := { Cell.reset with st := 2, wait := { Wait.reset with kind := 3, group := 9, arrived := true } }

theorem test_barrier_hyp :
    (inLocal (at0 barWord)).atControl 0 .barrier = some barWord ∧ bit (wordMod barWord) 0 = false ∧
    ((inLocal (at0 barWord)).localGroup 0 (barrierGroup barWord)).contains 0 = true ∧
    (at0 barWord).atControl 0 .barrier = some barWord ∧ ((at0 barWord).localGroup 0 3).contains 0 = false ∧
    (group 9 [(6, 0), (5, 0)] (at0 gbarWord)).atControl 0 .barrier = some gbarWord ∧ bit (wordMod gbarWord) 0 = true ∧
    (group 9 [(6, 0), (5, 0)] (at0 gbarWord)).rankOf 0 9 0 = some 1 ∧ ((at0 gbarWord).grp 9).st ≠ 2 ∧
    (group 9 [(6, 0), (5, 0)] (at0 gbarWord)).members 0 9 = [(6, 0), (5, 0)] ∧
    ((at0 gbarWord).cell 0).idle 255 = true ∧ ((at0 gbarWord).cell 0).acked = true ∧
    (inLocal (has arrived)).localGroup 0 3 = [0] ∧ (((has arrived).cell 0).st, ((has arrived).cell 0).wait.group) = (2, 3) ∧
    up.forUs hdr ∧ hdr.epoch = up.fab.epoch ∧ (up.grp 9).st ≠ 1 ∧
    (group 9 [(6, 0), (5, 0)] (has gArrived)).groupMembers 9 = [(6, 0), (5, 0)] := by decide +kernel

/-- A message to cell 1 of this module, the buffer it meets there, and one that has gone to node 6. -/
def msg : Msg := { Msg.reset with node := 5, cell := 1, chan := 2, done := 4 }
def buf : Msg := { Msg.reset with node := 5, cell := 0, chan := 2, done := 3 }
def away : Msg := { Msg.reset with node := 6, cell := 1, chan := 2, done := 4, sent := true, seq := 7 }
def post : State := { up with cells := [(0, { Cell.reset with sends := [msg] }), (1, { Cell.reset with recvs := [buf] })] }

theorem test_message_hyp :
    (post.cell 0).sends[0]? = some msg ∧ msg.node = post.fab.nodeId ∧
    findIdx (fun q : Msg => q.node == post.fab.nodeId && q.cell == 0 && q.chan == msg.chan && q.mb == msg.mb) (post.cell 1).recvs = some (0, buf) ∧
    (post.cell 0).wait.kind = 0 ∧ (post.cell 0).draining = 0 ∧ tget (post.cell 0).flags 4 0 + 1 < 2 ^ 32 ∧
    ((has { Cell.reset with sends := [{ away with sent := false }] }).cell 0).sends[0]? = some { away with sent := false } ∧
    up.forUs hdr ∧ tget up.fab.seqRx (6 * 2 ^ 24 + 0) 0 = 0 ∧ tget ({ up.fab with seqRx := [(6 * 2 ^ 24, 1)] } : Fab).seqRx (6 * 2 ^ 24 + 0) 0 = 1 ∧
    findIdx (fun q : Msg => q.sent && q.node == hdr.src && q.cell == 18 / 16 % 1024 && q.chan == 18 % 16 && q.seq == 7)
      ((has { Cell.reset with sends := [away] }).cell (18 / 16384)).sends = some (0, away) ∧
    (has { Cell.reset with sends := [away] }).passed away.sentAt 200000 = true := by decide +kernel

/-- CRED, CBCAST, CNORM and CFIN of group 9 over stream 0 (R238 to R240). -/
def collWords : List (Op × Nat) :=
  [(.cred, spell 7 0 0 0 (rr 0 1 + 9 * 2 ^ 52)), (.cbcast, spell 7 1 0 0 (rr 0 0 + 9 * 2 ^ 52 + 1 * 2 ^ 32)), (.cnorm, spell 7 2 0 0 (rr 0 20 + 9 * 2 ^ 52)),
    (.cfin, spell 7 3 0 0 (rr 0 0 + 9 * 2 ^ 52))]
def coll (w : Nat) : State :=
  group 9 [(6, 0), (5, 0)] ((unit0 w).modCell 0 (fun cl => { cl with spad := tputs cl.spad (20 * 32) (strm 0xA000 7 1 1 4) 0 }))

theorem test_collective_hyp :
    collWords.all (fun e => let i := (coll e.2).issColl 0 e.1 e.2
      (coll e.2).atOp 0 e.1 == some e.2 && (coll e.2).accepts 0 e.2 i true && i.zero == false && (coll e.2).rankOf 0 (bits e.2 63 52) 0 == some 1) = true ∧
    up.forUs { hdr with epoch := 2 } ∧ (2 : Nat) = (up.fab.epoch + 1) % 2 ^ 32 ∧ (has gArrived).passed 0 ((has gArrived).fld 0 Ty.group 9 0 4 * 1000000) = true := by
  decide +kernel

/-! ### Calibration, retrieval, drills, completion -/

def acalWord : Nat := spell 2 5 0 0 (1 * 2 ^ 92 + 3 * 2 ^ 88)
def topkWord (f : Nat) : Nat := spell 8 0 0 0 (rr 5 0x300 + (if f = 0 then 1 * 2 ^ 40 else 2 * 2 ^ 48 + 4 * 2 ^ 20) + 4 * 2 ^ 31 + f * 2 ^ 29)
def digestWord : Nat := spell 10 1 3 0 (rr 0 0x300)
def drillWord : Nat := spell 10 0 0 0 (2 * 2 ^ 94 + 0xC000 * 2 ^ 78 + 2 * 2 ^ 62 + 0x0003 * 2 ^ 46 + 5 * 2 ^ 38)
/-- The steward of die 0 has one run to start. -/
def steward : State := { xbars live (has Cell.reset) with dies := [(0, { Die.reset with calQ := [(1, 0, 2, 0)] })] }
/-- The module with a drill package installed that holds pattern 3. -/
def known (s : State) : State := { s with groom := { s.groom with pkgs := [(0, 0, 0, [(3, 0)])] } }
/-- A DRILL of two rounds has waited since time 0; no other cell may serve it. -/
def drilled : State := has { Cell.reset with st := 2, drillDone := 5, drillWord := drillWord }
/-- A copy whose bytes have landed. -/
def doneFl : Flight := { Flight.reset with word := BitVec.ofNat 128 copyWord }
/-- A word of version 2 (R47). -/
def badWord : Nat := 2 * 2 ^ 124

theorem test_calibration_hyp :
    (at0 acalWord).atOp 0 .acal = some acalWord ∧ commonIll acalWord = [] ∧ wordUnit acalWord = 1 ∧ bits acalWord 91 88 = 3 ∧ bits acalWord 95 92 = 1 ∧
    rsvIll acalWord [(91, 88), (95, 92)] = [] ∧
    firstCal ((steward.die 0).calQ.filter (fun q => (steward.die 0).calRun.all (fun e => e.1 != q.2.1) && (steward.phy q.2.1).rst == 0)) = some (1, 0, 2, 0) ∧
    (steward.die 0).calRun.length < 64 ∧ steward.boot.refin = false ∧
    (let s := xbars { live with slice := 1 } (has Cell.reset)
     s.cellOf 0 = some 0 ∧ (s.xbar 0 0).slice = 1 ∧ (s.phy 0).rst = 0 ∧ (s.cell 0).wq.any (fun j => j.running && !j.spare && j.phys == 0) = false) ∧
    steward.cells.all (fun e => e.2.subst != 0 + 1 || e.2.substStage != 2) = true ∧
    (let s := { up with phys := [(0, { Phys.reset with rst := 0, calDirty := true })] }; (s.phy 0).calDirty = true ∧ (s.phy 0).calEver = false) := by
  decide +kernel

theorem test_retrieval_digest_hyp :
    (unit0 (topkWord 0)).atOp 0 .topk = some (topkWord 0) ∧ bits (topkWord 0) 30 29 = 0 ∧ ((unit0 (topkWord 0)).issScan 0 (topkWord 0)).zero = false ∧
    (unit0 (topkWord 0)).accepts 0 (topkWord 0) ((unit0 (topkWord 0)).issScan 0 (topkWord 0)) true = true ∧
    (unit0 (topkWord 1)).atOp 0 .topk = some (topkWord 1) ∧ bits (topkWord 1) 30 29 = 1 ∧ (issMerge (topkWord 1)).zero = false ∧
    ((unit0 (topkWord 1)).cell 0).queued 1 = 0 ∧ (unit0 (topkWord 1)).accepts 0 (topkWord 1) (issMerge (topkWord 1)) true = true ∧
    (unit0 digestWord).atOp 0 .digest = some digestWord ∧ ((unit0 digestWord).issDigest 0 digestWord).zero = false ∧
    (unit0 digestWord).accepts 0 digestWord ((unit0 digestWord).issDigest 0 digestWord) true = true ∧ wordMod digestWord = 3 := by decide +kernel

theorem test_drill_hyp :
    (known (at0 drillWord)).atOp 0 .drill = some drillWord ∧ ((known (at0 drillWord)).issDrill drillWord).zero = false ∧ ((known (at0 drillWord)).cell 0).drillDone = 0 ∧
    (known (at0 drillWord)).accepts 0 drillWord ((known (at0 drillWord)).issDrill drillWord) true = true ∧ drillEngine drillWord ≠ 0 ∧
    (drilled.cell 0).drillDone ≠ 0 ∧ drilled.drillCells 0 = [] ∧ drilled.passed (drilled.cell 0).drillAsk 10000000 = true ∧
    (let s := drilled.modPhy 1 (fun p => { p with rst := 0 })
     dieOf 0 = 0 ∧ (s.phy (s.reg 0)).rst = 0 ∧ (s.phy (s.reg 0)).quar = false ∧ s.drillCells 0 ≠ [] ∧
     bits (s.cell 0).drillStatus 35 20 + 1 < bits (s.cell 0).drillWord 77 62) ∧
    (let s := { has Cell.reset with phys := [(0, { Phys.reset with rst := 0, prio := true })] }
     (s.die 0).drillAt = none ∧ s.fld 0 Ty.drill 0 0 2 ≠ 0 ∧
     (((List.range 272).map (fun i => 0 * 272 + i)).filter s.visitable).find? (fun r => (s.phy r).prio) = some 0) := by decide +kernel

theorem test_completion_hyp :
    (let s := has { Cell.reset with st := 2, flight := [doneFl] }
     (s.cell 0).head 0 = some doneFl ∧ doneFl.done = true ∧ s.regionOn 0 = true ∧ wordOp doneFl.word.toNat ≠ some .cfin ∧ (s.cell 0).wait.kind = 0 ∧
     (s.cell 0).draining = 0 ∧ s.compFits 0 doneFl.word.toNat) ∧
    (at0 badWord).issuing 0 = true ∧ ((at0 badWord).illCauses 0).min? = some 1 ∧ execCode Fc.collective 2 = true ∧ Fc.collective ≠ Fc.memory := by
  decide +kernel

/-! ### Power and sensing -/

/-- A power state of the module, and region 0 as given. -/
def pw (f : Pow → Pow) : State := { up with pow := f up.pow }
def re (p : Phys) : State := { up with phys := [(0, p)] }

theorem test_governor_hyp :
    up.pow.main = true ∧
    (let s := pw (fun w => { w with n := 2, sum := 3601, limit := 1800 }); s.pow.n ≠ 0 ∧ ¬ s.pow.limit < s.pow.sum / s.pow.n) ∧
    (let s := pw (fun w => { w with n := 2, sum := 3602, limit := 1800 }); s.pow.n ≠ 0 ∧ s.pow.limit < s.pow.sum / s.pow.n) ∧
    (let s := pw (fun w => { w with below := 10, ceil := 2 }); 10 ≤ s.pow.below ∧ s.pow.ceil < 3) ∧
    up.pow.overcur = false ∧ (pw (fun w => { w with overcur := true })).pow.overcur = true := by decide +kernel

theorem test_gaits_hyp :
    (let s := re { Phys.reset with rst := 0, gait := 1, rail := 620, policyGait := 2 }
     (s.phy 0).rst = 0 ∧ (s.gaitWant 0).1 = (2 : Fin 4).val ∧ (s.phy 0).ramp = false ∧ (s.phy 0).gait < (2 : Fin 4).val) ∧
    (let s := re { Phys.reset with rst := 0, gait := 3, rail := 780, policyGait := 2 }
     (s.gaitWant 0).1 = (2 : Fin 4).val ∧ (s.phy 0).ramp = false ∧ (2 : Fin 4).val < (s.phy 0).gait) ∧
    (let s := re { Phys.reset with rst := 0, ramp := true }; (s.phy 0).ramp = true ∧ (s.phy 0).stretch = false ∧ (s.phy 0).rst = 0) ∧
    (let s := re { Phys.reset with rst := 0, rail := 700 }; (s.phy 0).stretch = false ∧ 100 * 671 < 96 * (s.phy 0).rail) ∧
    (let s := re { Phys.reset with rst := 0, rail := 700, stretch := true, stretchAt := 0 }
     (s.phy 0).stretch = true ∧ 97 * (s.phy 0).rail < 100 * 680 ∧ (s.phy 0).droopDerate = false ∧ s.passed (s.phy 0).stretchAt 10000 = true) ∧
    (let s := re { Phys.reset with rst := 0, droopDerate := true, droopUntil := 1 }; s.passed (s.phy 0).droopUntil 0 = true) ∧
    ((1920 : Int) < 1921 ∧ 1536 + 271 < 2048 ∧ (1536 + 271) % 512 < 272 ∧ (up.phy (1807 / 512 * 272 + 1807 % 512)).tempSplit = false) ∧
    (let s := re { Phys.reset with rst := 0, tempSplit := true, splitOkAt := 1 }
     (s.phy 0).tempSplit = true ∧ (s.phy 0).splitOkAt ≠ 0 ∧ s.passed (s.phy 0).splitOkAt 9999999 = true) := by decide +kernel

theorem test_power_failures_hyp :
    tget up.fab.bridges (2 * 3 + 1) false = false ∧ (up.phy (pairKey 3 303)).regA = false ∧ (up.phy (pairKey 3 303)).regB = false ∧
    (up.phy (pairKey 3 303)).sense = false ∧ (up.phy (pairKey 3 303)).swStage = 0 ∧ (up.phy (pairKey 3 303)).ramp = false ∧
    (let s := re { Phys.reset with jw := 16 }; 16 ≤ (s.phy (pairKey 0 0)).jw ∧ (s.phy (pairKey 0 0)).jointDerate = false) ∧
    tget (up.die 0).vcFail 3 0 = 0 ∧ tget ({ up with dies := [(0, { Die.reset with vcFail := [(3, 1)] })] }.die 0).vcFail 3 0 = 1 ∧
    up.pow.memFail.contains 15 = false ∧ bit up.pow.auxFail 1 = false := by decide +kernel

theorem test_regions_hyp :
    (let s := re { Phys.reset with want := 0 }
     ((s.phy 0).want = 0 ∧ (s.phy 0).rst = 2 ∧ (s.phy 0).swStage = 0 ∧ (s.phy 0).regA = false ∧ s.pow.main = true ∧ s.pow.hold = false) ∧
      0 < s.fld 0 Ty.power 0 2 1 * 250 ∧ 10 * 161 < 9 * 60 * (3 - tget (s.die (0 / 272)).vcFail (zoneOf 0) 0)) ∧
    (let s := re { Phys.reset with swStage := 5 }; 2 ≤ (s.phy 0).swStage ∧ (s.phy 0).swStage < 6 ∧ s.pow.hold = false) ∧
    (let s := re { Phys.reset with swStage := 6 }; (s.phy 0).swStage = 6 ∧ s.cells.all (fun e => e.2.subst != 0 + 1) = true) ∧
    (let s := { up with phys := [(1087, { Phys.reset with swStage := 2, swAt := 1 })] }
     (s.phy 1087).swStage = 2 ∧ s.passed (s.phy 1087).swAt (if (s.phy 1087).stretched then 200000 else 50000) = true ∧ s.cellOf 1087 = none) ∧
    (let s := { re { Phys.reset with rst := 0, want := 1 } with cells := [(0, Cell.reset)] }
     (s.phy 0).want = 1 ∧ (s.phy 0).rst = 0 ∧ (s.phy 0).ramp = false ∧ s.cellOf 0 = some 0 ∧ (s.cell 0).st ≠ 2 ∧ (s.cell 0).wq = [] ∧
      (s.die (0 / 272)).calRun.all (fun e => e.1 != 0) = true) := by decide +kernel

theorem test_regions_quiet_hyp : ∀ k : Nat, ((re { Phys.reset with want := 0 }).phy k).swStage = 0 := by
  intro k
  cases k <;> rfl

theorem test_input_limits_hyp :
    up.pow.aux = true ∧ up.pow.latchedOff = false ∧ up.pow.ovWarn = false ∧ up.pow.main = true ∧ up.pow.hold = false ∧
    (let s := pw (fun w => { w with hold := true, holdAt := 19970000000 }); s.pow.hold = true ∧ s.time ≤ s.pow.holdAt + 30000000) ∧
    (got (exec (.inputOvervoltage 6001) up)).isNone = true ∧ after (.inputOvervoltage 6000) up (fun t => t.pow.main) = some false ∧
    after (.inputOvWarn 5000) up (fun t => t.pow.ovWarn) = some true ∧ after (.inputUndervoltage 3999) up (fun t => t.pow.uvWarn) = some true := by
  decide +kernel

/-- Two partitions, so that cells have channels of their own; the die as given. -/
def dieS (d : Die) : State := { up with dies := [(0, d)] }
def ownTwo : State := up.setFld 0 Ty.partition 0 1 1 2

theorem test_sensing_hyp :
    (let s := dieS { Die.reset with selfCal := [8] }
     s.pow.main = true ∧ (s.die 0).selfCal.contains ((s.die 0).conv 504) = true ∧ s.srcFits 0 504 0 = true) ∧
    (let s := dieS { Die.reset with running := [(0, 17)] }
     (tget (s.die 0).running ((s.die 0).conv 0) 0) % 1024 ≠ (0 : Fin 512).val + 1 ∧ tget (s.die 0).running ((s.die 0).conv 0) 0 < 1024 ∧
      tget (s.die 0).urgent ((s.die 0).conv 0) 0 = 0) ∧
    (let s := dieS { Die.reset with refBad := 16 }
     16 ≤ (s.die 0).refBad ∧ (s.die 0).refFault = false ∧ s.dies.all (fun e => e.2.calRun.isEmpty) = true) ∧
    (let s := dieS { Die.reset with refGood := 16, refFault := true }; 16 ≤ (s.die 0).refGood ∧ (s.die 0).refFault = true) ∧
    (let s := dieS { Die.reset with sensBad := [(63, 16)], tripRun := [(63, 2)] }
     16 ≤ tget (s.die 0).sensBad 63 0 ∧ (s.die 0).sensFail.contains 63 = false ∧ 2 ≤ tget (s.die 0).tripRun 63 0 ∧ s.groom.trip = false) ∧
    (up.die 0).retired.contains 15 = false ∧ up.regionPart 0 = some 0 ∧ ownTwo.multi = true ∧ ownTwo.pow.main = true ∧ tget (ownTwo.die 0).burst 2 0 = 0 ∧
    up.fld 0 Ty.arrayRead 0 1 1 ≤ up.fld 0 Ty.arrayRead 0 2 1 := by decide +kernel

/-! ### Fabric, epochs, snapshots, recovery -/

/-- Port 23 as given; the fabric state as given. -/
def pt23 (p : Port) : State := { up with fab := { up.fab with ports := [(23, p)] } }
def fb (f : Fab → Fab) : State := { up with fab := f up.fab }
def helloM : HelloMsg :=
  { verMin := 1, verMax := 1, isa := 1, node := 9, epoch := 0xFFFFFFFF, coord := 0xFFFF, feed := 1, serial := 2, port := 4, locked := true }

theorem test_ports_hyp :
    ((pt23 { Port.reset with st := 1 }).port 23).st = 1 ∧ up.pow.main = true ∧
    (let s := (pt23 { Port.reset with st := 2 }).setFld 0 Ty.node 0 0 2 4095; (s.port 23).st = 2 ∧ s.fld 0 Ty.node 0 0 2 < 4096) ∧
    (let s := (pt23 { Port.reset with st := 2 }).setFld 0 Ty.node 0 0 2 4096; (s.port 23).st = 2 ∧ 4096 ≤ s.fld 0 Ty.node 0 0 2) ∧
    (let s := pt23 { Port.reset with st := 3 }
     2 ≤ (s.port 23).st ∧ (s.port 23).uncorr < 64 ∧ (s.port 23).st = 3 ∧ (s.port 23).cause = 0 ∧ (s.port 23).gotAck = false ∧
      (s.port 23).gotHello = false ∧ helloM.node ≠ s.fab.nodeId ∧ s.fab.members.contains helloM.node = false) ∧
    helloM.verMin ≤ 1 ∧ 1 ≤ helloM.verMax ∧ 1 < ({ helloM with verMin := 2 } : HelloMsg).verMin ∧ ({ helloM with verMax := 0 } : HelloMsg).verMax < 1 ∧
    (let s := pt23 { Port.reset with st := 3, gotHello := true, sentAck := true, epoch := 0xFFFFFFFF }
     (s.port 23).gotHello = true ∧ (s.port 23).sentAck = true ∧ s.fab.inSystem = true ∧ (s.port 23).epoch = 0xFFFFFFFF) ∧
    up.forUs hdr := by decide +kernel

/-- Node 6 probes the coordinator 4 in vain, and still reaches node 5. -/
def probing : State :=
  fb (fun f => { f with
    nodeId := 6, coord := 4, members := [4, 5, 6], ports := [(0, { Port.reset with st := 4, pNode := 5 })]
    probes := [(4, { Probe.reset with unreach := true, since := 1 })] })

theorem test_probe_hyp :
    (let p : Probe := { Probe.reset with unreach := true, since := 1 }
     tfind probing.fab.probes probing.fab.coord = some p ∧ p.suspected = false ∧ p.unreach = true ∧ probing.fab.minority = false ∧
      probing.passed p.since (probing.fld 0 Ty.membership 0 0 2 * 1000000) = true ∧ probing.quorum = true ∧
      probing.suspectTo probing.fab.coord ≠ probing.fab.nodeId) ∧
    up.forUs hdr ∧ up.behind hdr = false ∧ up.fab.inSystem = true ∧ up.fab.members.contains hdr.src = true ∧ up.suspectTo 7 = up.fab.nodeId ∧
    (7, 5) ∈ (fb (fun f => { f with suspects := [(7, 5)] })).fab.suspects ∧ (5 : Nat) ≠ hdr.src ∧ up.fab.members.contains 7 = true ∧
    (let s := fb (fun f => { f with gatherAt := some 1 }); s.passed 1 1000000 = true ∧ s.fab.coord = s.fab.nodeId ∧ s.quorum = false) ∧
    (let s := fb (fun f => { f with gatherAt := some 1, members := [5] }); s.fab.gatherAt = some 1 ∧ s.quorum = true) := by decide +kernel

/-- A change of the members that must be acknowledged at once, and one that may wait. -/
def prop0 (chg : List Change) (acks : List Nat) : Proposal := { Proposal.reset with epoch := 2, changes := chg, acks := acks, at_ := 1 }

theorem test_epoch_hyp :
    (up.forUs hdr ∧ up.fab.inSystem = true ∧ up.fab.members.contains hdr.src = true ∧ up.fab.minority = false) ∧
    immediate [(0, 7, 0)] = true ∧ immediate [(3, 7, 0)] = false ∧
    (let s := fb (fun f => { f with coord := 6, deferred := some (prop0 [(3, 9, 0)] []) })
     s.fab.deferred = some (prop0 [(3, 9, 0)] []) ∧ s.groupWaits = false ∧ s.fab.coord ≠ s.fab.nodeId) ∧
    (let s := fb (fun f => { f with prop := some (prop0 [(0, 7, 0)] [5]) })
     s.fab.prop = some (prop0 [(0, 7, 0)] [5]) ∧ 7 ∈ s.fab.members ∧ 7 ∉ s.fab.lost ∧ 7 ≠ hdr.src ∧ 7 ∉ (prop0 [(0, 7, 0)] [5]).acks ∧
      s.fab.lost = [] ∧ s.fab.pendChg = [] ∧ immediate (prop0 [(0, 7, 0)] [5]).changes = true ∧
      s.passed (prop0 [(0, 7, 0)] [5]).at_ 5000000 = true) ∧
    up.fab.epoch + 1 ≠ 0xFFFFFFFF ∧ up.fab.coord = up.fab.nodeId ∧
    (let s := fb (fun f => { f with members := [5, 7], sysVer := 1 })
     s.fab.members.contains hdr.src = false ∧ s.fab.sysVer < 2 ∧ 1 ≤ s.fab.sysVer ∧ s.fab.sysVer ≤ 1 ∧ s.fab.pendChg.contains (3, hdr.src, 0) = false) ∧
    (let s := fb (fun f => { f with inSystem := false, joinAt := some 1 })
     s.fab.joinAt = some 1 ∧ s.fab.inSystem = false ∧ s.fab.locked = false ∧ s.passed 1 1000000000 = true) := by decide +kernel

theorem test_time_hyp :
    (let s := pt23 { Port.reset with st := 4, pNode := 7 }
     s.forUs hdr ∧ (s.port 23).st = 4 ∧ s.fab.inSystem = true ∧ s.fab.fresh = false ∧ s.towardGrand 23 = false) ∧
    (let s := fb (fun f => { f with ports := [(23, { Port.reset with st := 4, pNode := 6 })], grand := 6 }); s.towardGrand 23 = true) ∧
    (let s := fb (fun f => { f with grand := 5 })
     s.hif.up = true ∧ s.fab.inSystem = true ∧ s.fab.grand = s.fab.nodeId ∧ s.fab.ftEpoch ≠ some s.fab.epoch ∧
      (s.time / 1000000000 + 1) * 1000000000 ≤ 21000000000 ∧ 20999999999 < (s.time / 1000000000 + 1) * 1000000000) ∧
    (let s := fb (fun f => { f with ftSet := some (20000000000, 5), locked := true })
     s.fab.ftSet = some (20000000000, 5) ∧ 20000000000 ≤ s.time ∧ s.fab.locked = true) ∧
    up.time < 21000000000 ∧
    (let s := up.setFld 0 Ty.membership 0 2 1 1; s.fld 0 Ty.membership 0 2 1 = 1 ∧ s.pow.aux = true ∧ s.time % 1000000000 ≤ 1000000) ∧
    1000000 < ({ up with time := 1000001 } : State).time % 1000000000 := by decide +kernel

/-- Partition 0 takes snapshots, gated by group 9 with ranks as given. -/
def dom (ms : List (Nat × Nat)) (q : Part) (f : Fab → Fab := id) : State :=
  let s := (group 9 ms up).setFld 0 Ty.partitionMode 0 6 2 9
  { s with recs := tins s.recs (recKey 0 Ty.snapshot 0) { len := 9512, bytes := [(0, 1)] }, fab := f { s.fab with groups := [(9, { Group.reset with st := 1 })] }, parts := [(0, q)] }

theorem test_snapshot_hyp :
    (let s := dom [(6, 0), (5, 0)] Part.reset; s.forUs hdr ∧ hdr.src = s.leaderOf 0 ∧ s.snaps 0 = true) ∧
    (let s := dom [(5, 0), (6, 0)] { Part.reset with trainStep := 8 }
     s.leaderOf 0 = s.fab.nodeId ∧ s.snaps 0 = true ∧ (s.part 0).snap ≠ 2 ∧ s.fab.minority = false ∧ (s.part 0).plan = none ∧
      (s.part 0).await_ = none ∧ (s.part 0).lastSecured + 1 ≠ (s.part 0).trainStep) ∧
    (let s := dom [(6, 0), (5, 0)] { Part.reset with reqAt := some 1 }
     (s.part 0).reqAt = some 1 ∧ s.passed 1 10000000000 = true ∧ s.leaderOf 0 ≠ s.fab.nodeId) := by decide +kernel

theorem test_quiesce_hyp :
    (let s := dom [(6, 0), (5, 0)] { Part.reset with snap := 1, quiesce := true } (fun f => { f with remounts := [7] })
     s.rack.emerg = false ∧ (s.part 0).snap = 1 ∧ (s.part 0).quiesce = true ∧ (s.part 0).snapReset = false ∧ s.fab.remounts ≠ [] ∧
      (s.cellsOf 0).all (fun c => (s.cell c).quiet) = true) ∧
    (let s := { (dom [(6, 0), (5, 0)] { Part.reset with snap := 1, quiesce := true }) with cells := [(0, { Cell.reset with flight := [doneFl] })] }
     (s.cellsOf 0).contains 0 = true ∧ (s.cell 0).quiet = false) := by decide +kernel

theorem test_images_hyp :
    (let s := dom [(6, 0), (5, 0)] { Part.reset with sending := true } (fun f => { f with remounts := [6, 7] })
     (s.part 0).sending = true ∧ s.fab.remounts.contains hdr.src = true ∧ 7 ∈ s.fab.remounts ∧ 7 ≠ hdr.src ∧ 7 ∉ (s.part 0).stored) ∧
    (let s := dom [(5, 0), (6, 0)] { Part.reset with await_ := some 3 }
     s.leaderOf 0 = s.fab.nodeId ∧ (s.part 0).await_ = some 3 ∧ 5 ∈ s.survivors 0 ∧ 5 ≠ hdr.src ∧ 5 ∉ (s.part 0).doneFrom ∧
      (s.part 0).halting = false) := by decide +kernel

/-- With no remount the bound is 1.2 ms, whatever the size (R340). -/
theorem test_timeout_hyp (n : Nat) : let s := dom [(5, 0), (6, 0)] { Part.reset with await_ := some 3 }
    10 * s.haltBound 0 n ≤ ((s.time - (s.part 0).planAt : Nat) : Rat) := by
  intro s
  have h : s.haltBound 0 n = 1200000 := by
    have r : s.fab.remounts.length = 0 := by decide +kernel
    unfold State.haltBound
    rw [r]
    simp
  have d : s.time - (s.part 0).planAt = 20000000000 := by decide +kernel
  rw [h, d]
  norm_num

theorem test_remount_hyp :
    (let s := (fb (fun f => { f with owners := [(6, Owner.reset)] })).setFld 0 Ty.membership 0 8 2 1
     s.forUs hdr ∧ (tfind s.fab.owners hdr.src).isSome = true ∧ 3 * 357913941 ≤ s.reserveLeft hdr.src ∧ s.reserveLeft hdr.src < 3 * 357913942) ∧
    up.fab.owners.length < (up.setFld 0 Ty.membership 0 3 1 1).fld 0 Ty.membership 0 3 1 ∧
    up.fab.remounts.contains hdr.src = false ∧ up.fab.remounts.length < up.remountsWanted := by decide +kernel

/-- A piece of node 6's step 3, and the pieces still wanted. -/
def piece : FetchMsg := { owner := 6, steps := [], kind := 1, step := 3, item := 1, off := 0, data := [7], last := false }
def want0 : Part := { Part.reset with snap := 2, restore := 2, restoreStep := 3, fetchWant := [(6, 1, 0, 64), (7, 1, 0, 64)] }

theorem test_recovery_hyp :
    (let s := group 9 [(6, 0), (5, 0)] up
     (s.recs.any (fun e => decide (e.1 / 2 ^ 32 = 0) && keyType e.1 == Ty.group && (s.members 0 (e.1 % 65536)).any (fun m => m.1 == hdr.src))) = true ∧
      (s.part 0).replaySeen.contains (hdr.src, 0, 3) = false) ∧
    (∀ q < 16, (up.recs.any (fun e => decide (e.1 / 2 ^ 32 = q) && keyType e.1 == Ty.group && (up.members q (e.1 % 65536)).any (fun m => m.1 == hdr.src)))
      = false) ∧
    (let i : Image := { Image.reset with step := 3 }
     (tget (fb (fun f => { f with owners := [(6, { Owner.reset with images := [i] })] })).fab.owners 6 Owner.reset).images.find? (fun i => i.step == 3) = some i) ∧
    (let s := dom [(5, 0), (6, 0)] want0
     (s.part 0).snap = 2 ∧ (s.part 0).restore = 2 ∧ piece.kind = 1 ∧ piece.step = (s.part 0).restoreStep ∧ (6, 1, 0, 64) ∈ (s.part 0).fetchWant ∧
      (7, 1, 0, 64) ∈ (s.part 0).fetchWant ∧ (7 : Nat) ≠ piece.owner ∧ s.leaderOf 0 = s.fab.nodeId ∧ 5 ∈ s.survivors 0 ∧ 5 ≠ hdr.src ∧
      5 ∉ (s.part 0).readyFrom) ∧
    (let s := dom [(6, 0), (5, 0)] want0; s.leaderOf 0 ≠ s.fab.nodeId ∧ (s.part 0).restore ≠ 5) := by decide +kernel

/-! ### The host -/

/-- A submission entry (R455). -/
def sub (op flags set first count : Nat) (a0 a1 a2 a3 : Nat) : List Byte :=
  leBytes 1 op ++ leBytes 1 flags ++ leBytes 2 0x77 ++ leBytes 2 first ++ leBytes 2 count ++ leBytes 1 set ++ leBytes 7 0 ++ leBytes 8 a0 ++
    leBytes 8 a1 ++ leBytes 8 a2 ++ leBytes 8 a3 ++ leBytes 16 0
/-- An entry stands at the head of queue 0 of the physical function. -/
def hostAt (b : List Byte) (s : State := up) : State := s.modQueue 0 0 (fun x => { x with st := 1, sqTail := 1, ring := tputs x.ring 0 b 0 })
/-- Whether the entry there is fetched as an opcode, into a state and a command with the property given. -/
def cmd (s : State) (op : Nat) (f : State → Cmd → Bool) : Bool :=
  match s.fetchCmd 0 0 op with
  | .inr (t, k) => f t k
  | .inl _ => false

theorem test_fetch_hyp :
    (let s := hostAt (sub 0x10 0 0 0 0 0 0 0 0)
     s.canFetch 0 0 = true ∧ (cmdOf 0 (s.queue 0 0).entry).op = 0x10 ∧ hostOpcodes.contains 0x10 = true ∧ s.boot.ready = true ∧
      entryClean (s.queue 0 0).entry = true ∧ cmd s 0x10 (fun _ _ => true) = true) ∧
    (let s := hostAt (sub 0x11 0 0 0 0 0 0 0 0)
     s.canFetch 0 0 = true ∧ hostOpcodes.contains (cmdOf 0 (s.queue 0 0).entry).op = false) ∧
    up.canFetch 0 0 = false ∧
    (let s := up.modQueue 0 0 (fun x => { x with st := 1 })
     (s.queue 0 0).st ≠ 0 ∧ s.hif.up = true ∧ (s.queue 0 0).cqFull = false ∧ (s.queue 0 0).cwait = []) ∧
    (let s := up.modQueue 0 0 (fun x => { x with st := 1, cqTail := x.cqLen - 1 }); (s.queue 0 0).st ≠ 0 ∧ (s.queue 0 0).cqFull = true) := by
  decide +kernel

/-- A load image of one NOP for cell 0 (R50), with its checksum, at a host address. -/
def imgHead : List Byte := leBytes 4 0x48555047 ++ leBytes 1 1 ++ leBytes 1 0x10 ++ leBytes 2 0 ++ leBytes 4 9 ++ leBytes 2 1 ++ leBytes 2 0
def imgRest : List Byte := leBytes 12 0 ++ leBytes 128 1 ++ leBytes 96 0 ++ leBytes 16 (spell 0 0 0 0 0)
def image : List Byte := imgHead ++ leBytes 4 503416336 ++ imgRest
def loads (n : Nat) : State := (hostAt (sub 1 0 0 0 0 (2 ^ 63 + 4096) n 0 0)).wrHost 4096 image

theorem test_image_bytes : image.take 16 ++ leBytes 4 0 ++ (image.drop 20).take (236 + 16 * leNat ((image.drop 0xC).take 2)) =
    imgHead ++ (leBytes 16 0 ++ (leBytes 128 1 ++ (leBytes 96 0 ++ leBytes 16 (spell 0 0 0 0 0)))) := by decide +kernel

theorem test_crc_head : (leBytes 16 0).foldl crcByte (imgHead.foldl crcByte 0xFFFFFFFF) = 3178859582 := by decide +kernel
theorem test_crc_set : (leBytes 128 1).foldl crcByte 3178859582 = 896895776 := by decide +kernel
theorem test_crc_zeros : (leBytes 96 0).foldl crcByte 896895776 = 3580649401 := by decide +kernel
theorem test_crc_word : (leBytes 16 (spell 0 0 0 0 0)).foldl crcByte 3580649401 ^^^ 0xFFFFFFFF = 503416336 := by decide +kernel

theorem test_image_crc : crc32c (image.take 16 ++ leBytes 4 0 ++ (image.drop 20).take (236 + 16 * leNat ((image.drop 0xC).take 2))) = 503416336 := by
  rw [test_image_bytes, crc32c, List.foldl_append, List.foldl_append, List.foldl_append, List.foldl_append, test_crc_head, test_crc_set, test_crc_zeros,
    test_crc_word]

theorem test_image_hyp : up.imageFail 0 image = 0 := by
  unfold State.imageFail
  simp only [test_image_crc]
  decide +kernel

theorem test_load_hyp :
    cmd (loads 272) 1 (fun t k => let b := t.rdArg k.a0 (min k.a1 65792)
      k.a1 != 0 && t.addrBad 0 k.a0 (min k.a1 65792) == none && !t.boot.memFault && t.argError k.a0 (min k.a1 65792) == none &&
        b == image && leNat ((b.drop 0xC).take 2) != 0 && (t.part 0).snap != 2 && bit (leNat ((b.drop 0x20).take 1)) 0 &&
        (List.range 1024).all (fun c => !bit (leNat ((b.drop (0x20 + c / 8)).take 1)) (c % 8) || t.regionOn c)) = true ∧
    cmd (loads 16) 1 (fun t k => t.imageFail 0 (t.rdArg k.a0 (min k.a1 65792)) == 1) = true := by decide +kernel

/-- Cells 0 and 1 as given, a command over both at the head of the queue. -/
def pair (op : Nat) (a b : Cell) (a0 : Nat := 0) : State := hostAt (sub op 0 0 0 2 a0 0 0 0) { up with
  cells := [(0, a), (1, b)], phys := [(0, { Phys.reset with rst := 0 }), (1, { Phys.reset with rst := 0 })] }

theorem test_cell_commands_hyp :
    cmd (pair 2 { Cell.reset with st := 1 } { Cell.reset with st := 2 }) 2 (fun t k => decide (t.cellSet 0 k) && t.cmdCells k == [0, 1] &&
      !(t.cell 1).startable) = true ∧
    cmd (pair 2 { Cell.reset with st := 1 } { Cell.reset with st := 3 } 1) 2 (fun t k => decide (t.cellSet 0 k) && decide (k.a0 ≤ t.time) &&
      (t.cmdCells k).all (fun c => (t.cell c).startable && t.regionOn c)) = true ∧
    cmd (pair 2 { Cell.reset with st := 1 } { Cell.reset with st := 3 } 20000000001) 2 (fun t k => decide (t.cellSet 0 k) && decide (t.time < k.a0) &&
      (t.cmdCells k).all (fun c => (t.cell c).startable && t.regionOn c)) = true ∧
    (let s := has { Cell.reset with st := 1, startPend := true, startAt := 20000000000 }
     (s.cell 0).startPend = true ∧ (s.cell 0).startAt ≤ s.time ∧ (s.cell 0).startable = true) ∧
    cmd (pair 3 { Cell.reset with st := 2 } { Cell.reset with st := 2, flight := [doneFl] }) 3 (fun t k => decide (t.cellSet 0 k) &&
      (t.cell 0).st == 2 && (t.cell 0).resetLevel == 0 && (t.cell 0).flight == [] && (t.cell 1).flight != []) = true ∧
    cmd (pair 3 { Cell.reset with st := 1 } Cell.reset) 3 (fun t k => decide (t.cellSet 0 k) && (t.cell 0).st != 2) = true ∧
    cmd (pair 4 { Cell.reset with st := 3, stopHost := true } { Cell.reset with st := 3 }) 4 (fun t k => decide (t.cellSet 0 k) &&
      !(t.cell 1).stopHost) = true ∧
    cmd (pair 4 { Cell.reset with st := 3, stopHost := true } { Cell.reset with st := 3, stopHost := true }) 4 (fun t k =>
      decide (t.cellSet 0 k) && (t.cmdCells k).all (fun c => (t.cell c).st == 3 && (t.cell c).stopHost)) = true := by decide +kernel

/-- Two idle running cells stop for one STOP, with one completion (R56). -/
theorem test_stop_once : (after (.hostStop 0 0) (pair 3 { Cell.reset with st := 2 } { Cell.reset with st := 2 })
    (fun t => ((t.cell 0).st, (t.cell 1).st, (t.queue 0 0).cqTail))) = some (3, 3, 1) := by decide +kernel

theorem test_resets_hyp :
    (let s := pair 5 Cell.reset Cell.reset; s.rack.emerg = false ∧ cmd s 5 (fun t k => decide (t.cellSet 0 k) && (t.part 0).snap != 2) = true) ∧
    cmd { (pair 5 Cell.reset Cell.reset) with parts := [(0, { Part.reset with snap := 2 })] } 5 (fun t k =>
      decide (t.cellSet 0 k) && (t.part 0).snap == 2) = true ∧
    ({ up with rack := { Rack.reset with emerg := true } } : State).rack.emerg = true ∧
    cmd (pair 6 Cell.reset Cell.reset) 6 (fun t k => decide (t.cellSet 0 { k with set := 0 }) && k.count != 1) = true ∧
    cmd (hostAt (sub 6 0 1 0 1 0 0 0 0)) 6 (fun t k => decide (t.cellSet 0 { k with set := 0 }) && k.count == 1 && (t.part 0).snap != 2) = true ∧
    (let s := has { Cell.reset with st := 3, resetLevel := 1 }; s.drained 0 = true ∧ s.boot.resetStage = 0 ∧ (s.cell 0).resetLevel = 1) ∧
    (let s := has { Cell.reset with resetLevel := 2 }; s.drained 0 = true ∧ (s.cell 0).resetLevel = 2 ∧ (s.cell 0).st = 0 ∧ (s.cell 0).wq = []) ∧
    (let s := has { Cell.reset with resetLevel := 3 }; s.drained 0 = true ∧ (s.cell 0).resetLevel = 3 ∧ (s.part (s.owner 0)).vanish = false) ∧
    (has { Cell.reset with flight := [doneFl], resetAt := 20000000000 }).drained 0 = false ∧
    (up.hif.up = true ∧ (up.part 0).snap ≠ 2 ∧ 0 ≤ up.hif.numVf ∧ (up.part 0).resetting = false ∧ (up.cellsOf 0).contains 0 = true ∧
      up.cells.all (fun e => decide (e.2.resetLevel ≤ 3)) = true) ∧
    up.hif.numVf < 1 := by decide +kernel

def bt (f : Boot → Boot) : State := { up with boot := f up.boot }

theorem test_module_reset_hyp :
    0xABC5254 % 65536 = 0x5254 ∧ up.hif.up = true ∧ up.boot.resetStage = 0 ∧ up.pow.aux = true ∧ up.boot.running = false ∧ up.rack.emerg = false ∧
    up.boot.ready = true ∧ (bt (fun b => { b with running := true })).boot.running = true ∧ (0x5255 : Nat) % 65536 ≠ 0x5254 ∧
    (let s := bt (fun b => { b with resetStage := 1 }); s.boot.resetStage = 1 ∧ ∀ e ∈ s.cells, s.drained e.1 = true) ∧
    (let s := { bt (fun b => { b with resetStage := 1 }) with cells := [(0, { Cell.reset with flight := [doneFl], resetAt := 20000000000 })] }
     s.cells.any (fun e => !s.drained e.1) = true) ∧
    (bt (fun b => { b with resetStage := 3 })).boot.resetStage = 3 ∧ (bt (fun b => { b with resetStage := 5 })).boot.resetStage = 5 ∧
    (bt (fun b => { b with resetStage := 4 })).boot.resetStage = 4 ∧ (bt (fun b => { b with resetStage := 6 })).boot.resetStage = 6 ∧
    0x5043 % 65536 = 0x5043 ∧ 2 ≤ up.boot.stage := by decide +kernel

/-- A queue and a partition of the physical function as given. -/
def qu (f : Queue → Queue) : State := up.modQueue 0 0 f
def pa (q : Part) (s : State := up) : State := { s with parts := [(0, q)] }
def rec0 (a : Nat) : ShardRec := { ShardRec.reset with addr := a, len := 64, released := true }

theorem test_host_data_hyp :
    cmd (hostAt (sub 7 0 0 0 0 (2 ^ 63 + 4096) 8192 64 0)) 7 (fun t k => k.a2 != 0 && t.addrBad 0 k.a0 k.a2 == none && t.addrBad 0 k.a1 k.a2 == none &&
      decide (2 ^ 63 ≤ k.a0) != decide (2 ^ 63 ≤ k.a1)) = true ∧
    cmd (hostAt (sub 7 0 0 0 0 4096 8192 64 0)) 7 (fun t k => k.a2 != 0 && t.addrBad 0 k.a0 k.a2 == none && t.addrBad 0 k.a1 k.a2 == none &&
      decide (2 ^ 63 ≤ k.a0) == decide (2 ^ 63 ≤ k.a1)) = true ∧
    (let m : Cmd := { cmdOf 0 (sub 7 0 0 0 0 (2 ^ 63 + 4096) 8192 64 0) with at_ := 1 }
     let s := up.modFunc 0 (fun f => { f with dma := [m] }); (s.func 0).dma[0]? = some m ∧ 2 ^ 63 ≤ m.a0 ∧ 63 < m.a2) ∧
    (let m : Cmd := { cmdOf 0 (sub 7 0 0 0 0 8192 (2 ^ 63 + 4096) 64 0) with at_ := 1 }
     let s := up.modFunc 0 (fun f => { f with dma := [m] }); (s.func 0).dma[0]? = some m ∧ m.a0 < 2 ^ 63) ∧
    cmd (hostAt (sub 10 0 0 0 1 (15 + 65535 * 65536) 0 0 0)) 10 (fun t k => decide (t.cellSet 0 k) && bits k.a0 3 0 != 0 && bits k.a0 31 16 != 0 &&
      (t.cmdCells k).all (fun c => decide (tget (t.cell c).flags (bits k.a0 3 0) 0 + bits k.a0 31 16 < 2 ^ 32))) = true ∧
    cmd (hostAt (sub 12 0 0 0 0 0 0 0 0) (dom [(6, 0), (5, 0)] Part.reset)) 12 (fun t _ => t.snaps 0 && t.leaderOf 0 != t.fab.nodeId) = true ∧
    cmd (hostAt (sub 14 0 0 0 0 (2 ^ 63) 8192 64 0)) 14 (fun t k => k.a2 != 0 && decide (2 ^ 63 ≤ k.a0) && decide (k.a1 < 2 ^ 63) &&
      t.addrBad 0 k.a1 k.a2 == none && (t.part 0).shardMap.2.2 == 0) = true ∧
    ((pa { Part.reset with shardMap := (0, 0, 64) }).part 0).shardMap.2.2 ≠ 0 ∧
    cmd (hostAt (sub 15 0 0 0 0 (2 ^ 63) 1 0 0)) 15 (fun t k => k.a1 != 0 && decide (2 ^ 63 ≤ k.a0) && !(t.part 0).planWait) = true ∧
    cmd (hostAt (sub 15 0 0 0 0 (2 ^ 63) 1 0 0) (pa { Part.reset with planWait := true })) 15 (fun t k => (t.part 0).planWait &&
      decide (k.a1 < (t.planBytes 0).length)) = true := by decide +kernel

theorem test_shard_copy_hyp :
    (let s := pa { Part.reset with outbox := [rec0 8192], shardMap := (0, 8192, 64) } (qu (fun x => { x with st := 1 }))
     (s.part 0).outbox.find? (fun r => r.released) = some (rec0 8192) ∧ s.hif.up = true ∧ (s.queue 0 0).st ≠ 0 ∧
      (s.part 0).shardMap.2.1 ≤ (rec0 8192).addr ∧ (rec0 8192).addr + (rec0 8192).len ≤ (s.part 0).shardMap.2.1 + (s.part 0).shardMap.2.2 ∧
      s.badIn (rec0 8192).addr (rec0 8192).len = none) ∧
    (let s := pa { Part.reset with outbox := [rec0 8191], shardMap := (0, 8192, 64) }
     (s.part 0).outbox.find? (fun r => r.released) = some (rec0 8191) ∧ (rec0 8191).addr < (s.part 0).shardMap.2.1) := by decide +kernel

/-- The image of a module record (R533), with its checksum, and of one with another. -/
def recImage (ty : Nat) (body : List Byte) (off : Nat) : List Byte :=
  let h := leBytes 2 ty ++ leBytes 2 0x10 ++ leBytes 4 (32 + body.length) ++ leBytes 20 0
  h ++ leBytes 4 (crc32c (h ++ leBytes 4 0 ++ body) + off) ++ body
def rackBody : List Byte := leBytes 8 (1 + 120 * 2 ^ 16 + 30 * 2 ^ 32)
def tacks (off : Nat) : State := (hostAt (sub 8 4 0 0 0 (2 ^ 63 + 4096) 0 0 0)).wrHost 4096 (recImage Ty.rack rackBody off)
def cfgWord (op off : Nat) : Nat := spell 9 op 0 0 (off * 2 ^ 80)
/-- A shadow of the rack record is staged. -/
def staged : State := up.modFunc 0 (fun f => { f with shadows := [{ ty := Ty.rack, inst := 0, body := tputs [] 0 rackBody 0 }] })

theorem test_records_hyp :
    [0, 1].all (fun off => cmd (tacks off) 8 (fun t k =>
      let n := min (max (leNat ((t.rdArg k.a0 8).drop 4)) 32) (2 ^ 20)
      t.addrBad 0 k.a0 32 == none && t.addrBad 0 k.a0 n == none && t.argError k.a0 n == none && bit k.flags 2 &&
        (t.tackImage 0 false (2 ^ 21) (fun n => t.rdArg k.a0 n)).2.1 == 2 * off)) = true ∧
    cmd (hostAt (sub 9 0 0 0 0 0xFFFF 0 0 0) staged) 9 (fun t k => (t.commitShadows 0 (k.a0 % 65536) false).2.1 == 0) = true ∧
    cmd (hostAt (sub 9 0 0 0 0 0xFFFF 0 0 0)) 9 (fun t k => (t.commitShadows 0 (k.a0 % 65536) false).2.1 == 10) = true ∧
    (let s := at0 (cfgWord 0 0xFFFF) { Cell.reset with spad := tputs [] (0xFFFF * 32 + 4) (leBytes 4 33) 0 }
     s.atOp 0 .tack = some (cfgWord 0 0xFFFF) ∧ (commonIll (cfgWord 0 0xFFFF) ++ configIll (cfgWord 0 0xFFFF)).isEmpty = true ∧
      0x200000 < bits (cfgWord 0 0xFFFF) 95 80 * 32 + max (s.rdLocN 0 (bits (cfgWord 0 0xFFFF) 95 80 * 32 + 4) 4) 32) ∧
    (let s := at0 (cfgWord 0 0xFFFF)
     s.atOp 0 .tack = some (cfgWord 0 0xFFFF) ∧
      bits (cfgWord 0 0xFFFF) 95 80 * 32 + max (s.rdLocN 0 (bits (cfgWord 0 0xFFFF) 95 80 * 32 + 4) 4) 32 ≤ 0x200000) ∧
    (at0 (cfgWord 1 0)).atOp 0 .tcommit = some (cfgWord 1 0) ∧ (commonIll (cfgWord 1 0) ++ configIll (cfgWord 1 0)).isEmpty = true := by decide +kernel

theorem test_attach_hyp :
    cmd (hostAt (sub 13 0 0 0 0 (2 ^ 63) 1 0 0)) 13 (fun t k => k.a1 != 0 && t.addrBad 0 k.a0 (min k.a1 65537) == none &&
      t.argError k.a0 (min k.a1 65537) == none) = true ∧
    cmd (hostAt (sub 11 0 0 0 0 3 (2 ^ 63) (2 ^ 63) 0) (has Cell.reset)) 11 (fun t k => decide (k.first < 1024) && t.owner k.first == 0 &&
      t.addrBad 0 k.a1 262144 == none && t.addrBad 0 k.a2 64 == none && k.a3 == 0 && t.regionOn k.first &&
      (t.xbar (t.reg k.first) ((t.cell k.first).phys (bits k.a0 2 0))).st != 3 &&
      (t.cell k.first).wq.all (fun j => j.phys != (t.cell k.first).phys (bits k.a0 2 0)) &&
      t.argError k.a1 262144 == none && t.argError k.a2 64 == none) = true ∧
    (let s := xbars live (has { Cell.reset with attach := [(3, 0x77)] })
     (s.cell 0).attach = (3, 0x77) :: [] ∧ s.boot.refin = false ∧ (s.xbar (s.reg 0) ((s.cell 0).phys 3)).selfCal = false ∧ s.regionOn 0 = true ∧
      32 < (([33] : List Int).getD 0 2048 - 64 * s.codeAt (s.planeBase 0 ((s.cell 0).set 3) 0) (16 * (0 / 512)) (0 % 512)).natAbs) := by
  decide +kernel

theorem test_queues_hyp :
    (up.fnUp 0 = true ∧ (up.queue 0 0).st = 0 ∧ (up.queue 0 0).sqLog ≤ 12 ∧ (up.queue 0 0).cqLog ≤ 12 ∧ (up.queue 0 0).vec < 64 ∧
      (up.queue 0 0).cqBase % 4096 = 0 ∧ (up.queue 0 0).coUs ≤ 1000 ∧ (up.queue 0 62).st = 0) ∧
    (let s := qu (fun x => { x with st := 1 })
     (s.queue 0 0).st = 1 ∧ 15 < (s.queue 0 0).sqLen ∧ (s.queue 0 0).sqLen ≤ 16 ∧ 15 < (s.queue 0 0).cqLen) ∧
    (let s := qu (fun x => { x with st := 1, unsig := 1, coUs := 10, unsigAt := 1 })
     (s.queue 0 0).unsig ≠ 0 ∧ (s.queue 0 0).coUs ≠ 0 ∧ s.passed (s.queue 0 0).unsigAt ((s.queue 0 0).coUs * 1000) = true) ∧
    (2 ^ 20 - 8) + 8 ≤ 2 ^ up.barLog 0 ∧ (List.range 8).all (fun i => up.ownsMem 0 ((up.func 0).winBase + (2 ^ 20 - 8) + i) 1) = true ∧
    up.badIn ((up.func 0).winBase + (2 ^ 20 - 8)) 8 = none ∧
    (let s := up.modFunc 0 (fun f => { f with winBase := 2 ^ 41 }); s.ownsMem 0 ((s.func 0).winBase + 0 + 0) 1 = false) ∧
    (bt (fun b => { b with running := true })).boot.running = true ∧
    (up.boot.running = false ∧ up.boot.ready = true ∧ up.boot.resetStage = 0 ∧ up.pow.aux = true ∧ up.rack.emerg = false) ∧
    (let s := { up with hif := { up.hif with up := false, perst := false } }; s.hif.perst = false ∧ s.hif.up = false) := by decide +kernel

/-- A partition's counter selection with dumps on (R503). -/
def dumps (policy slots : Nat) (q : Part := Part.reset) : State :=
  { up with parts := [(2, { q with selImg := [(384, 1), (385, BitVec.ofNat 8 policy), (388, 100), (392, BitVec.ofNat 8 slots), (396, 4)] })] }

theorem test_registers_hyp :
    up.fnUp 0 = true ∧ up.counterFor 0 0 = some 0 ∧ up.counterFor 0 131583 = some 0 ∧ (up.func 0).userEn = false ∧ up.owner 1023 = 0 ∧
    (let s := { up with hif := { up.hif with numVf := 15 } }; s.fnUp 15 = true ∧ s.owner 0 ≠ 15) ∧
    (up.func 0).shadows.any (fun w => w.ty == Ty.rack && w.inst == 0) = false ∧ (up.func 0).shadows.length < 16 ∧
    (let s := up.modFunc 0 (fun f => { f with shadows := List.replicate 16 Shadow.reset })
     16 ≤ (s.func 0).shadows.length ∧ (s.func 0).shadows.any (fun w => w.ty == Ty.rack && w.inst == 0) = false) ∧
    (up.func 0).shadows.filter (fun w => Ty.rack % 65536 == 0xFFFF || w.ty == Ty.rack % 65536) = [] ∧
    (let s := dumps 0 1
     s.pow.main = true ∧ (s.part 2).selPend = false ∧ selFld (s.part 2).selImg 388 4 ≠ 0 ∧ s.time % (selFld (s.part 2).selImg 388 4 * 1000) = 0 ∧
      selFld (s.part 2).selImg 384 1 = 1 ∧ (s.part 2).dumpWr - (s.part 2).dumpRd < selFld (s.part 2).selImg 392 4) ∧
    (let s := dumps 0 1 { Part.reset with dumpWr := 1 }
     selFld (s.part 2).selImg 392 4 ≠ 0 ∧ selFld (s.part 2).selImg 385 1 = 0 ∧ selFld (s.part 2).selImg 392 4 ≤ (s.part 2).dumpWr - (s.part 2).dumpRd) ∧
    (let s := { dumps 1 1 with parts := [(2, { Part.reset with selImg := [(388, 100)] })] }; selFld (s.part 2).selImg 384 1 ≠ 1) ∧
    up.tagReady 0 = false ∧
    (let s := { dumps 0 0 with parts := [(0, { Part.reset with selImg := [(396, 4)] })], cells := [(0, { Cell.reset with tagOpen := true, tagAt := 1 })] }
     s.tagReady 0 = true ∧ selFld (s.part (s.owner 0)).selImg 396 4 ≠ 0) := by decide +kernel

theorem test_boot_hyp :
    State.reset.pow.main = false ∧ State.reset.boot.running = false ∧ State.reset.pow.latchedOff = false ∧
    (let s := { State.reset with pow := { Pow.reset with latchedOff := true } }; s.pow.main = false ∧ s.pow.latchedOff = true) ∧
    (let s := bt (fun b => { b with running := true, stage := 9 }); s.boot.running = true ∧ s.boot.held = false ∧ s.pow.hold = false ∧ s.boot.stage = 9) ∧
    up.rack.latch = false ∧ ({ up with rack := { Rack.reset with latch := true } } : State).rack.latch = true ∧
    ({ up with groom := { up.groom with fwOk := false } } : State).storedOk = false ∧
    ({ up with store := [(recKey 0 Ty.repairMap 0, Slot.reset)] } : State).badSlots Ty.repairMap 0 = true ∧
    up.boot.retry = false ∧ up.boot.overran = false ∧ (bt (fun b => { b with stage := 7, retry := true })).boot.retry = true ∧
    (bt (fun b => { b with overran := true })).boot.overran = true ∧
    (let im : RecImg := { len := 8, bytes := [] }
     ({ up with groom := { up.groom with writeQ := [(Ty.rack, 0, im)] } } : State).groom.writeQ = (Ty.rack, 0, im) :: []) ∧ up.pow.aux = true := by
  decide +kernel

/-! ### The groom and the rack -/

def gm (f : Groom → Groom) : State := { up with groom := f up.groom }
def rk (f : Rack → Rack) : State := { up with rack := f up.rack }

theorem test_tree_hyp :
    up.answers 2 2 = true ∧ up.answers 2 4 = true ∧ up.answers 2 3 = true ∧ up.sensor 1 = some 0 ∧ up.sensor 5 = none ∧
    (let s := gm (fun g => { g with events := [(5, 1, 9)] }); s.groom.events.find? (fun e => e.1 == 5 && e.2.2 < 10) = some (5, 1, 9)) ∧
    (let s := gm (fun g => { g with events := [(5, 1, 10)] }); ∀ e ∈ s.groom.events, e.1 = 5 → 10 ≤ e.2.2) ∧
    (up.boot.ready = true ∧ up.boot.running = false ∧ up.rack.emerg = false ∧ up.boot.resetStage = 0) ∧
    (gm (fun g => { g with upd := some 1 })).groom.upd.isSome = true ∧ up.groom.upd = none ∧ up.groom.highSent = false ∧
    (let s := { up with daySeq := 49152 }; ∀ k : Fin 3, tget s.groom.readSeq k 0 + 49152 ≤ s.daySeq) := by decide +kernel

theorem test_attestation_hyp :
    up.answers 3 3 = true ∧ (gm (fun g => { g with spdm := false })).groom.spdm = false ∧
    (let s := gm (fun g => { g with spdm := true, spdmVer := 0x13, spdmAlg := true }); s.groom.spdm = true ∧ s.groom.spdmVer = 0x13 ∧ s.groom.spdmAlg = true) ∧
    (let s := gm (fun g => { g with spdm := true, spdmVer := 0, spdmAlg := false }); s.groom.spdmVer ≠ 0x13 ∧ s.groom.spdmAlg = false) := by decide +kernel

theorem test_mailbox_hyp :
    up.pow.aux = true ∧ (let s := bt (fun b => { b with stage := 2, ready := false }); s.boot.stage < 3 ∧ s.boot.ready = false) ∧
    (gm (fun g => { g with mbox := some [0] })).groom.mbox = some [0] ∧ 3 ≤ up.boot.stage ∧ up.sensor 1 = some 0 ∧ up.sensor 5 = none ∧
    up.groom.events = [] ∧ up.groom.upd = none ∧
    (let s := gm (fun g => { g with upd := some 257, updNext := 0, updLen := 32 })
     s.groom.upd.isSome = true ∧ 0 = s.groom.updNext ∧ 0 + (List.replicate 32 (7 : Byte)).length ≤ s.groom.updLen ∧ 1 ≠ s.groom.updNext) ∧
    (let s := gm (fun g => { g with upd := some 257, updNext := 32, updLen := 32 })
     s.groom.upd.isSome = true ∧ s.groom.updNext = s.groom.updLen ∧ s.boot.running = false) := by decide +kernel

theorem test_rack_hyp :
    (up.pow.aux = true ∧ up.rack.pressed = false ∧ up.rack.latchAt = 0) ∧
    (let s := rk (fun r => { r with latchAt := 19979000001 }); s.rack.latchAt ≠ 0 ∧ s.time ≤ s.rack.latchAt - 1 + 21000000) ∧
    (let s := rk (fun r => { r with pressed := true, pressAt := 19950000000 })
     s.rack.pressed = true ∧ s.rack.longDone = false ∧ s.passed s.rack.pressAt 50000000 = true ∧ s.passed s.rack.pressAt 5000000000 = false ∧
      s.boot.ready = true ∧ s.rack.withdraw = 0 ∧ s.fab.left_ = false ∧ s.rackFld 0 1 ≠ 0) ∧
    (bt (fun b => { b with ready := false })).boot.ready = false ∧
    (let s := rk (fun r => { r with pressed := true, pressAt := 15000000000, withdraw := 1 })
     s.rack.withdraw ≠ 0 ∧ s.passed s.rack.pressAt 5000000000 = true ∧ s.rack.withdraw = 1) ∧
    (let s := rk (fun r => { r with withdraw := 2 }); s.rack.withdraw ≠ 1 ∧ s.rack.withdraw ≠ 0) ∧
    (let s := { dom [(6, 0), (5, 0)] Part.reset with rack := { Rack.reset with withdraw := 1, wdAt := 20000000000 } }
     s.rack.withdraw = 1 ∧ s.fab.inSystem = true ∧ (List.range 16).any s.joined = true ∧ s.rack.secured = false ∧ s.snapParts ≠ [] ∧
      s.passed s.rack.wdAt (s.rackFld 2 2 * 1000000000) = false) ∧
    (let s := { group 9 [(6, 0), (5, 0)] (fb (fun f => { f with coord := 6 })) with rack := { Rack.reset with withdraw := 1, secured := true } }
     (List.range 16).any s.joined = true ∧ s.rack.secured = true ∧ s.fab.coord ≠ s.fab.nodeId) := by decide +kernel

theorem test_latch_hyp :
    (let s := rk (fun r => { r with touch := true, touchAt := 10000000000 }); s.rack.touch = true ∧ s.passed s.rack.touchAt 10000000000 = true) ∧
    up.rack.latch = false ∧ up.boot.running = false ∧ (fb (fun f => { f with inSystem := false })).fab.inSystem = false ∧
    (up.boot.ready = true ∧ up.fab.inSystem = true ∧ up.fab.minority = false ∧ up.fab.left_ = false ∧ up.rack.emerg = false) ∧
    (let s := { rk (fun r => { r with latch := true }) with boot := { up.boot with running := true, held := true, failCause := 0 } }
     s.rack.latch = true ∧ s.boot.running = true ∧ s.boot.held = true ∧ s.boot.failCause = 0) ∧
    (let s := { rk (fun r => { r with safeSince := some 1 }) with fab := { up.fab with inSystem := false, joinSent := false } }
     s.rack.safeSince = some 1 ∧ s.idleOut = true ∧ s.passed 0 (s.rackFld 4 2 * 1000000000) = false) ∧
    (let s := { rk (fun r => { r with safeSince := some 1 }) with time := 30000000001, fab := { up.fab with inSystem := false, joinSent := false } }
     s.idleOut = true ∧ s.passed 1 (s.rackFld 4 2 * 1000000000) = true) ∧
    (let s := rk (fun r => { r with flashAmber := true, flashAt := 18000000000 }); s.rack.flashAmber = true ∧ s.passed s.rack.flashAt 2000000000 = true) ∧
    (let s := rk (fun r => { r with flashBlue := true, flashAt := 19000000000 })
     s.rack.flashAmber = false ∧ s.rack.flashBlue = true ∧ s.passed s.rack.flashAt 1000000000 = true) := by decide +kernel

end Sys2Proof.Tests
end

section
/-! SUPPORT. Proofs of the cell-program statements: what a cell's fault, a flag counter's end and the retirement of a WAIT do to the
cells, then LOOP (R45), WAIT (R37, R38) and SIGNAL (R39) from them. -/

namespace Sys2Proof.Machine

/-! ### The dispatch of the commands -/

theorem exec_eq_execLoop (c : Cid) (s : State) : exec (.loop c) s = execLoop c s := rfl
theorem exec_eq_execWait (c : Cid) (s : State) : exec (.wait c) s = execWait c s := rfl
theorem exec_eq_execWaitSatisfied (c : Cid) (s : State) : exec (.waitSatisfied c) s = execWaitSatisfied c s := rfl
theorem exec_eq_execWaitTimeout (c : Cid) (s : State) : exec (.waitTimeout c) s = execWaitTimeout c s := rfl
theorem exec_eq_execSignal (c : Cid) (s : State) : exec (.signal c) s = execSignal c s := rfl
theorem exec_eq_execRemoteSignal (h : Hdr) (c : Cid) (k n : Nat) (s : State) :
    exec (.remoteSignal h c k n) s = execRemoteSignal h c k n s := rfl

/-! ### Issue and what leaves the cells alone -/

/-- A cell that may issue a control instruction is RUNNING, stands at its word, and the word is legal (R47). -/
theorem State.atControl_spec {s : State} {c w : Nat} {o : Op} (h : s.atControl c o = some w) :
    (s.cell c).st = 2 ∧ (s.cell c).word.toNat = w ∧ controlIll (s.cell c) o w = [] := by
  unfold State.atControl at h
  split at h
  next v hv =>
    split at h
    next hill =>
      obtain rfl : v = w := by simpa using h
      have hlegal : controlIll (s.cell c) o v = [] := by simp_all
      unfold State.atOp at hv
      split at hv
      next hi =>
        unfold State.issuing at hi
        extract_lets u at hv
        split at hv
        · exact ⟨by simp_all, by simpa using hv, hlegal⟩
        · cases hv
      · cases hv
    · cases h
  · cases h

/-- A state that agrees in its cells agrees in each of them. -/
theorem State.onlyIn.cell {s t : State} {l : List Area} (h : s.onlyIn t l) (k : .cells ∉ l) (d : Nat) : t.cell d = s.cell d := by
  unfold State.cell; rw [h.cells k]

/-- A latency goes to its partition's histograms alone (R513). -/
theorem State.latency_only (s : State) (p m f ns : Nat) : s.onlyIn (s.latency p m f ns) [.parts] := by
  refine State.onlyIn_foldl (fun u k => ?_) _ s
  extract_lets v b
  split
  · exact u.modPart_only p _
  · exact u.onlyIn_refl _

/-- A latency leaves every cell. -/
@[simp] theorem State.latency_cell (s : State) (p m f ns d : Nat) : (s.latency p m f ns).cell d = s.cell d :=
  (s.latency_only p m f ns).cell (by decide) d

theorem State.countEdge_cellOnly (s : State) (c ev : Nat) : s.cellOnly (s.countEdge c ev) c := by
  unfold State.countEdge
  split
  · exact s.count_cellOnly c ev 1 []
  · exact s.cellOnly_refl c

theorem State.countEdge_sameRun (s : State) (c ev : Nat) : (s.cell c).sameRun ((s.countEdge c ev).cell c) := by
  unfold State.countEdge
  split
  · exact s.count_sameRun c ev 1 []
  · exact Cell.sameRun_refl _

/-- The sequencer holds: its cell takes up the wait from now on, and but for that goes on as before (R65). -/
theorem State.hold_countEdge_spec (s : State) (c ev : Nat) (w : Wait) :
    s.cellOnly ((s.hold c w).countEdge c ev) c ∧
      ({ s.cell c with wait := { w with start := s.time } } : Cell).sameRun (((s.hold c w).countEdge c ev).cell c) := by
  have hrun := (s.hold c w).countEdge_sameRun c ev
  rw [State.hold, State.modCell_cell_self] at hrun
  exact ⟨(s.modCell_cellOnly c _).trans (State.countEdge_cellOnly _ c ev), hrun⟩

/-! ### Faults -/

/-- The cells after a fault are those after its record and its count: the completions, the event and the daybook's entry are elsewhere
(R60). -/
theorem State.faultAt_cell (s : State) (c code cause pc : Nat) (w : BitVec 128) (a u d : Nat) (h : (s.cell c).st ≠ 4) :
    (s.faultAt c code cause pc w a u).cell d =
      ((s.setCell c { s.cell c with
        st := 4
        fault := { code := code, cause := cause, pc := pc, time := s.time, word := w, daddr := a }
        wait := Wait.reset, draining := 0, startPend := false, hostStopBy := []
        flight := (s.cell c).flight.filter (fun f => f.unit != u || f.started) }).count c Ev.faults 1).cell d := by
  unfold State.faultAt
  extract_lets cl p s1 s2 s3 s4
  rw [if_neg (by simpa using h)]
  have hsettle : s2.onlyIn s3 [.funcs, .hostMem] := State.onlyIn_foldl (fun s t => s.settle_only _ t 0 0) _ _
  have hevent : s3.onlyIn s4 [.funcs, .hostMem] := State.event_only _ _ _ _ _ _ _
  have hlog := s4.logC_only c Db.cellFault (code + 256 * cause) [pc]
  rw [hlog.cell (by decide), hevent.cell (by decide), hsettle.cell (by decide)]

/-- A cell that was not FAULTED is, with the fault in its record and its flag counters as they were (R60). -/
theorem State.faultAt_spec (s : State) (c code cause pc : Nat) (w : BitVec 128) (a u : Nat) (h : (s.cell c).st ≠ 4) :
    ((s.faultAt c code cause pc w a u).cell c).st = 4 ∧
      ((s.faultAt c code cause pc w a u).cell c).fault =
        { code := code, cause := cause, pc := pc, time := s.time, word := w, daddr := a } ∧
      ((s.faultAt c code cause pc w a u).cell c).flags = (s.cell c).flags := by
  rw [s.faultAt_cell c code cause pc w a u c h, State.count_cell, State.setCell_cell_self]
  exact ⟨rfl, rfl, rfl⟩

/-- A fault of a cell that is FAULTED already changes nothing (R60). -/
theorem State.faultAt_faulted (s : State) (c code cause pc : Nat) (w : BitVec 128) (a u : Nat) (h : (s.cell c).st = 4) :
    s.faultAt c code cause pc w a u = s := by
  simp [State.faultAt, h]

/-- A fault of one cell leaves every other cell. -/
theorem State.faultAt_cell_ne (s : State) (c code cause pc : Nat) (w : BitVec 128) (a u : Nat) {d : Nat} (hd : d ≠ c) :
    (s.faultAt c code cause pc w a u).cell d = s.cell d := by
  by_cases h : (s.cell c).st = 4
  · rw [s.faultAt_faulted c code cause pc w a u h]
  · rw [s.faultAt_cell c code cause pc w a u d h, (State.count_cellOnly _ c _ _ _).2 d hd, State.setCell_cell, if_neg hd]

/-- A precise fault of a cell that was not FAULTED leaves its code and the program counter in the record (R58). -/
theorem State.precise_spec (s : State) (c code cause : Nat) (h : (s.cell c).st ≠ 4) :
    ((s.precise c code cause).cell c).st = 4 ∧ ((s.precise c code cause).cell c).fault.code = code ∧
      ((s.precise c code cause).cell c).fault.pc = (s.cell c).pc := by
  obtain ⟨hst, hfault, _⟩ := s.faultAt_spec c code cause (s.cell c).pc (s.cell c).word 0 8 h
  exact ⟨hst, by rw [State.precise, hfault], by rw [State.precise, hfault]⟩

/-- A precise fault leaves the flag counters of its cell, FAULTED before or not. -/
theorem State.precise_flags (s : State) (c code cause : Nat) : ((s.precise c code cause).cell c).flags = (s.cell c).flags := by
  unfold State.precise
  by_cases h : (s.cell c).st = 4
  · rw [s.faultAt_faulted c code cause _ _ 0 8 h]
  · exact (s.faultAt_spec c code cause _ _ 0 8 h).2.2

/-! ### Flag counters -/

/-- A count given to a flag counter below its end changes its cell alone (R35). -/
theorem State.addFlag_cellOnly (s : State) (c k n : Nat) (h : tget (s.cell c).flags k 0 + n < 2 ^ 32) :
    s.cellOnly (s.addFlag c k n) c := by
  unfold State.addFlag
  extract_lets v
  rw [if_pos (show v < 2 ^ 32 from h)]
  split
  · exact s.cellOnly_refl c
  · exact s.modCell_cellOnly c _

/-- A flag counter that would pass 2³² − 1 stays there, and its cell takes the flag-overflow fault unless it is FAULTED already
(R36). -/
theorem State.addFlag_overflow (s : State) (c k n : Nat) (hk : k ≠ 0) (h : 2 ^ 32 ≤ tget (s.cell c).flags k 0 + n) :
    tget ((s.addFlag c k n).cell c).flags k 0 = 2 ^ 32 - 1 ∧
      ((s.cell c).st ≠ 4 → ((s.addFlag c k n).cell c).st = 4 ∧ ((s.addFlag c k n).cell c).fault.code = Fc.flagOverflow) := by
  unfold State.addFlag
  extract_lets v
  rw [if_neg (by simpa using hk), if_neg (show ¬ v < 2 ^ 32 from Nat.not_lt.mpr h)]
  have hcell := s.modCell_cell_self c (fun cl => { cl with flags := tset cl.flags k (2 ^ 32 - 1) 0 })
  generalize s.modCell c (fun cl => { cl with flags := tset cl.flags k (2 ^ 32 - 1) 0 }) = u at hcell ⊢
  refine ⟨?_, fun hst => ?_⟩
  · rw [u.precise_flags, hcell]
    exact tget_tset_self (s.cell c).flags k (2 ^ 32 - 1) 0
  · obtain ⟨hst', hcode, _⟩ := u.precise_spec c Fc.flagOverflow 0 (by rwa [hcell])
    exact ⟨hst', hcode⟩

/-! ### LOOP (R45) -/

/-- A LOOP of count 0 retires and goes on as if its body's last word had run. -/
theorem execLoop_zero {c : Cid} {s : State} {w : Nat} (hw : s.atControl c .loop = some w) (hn : bits w 95 64 = 0) :
    execLoop c s = .next ((s.retire c 1).modCell c (fun x => { x with
      pc := (nextWord (bits w 63 52) (s.cell c).loops).1, loops := (nextWord (bits w 63 52) (s.cell c).loops).2 })) := by
  simp [execLoop, hw, hn]

/-- A LOOP that would open a ninth level is a precise fault. -/
theorem execLoop_ninth {c : Cid} {s : State} {w : Nat} (hw : s.atControl c .loop = some w) (hn : bits w 95 64 ≠ 0)
    (hdepth : 8 ≤ (s.cell c).loops.length) : execLoop c s = .next (s.precise c Fc.loopDepth 0) := by
  simp [execLoop, hw, hn, hdepth]

/-- Settles O8: count 0 retires and moves past the body, and a ninth level is a precise fault of the cell. -/
theorem loopCountAndDepth : Obligations.LoopCountAndDepth := by
  unfold Obligations.LoopCountAndDepth
  intro c s w hw
  obtain ⟨hrun, hword, _⟩ := State.atControl_spec hw
  refine ⟨fun hn hfit => ?_, fun hn hdepth => ?_⟩
  · obtain ⟨⟨honly, hbody, _⟩, _⟩ := s.retire_spec c 1 (hword ▸ hfit)
    refine ⟨_, (exec_eq_execLoop c s).trans (execLoop_zero hw hn), honly.trans (State.modCell_cellOnly _ c _), ?_⟩
    rw [State.modCell_cell_self, hbody]
    exact ⟨rfl, rfl, rfl⟩
  · obtain ⟨hst, hcode, hpc⟩ := s.precise_spec c Fc.loopDepth 0 (by omega)
    exact ⟨_, (exec_eq_execLoop c s).trans (execLoop_ninth hw hn hdepth), hst, hcode, hpc, s.precise_only c _ 0⟩

/-! ### WAIT (R37, R38) -/

/-- A WAIT that retires is over, has counted its COMP alone, and has left its status in the sequencer's. -/
theorem State.waitDone_spec (s : State) (c st : Nat) (timed : Bool) (h : s.compFits c (s.cell c).word.toNat) :
    s.cellOnly (s.waitDone c st timed) c ∧ ((s.waitDone c st timed).cell c).wait = Wait.reset ∧
      (∀ k, tget ((s.waitDone c st timed).cell c).flags k 0 =
        tget (s.cell c).flags k 0 + (if k = wordComp (s.cell c).word.toNat ∧ k ≠ 0 then 1 else 0)) ∧
      tget ((s.waitDone c st timed).cell c).unitStatus 0 15 = st ∧
      (timed = true → ((s.waitDone c st timed).cell c).timedOut = (st == 2)) := by
  unfold State.waitDone
  cases timed with
  | false =>
    obtain ⟨⟨honly, _, hwait, _, hflags⟩, _, _, hstatus⟩ := s.retire_spec c st h
    exact ⟨honly, hwait, hflags, by rw [if_neg (by decide), hstatus, tget_tset_self], nofun⟩
  | true =>
    rw [if_pos rfl]
    have hcell := s.modCell_cell_self c (fun cl => { cl with timedOut := st == 2 })
    have honly := s.modCell_cellOnly c (fun cl => { cl with timedOut := st == 2 })
    generalize s.modCell c (fun cl => { cl with timedOut := st == 2 }) = u at hcell honly ⊢
    have hword : (u.cell c).word = (s.cell c).word := by rw [hcell]; rfl
    have hfl : (u.cell c).flags = (s.cell c).flags := by rw [hcell]
    obtain ⟨⟨honly', hbody, hwait, _, hflags⟩, _, _, hstatus⟩ := u.retire_spec c st (by
      rw [hword]; unfold State.compFits; rw [hfl]; exact h)
    rw [hword, hfl] at hflags
    refine ⟨honly.trans honly', hwait, hflags, by rw [hstatus, tget_tset_self], fun _ => ?_⟩
    rw [hbody, hcell]

/-- A WAIT that takes its count retires with the count gone from its counter. -/
theorem State.waitTake_spec (s : State) (c k n : Nat) (timed : Bool) (h : s.compFits c (s.cell c).word.toNat) :
    s.cellOnly (s.waitTake c k n timed) c ∧ ((s.waitTake c k n timed).cell c).wait = Wait.reset ∧
      ∀ j, tget ((s.waitTake c k n timed).cell c).flags j 0 = tget (s.cell c).flags j 0 - (if j = k then n else 0) +
        (if j = wordComp (s.cell c).word.toNat ∧ j ≠ 0 then 1 else 0) := by
  unfold State.waitTake
  have hcell := s.modCell_cell_self c (fun cl => { cl with flags := tset cl.flags k (tget cl.flags k 0 - n) 0 })
  have honly := s.modCell_cellOnly c (fun cl => { cl with flags := tset cl.flags k (tget cl.flags k 0 - n) 0 })
  generalize s.modCell c (fun cl => { cl with flags := tset cl.flags k (tget cl.flags k 0 - n) 0 }) = u at hcell honly ⊢
  have hword : (u.cell c).word = (s.cell c).word := by rw [hcell]; rfl
  have hflags : ∀ j, tget (u.cell c).flags j 0 = tget (s.cell c).flags j 0 - (if j = k then n else 0) := by
    intro j
    rw [hcell]
    show tget (tset _ k _ 0) j 0 = _
    rw [tget_tset]
    split
    next hj => rw [hj]
    · rfl
  have hfit : u.compFits c (u.cell c).word.toNat := by
    unfold State.compFits at h ⊢
    rw [hword, hflags]
    omega
  obtain ⟨honly', hwait, hflags', _⟩ := u.waitDone_spec c 0 timed hfit
  exact ⟨honly.trans honly', hwait, fun j => by rw [hflags', hword, hflags]⟩

/-- WAIT for nothing retires with zero work. -/
theorem execWait_zero {c : Cid} {s : State} {w : Nat} (hw : s.atControl c .wait = some w) (hn : bits w 91 60 = 0) :
    execWait c s = .next (s.waitDone c 1 (bit (wordMod w) 0)) := by
  simp [execWait, hw, hn]

/-- WAIT for a count that is there takes it. -/
theorem execWait_there {c : Cid} {s : State} {w : Nat} (hw : s.atControl c .wait = some w) (hn : bits w 91 60 ≠ 0)
    (h : bits w 91 60 ≤ tget (s.cell c).flags (bits w 95 92) 0) :
    execWait c s = .next (s.waitTake c (bits w 95 92) (bits w 91 60) (bit (wordMod w) 0)) := by
  simp [execWait, hw, hn, h]

/-- WAIT for a count that is not there, and no poll, holds the sequencer. -/
theorem execWait_short {c : Cid} {s : State} {w : Nat} (hw : s.atControl c .wait = some w)
    (h : tget (s.cell c).flags (bits w 95 92) 0 < bits w 91 60) (hpoll : ¬ (bit (wordMod w) 0 = true ∧ bits w 59 44 = 0)) :
    execWait c s = .next ((s.hold c { Wait.reset with
      kind := 1, sel := bits w 95 92, count := bits w 91 60, timed := bit (wordMod w) 0, tmo := bits w 59 44 }).countEdge c Ev.seqWait) := by
  have hn : bits w 91 60 ≠ 0 := by omega
  have hle : ¬ bits w 91 60 ≤ tget (s.cell c).flags (bits w 95 92) 0 := by omega
  simp [execWait, hw, hn, hle, hpoll]

/-- A pending WAIT whose count has come takes it. -/
theorem execWaitSatisfied_there {c : Cid} {s : State} (hw : s.waits c 1 = true)
    (h : (s.cell c).wait.count ≤ tget (s.cell c).flags (s.cell c).wait.sel 0) :
    execWaitSatisfied c s = .next ((s.latency (s.owner c) 2 0 (s.time - (s.cell c).wait.start)).waitTake c
      (s.cell c).wait.sel (s.cell c).wait.count (s.cell c).wait.timed) := by
  simp [execWaitSatisfied, hw, h]

/-- A pending WAIT whose time has passed with its count short retires as timed out. -/
theorem execWaitTimeout_short {c : Cid} {s : State} (hw : s.waits c 1 = true) (ht : (s.cell c).wait.timed = true)
    (h : tget (s.cell c).flags (s.cell c).wait.sel 0 < (s.cell c).wait.count)
    (hp : s.passed (s.cell c).wait.start ((s.cell c).wait.tmo * 1000) = true) :
    execWaitTimeout c s = .next ((s.latency (s.owner c) 2 0 (s.time - (s.cell c).wait.start)).waitDone c 2 true) := by
  simp [execWaitTimeout, hw, ht, h, hp]

/-- WAIT for a count of 0 touches no flag counter but the one its COMP names. -/
theorem wait_zero_completes (c : Cid) (s : State) (w : Nat) (hw : s.atControl c .wait = some w) (hfit : s.compFits c w)
    (hn : bits w 91 60 = 0) : Completes (.wait c) s (fun t =>
      s.cellOnly t c ∧ ∀ k, k ≠ wordComp w → tget (t.cell c).flags k 0 = tget (s.cell c).flags k 0) := by
  obtain ⟨_, hword, _⟩ := State.atControl_spec hw
  obtain ⟨honly, _, hflags, _⟩ := s.waitDone_spec c 1 (bit (wordMod w) 0) (hword ▸ hfit)
  refine ⟨_, (exec_eq_execWait c s).trans (execWait_zero hw hn), honly, fun k hk => ?_⟩
  rw [hflags, hword]
  simp [hk]

/-- WAIT for a count that is there takes it and goes on. -/
theorem wait_there_completes (c : Cid) (s : State) (w : Nat) (hw : s.atControl c .wait = some w) (hfit : s.compFits c w)
    (hn : bits w 91 60 ≠ 0) (h : bits w 91 60 ≤ tget (s.cell c).flags (bits w 95 92) 0) :
    Completes (.wait c) s (fun t => s.cellOnly t c ∧ (t.cell c).wait.kind = 0 ∧
      ∀ k, tget (t.cell c).flags k 0 = tget (s.cell c).flags k 0 - (if k = bits w 95 92 then bits w 91 60 else 0) +
        (if k = wordComp w ∧ k ≠ 0 then 1 else 0)) := by
  obtain ⟨_, hword, _⟩ := State.atControl_spec hw
  obtain ⟨honly, hwait, hflags⟩ := s.waitTake_spec c (bits w 95 92) (bits w 91 60) (bit (wordMod w) 0) (hword ▸ hfit)
  rw [hword] at hflags
  exact ⟨_, (exec_eq_execWait c s).trans (execWait_there hw hn h), honly, by rw [hwait]; rfl, hflags⟩

/-- WAIT for a count that is not there, and no poll, stands at its word with its flag counters as they were. -/
theorem wait_short_completes (c : Cid) (s : State) (w : Nat) (hw : s.atControl c .wait = some w)
    (h : tget (s.cell c).flags (bits w 95 92) 0 < bits w 91 60) (hpoll : ¬ (bit (wordMod w) 0 = true ∧ bits w 59 44 = 0)) :
    Completes (.wait c) s (fun t => s.cellOnly t c ∧ (t.cell c).wait.kind = 1 ∧ (t.cell c).wait.sel = bits w 95 92 ∧
      (t.cell c).wait.count = bits w 91 60 ∧ (t.cell c).pc = (s.cell c).pc ∧ (t.cell c).flags = (s.cell c).flags) := by
  obtain ⟨honly, _, hpc, _, hwait, _, hflags, _⟩ := s.hold_countEdge_spec c Ev.seqWait { Wait.reset with
    kind := 1, sel := bits w 95 92, count := bits w 91 60, timed := bit (wordMod w) 0, tmo := bits w 59 44 }
  exact ⟨_, (exec_eq_execWait c s).trans (execWait_short hw h hpoll), honly, by rw [hwait], by rw [hwait], by rw [hwait],
    hpc, hflags⟩

/-- What a pending WAIT does once its count has come. -/
theorem waitSatisfied_completes (c : Cid) (s : State) (hw : s.waits c 1 = true) (hfit : s.compFits c (s.cell c).word.toNat)
    (h : (s.cell c).wait.count ≤ tget (s.cell c).flags (s.cell c).wait.sel 0) :
    Completes (.waitSatisfied c) s (fun t => s.onlyIn t [.cells, .parts] ∧ (t.cell c).wait.kind = 0 ∧
      ∀ k, tget (t.cell c).flags k 0 = tget (s.cell c).flags k 0 - (if k = (s.cell c).wait.sel then (s.cell c).wait.count else 0) +
        (if k = wordComp (s.cell c).word.toNat ∧ k ≠ 0 then 1 else 0)) := by
  have hlat := s.latency_only (s.owner c) 2 0 (s.time - (s.cell c).wait.start)
  obtain ⟨honly, hwait, hflags⟩ := State.waitTake_spec (s.latency (s.owner c) 2 0 (s.time - (s.cell c).wait.start)) c
    (s.cell c).wait.sel (s.cell c).wait.count (s.cell c).wait.timed (by simpa only [State.compFits, State.latency_cell] using hfit)
  simp only [State.latency_cell] at hflags
  exact ⟨_, (exec_eq_execWaitSatisfied c s).trans (execWaitSatisfied_there hw h),
    (hlat.mono (by decide)).trans (honly.1.mono (by decide)), by rw [hwait]; rfl, hflags⟩

/-- What a pending WAIT does once its time has passed. -/
theorem waitTimeout_completes (c : Cid) (s : State) (hw : s.waits c 1 = true) (hfit : s.compFits c (s.cell c).word.toNat)
    (ht : (s.cell c).wait.timed = true) (h : tget (s.cell c).flags (s.cell c).wait.sel 0 < (s.cell c).wait.count)
    (hp : s.passed (s.cell c).wait.start ((s.cell c).wait.tmo * 1000) = true) :
    Completes (.waitTimeout c) s (fun t => s.onlyIn t [.cells, .parts] ∧ (t.cell c).wait.kind = 0 ∧ (t.cell c).timedOut = true ∧
      tget (t.cell c).unitStatus 0 15 = 2) := by
  have hlat := s.latency_only (s.owner c) 2 0 (s.time - (s.cell c).wait.start)
  obtain ⟨honly, hwait, _, hstatus, htimed⟩ := State.waitDone_spec (s.latency (s.owner c) 2 0 (s.time - (s.cell c).wait.start)) c 2 true
    (by simpa only [State.compFits, State.latency_cell] using hfit)
  exact ⟨_, (exec_eq_execWaitTimeout c s).trans (execWaitTimeout_short hw ht h hp),
    (hlat.mono (by decide)).trans (honly.1.mono (by decide)), by rw [hwait]; rfl, htimed rfl, hstatus⟩

/-! ### SIGNAL (R36, R39) -/

/-- A legal SIGNAL names a flag counter, never F0 (R210). -/
theorem State.signal_flag_ne_zero {s : State} {c w : Nat} (h : s.atControl c .signal = some w) : bits w 95 92 ≠ 0 := by
  obtain ⟨_, _, hlegal⟩ := State.atControl_spec h
  intro h0
  simp [controlIll, signalIll, cz, h0] at hlegal

/-- A SIGNAL of this module whose counter has room gives its count to the target's counter and touches no other cell. -/
theorem State.deliver_spec (s : State) (c w : Nat) (hrem : bit (wordMod w) 1 = false) (hk : bits w 95 92 ≠ 0)
    (h : tget (s.cell (bits w 75 66)).flags (bits w 95 92) 0 + bits w 91 76 < 2 ^ 32) :
    s.cellOnly (s.deliver c w) (bits w 75 66) ∧ ∀ k, tget ((s.deliver c w).cell (bits w 75 66)).flags k 0 =
      tget (s.cell (bits w 75 66)).flags k 0 + (if k = bits w 95 92 then bits w 91 76 else 0) := by
  unfold State.deliver
  extract_lets n
  split
  next hn => exact ⟨s.cellOnly_refl _, fun k => by simp [show bits w 91 76 = 0 from hn]⟩
  · rw [if_neg (by simp [hrem])]
    refine ⟨s.addFlag_cellOnly _ _ _ h, fun k => ?_⟩
    rw [s.addFlag_flag _ _ n k hk h]
    split
    next hj => rw [hj]
    · rfl

/-- A SIGNAL without RELEASE to a cell of the own partition is delivered and retires. -/
theorem execSignal_deliver {c : Cid} {s : State} {w : Nat} (hw : s.atControl c .signal = some w) (hrem : bit (wordMod w) 1 = false)
    (hrel : bit (wordMod w) 0 = false) (hown : s.owner (bits w 75 66) = s.owner c) :
    execSignal c s = .next ((s.deliver c w).retire c (if bits w 91 76 = 0 then 1 else 0)) := by
  simp [execSignal, hw, hrem, hrel, hown]

/-- A SIGNAL to a cell of another partition is a precise fault. -/
theorem execSignal_foreign {c : Cid} {s : State} {w : Nat} (hw : s.atControl c .signal = some w) (hrem : bit (wordMod w) 1 = false)
    (hown : s.owner (bits w 75 66) ≠ s.owner c) : execSignal c s = .next (s.precise c Fc.signalTarget 0) := by
  simp [execSignal, hw, hrem, hown]

/-- A SIGNAL to another cell of the own partition gives its count to the counter it names, at once. -/
theorem signal_own_completes (c : Cid) (s : State) (w : Nat) (hw : s.atControl c .signal = some w) (hrem : bit (wordMod w) 1 = false)
    (hself : bits w 75 66 ≠ c) (hfit : s.compFits c w) (hrel : bit (wordMod w) 0 = false)
    (hown : s.owner (bits w 75 66) = s.owner c)
    (hroom : tget (s.cell (bits w 75 66)).flags (bits w 95 92) 0 + bits w 91 76 < 2 ^ 32) :
    Completes (.signal c) s (fun t => s.onlyIn t [.cells] ∧ ∀ k, tget (t.cell (bits w 75 66)).flags k 0 =
      tget (s.cell (bits w 75 66)).flags k 0 + (if k = bits w 95 92 then bits w 91 76 else 0)) := by
  obtain ⟨_, hword, _⟩ := State.atControl_spec hw
  obtain ⟨hgiven, hflags⟩ := s.deliver_spec c w hrem (State.signal_flag_ne_zero hw) hroom
  have hcell : (s.deliver c w).cell c = s.cell c := hgiven.2 c hself.symm
  obtain ⟨⟨honly, _⟩, _⟩ := (s.deliver c w).retire_spec c (if bits w 91 76 = 0 then 1 else 0) (by
    simpa only [State.compFits, hcell, hword] using hfit)
  refine ⟨_, (exec_eq_execSignal c s).trans (execSignal_deliver hw hrem hrel hown), hgiven.1.trans honly.1, fun k => ?_⟩
  rw [honly.2 _ hself, hflags]

/-- A SIGNAL to a cell of another partition is a precise fault of the sender and leaves the target as it was. -/
theorem signal_foreign_completes (c : Cid) (s : State) (w : Nat) (hw : s.atControl c .signal = some w)
    (hrem : bit (wordMod w) 1 = false) (hself : bits w 75 66 ≠ c) (hown : s.owner (bits w 75 66) ≠ s.owner c) :
    Completes (.signal c) s (fun t => (t.cell c).st = 4 ∧ (t.cell c).fault.code = Fc.signalTarget ∧
      t.cell (bits w 75 66) = s.cell (bits w 75 66)) := by
  obtain ⟨hrun, _, _⟩ := State.atControl_spec hw
  obtain ⟨hst, hcode, _⟩ := s.precise_spec c Fc.signalTarget 0 (by omega)
  exact ⟨_, (exec_eq_execSignal c s).trans (execSignal_foreign hw hrem hown), hst, hcode, s.faultAt_cell_ne c _ 0 _ _ 0 8 hself⟩

/-- A SIGNAL that comes over the fabric adds its count at its target cell (R39). -/
theorem execRemoteSignal_forUs {h : Hdr} {c : Cid} {k n : Nat} {s : State} (hus : s.forUs h) (hk : 1 ≤ k) (hk' : k ≤ 15)
    (hn : n < 65536) : execRemoteSignal h c k n s = .next (s.addFlag c k n) := by
  unfold execRemoteSignal
  rw [s.receive_next h _ hus.1 hus.2]
  simp [hk, hk', hn]

/-- Settles O9: WAIT, pending WAIT and SIGNAL by their cases, and the end of a counter from the operation every command adds
through. -/
theorem flagCountersAreTakenAndGiven : Obligations.FlagCountersAreTakenAndGiven := by
  unfold Obligations.FlagCountersAreTakenAndGiven
  intro c s
  refine ⟨wait_zero_completes c s, wait_there_completes c s, wait_short_completes c s, waitSatisfied_completes c s,
    waitTimeout_completes c s, fun w hw hrem hself => ⟨signal_own_completes c s w hw hrem hself,
      signal_foreign_completes c s w hw hrem hself⟩, s.addFlag_overflow c, ?_⟩
  intro h k n hus hk hk' hn hend hst
  obtain ⟨hstays, hfault⟩ := s.addFlag_overflow c k n (by omega) hend
  exact ⟨_, (exec_eq_execRemoteSignal h c k n s).trans (execRemoteSignal_forUs hus hk hk' hn), hstays, hfault hst⟩

end Sys2Proof.Machine
end

section
/-! SUPPORT. Proofs of the vector-stream statements: the order of the exact values and the smaller and the larger of two, then the
comparisons, the selection and the lanes of a vector operation (R189) from them. -/

namespace Sys2Proof.Machine

/-! ### The order of the values -/

theorem Fv.lt_num (v v' : Rat) (z z' : Bool) : (Fv.num v z).lt (.num v' z') = true ↔ v < v' := decide_eq_true_iff
theorem Fv.eqv_num (v v' : Rat) (z z' : Bool) : (Fv.num v z).eqv (.num v' z') = true ↔ v = v' := decide_eq_true_iff

@[simp] theorem Fv.nan_lt (b : Fv) : Fv.nan.lt b = false := rfl
@[simp] theorem Fv.lt_nan (a : Fv) : a.lt .nan = false := by cases a <;> rfl
@[simp] theorem Fv.nan_eqv (b : Fv) : Fv.nan.eqv b = false := rfl
@[simp] theorem Fv.eqv_nan (a : Fv) : a.eqv .nan = false := by cases a <;> rfl

/-- No two values are each less than the other. -/
theorem Fv.lt_asymm {a b : Fv} (h : a.lt b = true) : b.lt a = false := by
  cases a with
  | nan => cases h
  | inf x => cases b <;> simp_all [Fv.lt]
  | num v z =>
    cases b with
    | nan => cases h
    | inf y => simpa [Fv.lt] using h
    | num v' z' => exact decide_eq_false ((Fv.lt_num v v' z z').mp h).not_gt

/-- Only the two zeros equal zero. -/
theorem Fv.eqv_zero_iff (k : Fv) : k.eqv .zero = true ↔ ∃ z, k = .num 0 z := by
  cases k with
  | nan => simp
  | inf x => simp [Fv.eqv, Fv.zero]
  | num v z => simp [Fv.zero, Fv.eqv_num]

/-! ### The smaller and the larger -/

@[simp] theorem Fv.nan_min (b : Fv) : Fv.nan.min b = .nan := rfl
@[simp] theorem Fv.min_nan (a : Fv) : a.min .nan = .nan := by cases a <;> rfl
@[simp] theorem Fv.nan_max (b : Fv) : Fv.nan.max b = .nan := rfl
@[simp] theorem Fv.max_nan (a : Fv) : a.max .nan = .nan := by cases a <;> rfl

/-- The smaller of two numbers is found by their order, then by the sign of the first. -/
theorem Fv.min_of_ne_nan {a b : Fv} (ha : a ≠ .nan) (hb : b ≠ .nan) :
    a.min b = if a.lt b then a else if b.lt a then b else if a.neg then a else b := by
  rw [Fv.min] <;> assumption

/-- The larger of two numbers is found by their order, then by the sign of the first. -/
theorem Fv.max_of_ne_nan {a b : Fv} (ha : a ≠ .nan) (hb : b ≠ .nan) :
    a.max b = if a.lt b then b else if b.lt a then a else if a.neg then b else a := by
  rw [Fv.max] <;> assumption

theorem Fv.min_max_of_lt {a b : Fv} (ha : a ≠ .nan) (hb : b ≠ .nan) (h : a.lt b = true) : a.min b = a ∧ a.max b = b := by
  simp [Fv.min_of_ne_nan, Fv.max_of_ne_nan, ha, hb, h]

theorem Fv.min_max_of_gt {a b : Fv} (ha : a ≠ .nan) (hb : b ≠ .nan) (h : b.lt a = true) : a.min b = b ∧ a.max b = a := by
  simp [Fv.min_of_ne_nan, Fv.max_of_ne_nan, ha, hb, h, Fv.lt_asymm h]

/-- A zero is negative by its sign alone. -/
@[simp] theorem Fv.neg_num_zero (z : Bool) : (Fv.num 0 z).neg = z := by simp [Fv.neg]

/-- Two zeros are ordered by their signs, −0 below +0. -/
theorem Fv.min_max_zeros (z z' : Bool) :
    (Fv.num 0 z).min (.num 0 z') = .num 0 (z || z') ∧ (Fv.num 0 z).max (.num 0 z') = .num 0 (z && z') := by
  have hnan (x : Bool) : Fv.num 0 x ≠ .nan := nofun
  have hlt (x y : Bool) : (Fv.num 0 x).lt (.num 0 y) = false := by simp [Fv.lt]
  rw [Fv.min_of_ne_nan (hnan z) (hnan z'), Fv.max_of_ne_nan (hnan z) (hnan z')]
  cases z <;> simp [hlt]

/-! ### The comparisons -/

/-- With NaN on either side only NE and UNORD hold. -/
theorem vcmpHolds_nan {a b : Fv} (h : a = .nan ∨ b = .nan) {sub : Nat} (hsub : sub ≤ 7) :
    vcmpHolds sub a b = decide (sub = 3 ∨ sub = 7) := by
  rcases h with rfl | rfl <;> interval_cases sub <;> simp [vcmpHolds]

/-- Without NaN the eight comparisons are read off the order, ORD holds and UNORD does not. -/
theorem vcmpHolds_of_ne_nan {a b : Fv} (ha : a ≠ .nan) (hb : b ≠ .nan) {sub : Nat} (hsub : sub ≤ 7) :
    vcmpHolds sub a b = [a.lt b, a.lt b || a.eqv b, a.eqv b, !a.eqv b, b.lt a || a.eqv b, b.lt a, true, false].getD sub false := by
  interval_cases sub <;> simp [vcmpHolds, ha, hb]

/-! ### The lanes -/

theorem vecLane_vadd (sub : Nat) (a b k : Fv) : vecLane .vadd sub a b k = (a.add b).r32 := rfl
theorem vecLane_vmul_plain (a b k : Fv) : vecLane .vmul 0 a b k = (a.mul b).r32 := rfl
theorem vecLane_vfma (sub : Nat) (a b k : Fv) : vecLane .vfma sub a b k = (a.fma b k).r32 := rfl
theorem vecLane_vcmp (sub : Nat) (a b k : Fv) :
    vecLane .vcmp sub a b k = if vcmpHolds sub a b then .num 1 false else .zero := rfl
theorem vecLane_vsel (sub : Nat) (a b k : Fv) : vecLane .vsel sub a b k = if k.eqv .zero then b else a := rfl
theorem vecLane_vmin (sub : Nat) (a b k : Fv) : vecLane .vmin sub a b k = a.min b := rfl
theorem vecLane_vmax (sub : Nat) (a b k : Fv) : vecLane .vmax sub a b k = a.max b := rfl

theorem vecLane_vcmp_nan {a b : Fv} (h : a = .nan ∨ b = .nan) (k : Fv) {sub : Nat} (hsub : sub ≤ 7) :
    vecLane .vcmp sub a b k = if sub = 3 ∨ sub = 7 then .num 1 false else .zero := by
  simp only [vecLane_vcmp, vcmpHolds_nan h hsub, decide_eq_true_eq]

theorem vecLane_vsel_zero {k : Fv} (h : ∃ z, k = .num 0 z) (sub : Nat) (a b : Fv) : vecLane .vsel sub a b k = b :=
  if_pos (k.eqv_zero_iff.mpr h)

/-- What is not a zero selects a, NaN among it. -/
theorem vecLane_vsel_nonzero {k : Fv} (h : ∀ z, k ≠ .num 0 z) (sub : Nat) (a b : Fv) : vecLane .vsel sub a b k = a :=
  if_neg fun hz => (k.eqv_zero_iff.mp hz).elim h

/-- Each result of a row is its lane's, of the elements that stand at its position in the rows of the sources. -/
theorem State.vecRows_lane {s : State} {c w r n : Nat} {i : Iss} {x y z : Fv} (o : Op) (hr : r < i.a.outer)
    (hx : (s.rowOf c i.a r)[n]? = some x) (hy : (s.rowOf c i.b r)[n]? = some y) (hz : (s.rowOf c i.c r)[n]? = some z) :
    ((s.vecRows c o w i).getD r []).getD n .nan = vecLane o (bits w 15 12) x y z := by
  have hsources : (List.zip (s.rowOf c i.a r) (List.zip (s.rowOf c i.b r) (s.rowOf c i.c r)))[n]? = some (x, y, z) :=
    List.getElem?_zip_eq_some.mpr ⟨hx, List.getElem?_zip_eq_some.mpr ⟨hy, hz⟩⟩
  simp [State.vecRows, List.getD_eq_getElem?_getD, hr, hsources]

/-- Settles O15: the rows lane by lane, then each operation's lane by the order of the values it is given. -/
theorem vectorLaneResults : Obligations.VectorLaneResults := by
  unfold Obligations.VectorLaneResults
  refine ⟨fun _ _ _ _ _ o _ _ _ _ => State.vecRows_lane o, fun a b k => ?_, fun z z' _ => Fv.min_max_zeros z z',
    fun v v' z z' => ⟨Fv.lt_num v v' z z', Fv.eqv_num v v' z z', rfl, rfl, rfl⟩⟩
  refine ⟨vecLane_vadd 0 a b k, vecLane_vmul_plain a b k, vecLane_vfma 0 a b k, fun _ hsub h => vecLane_vcmp_nan h k hsub,
    fun ha hb sub hsub => ?ordered, fun h => vecLane_vsel_zero h 0 a b, fun h => vecLane_vsel_nonzero h 0 a b, ?nan, ?less,
    ?greater⟩
  case ordered => rw [vecLane_vcmp, vcmpHolds_of_ne_nan ha hb hsub]
  all_goals rw [vecLane_vmin, vecLane_vmax]
  case nan => rintro (rfl | rfl) <;> simp
  case less => exact Fv.min_max_of_lt
  case greater => exact Fv.min_max_of_gt

end Sys2Proof.Machine
end

section
/-! SUPPORT. Proofs of the groom's statement: what the supervisor's expiry (R470), an endpoint ID (R471) and a long press (R492) do by
their cases. -/

namespace Sys2Proof.Machine

/-! ### The dispatch of the commands -/

theorem exec_eq_execSupervisorExpiry (s : State) : exec .supervisorExpiry s = execSupervisorExpiry s := rfl
theorem exec_eq_execSetEndpointId (b : Fin 3) (eid : Nat) (s : State) :
    exec (.setEndpointId b eid) s = execSetEndpointId b eid s := rfl
theorem exec_eq_execLongPress (s : State) : exec .longPress s = execLongPress s := rfl

/-! ### The parts a frame leaves, and entries of the rack -/

/-- A state is known in the daybook where only other parts have changed. -/
theorem State.onlyIn.day {s t : State} {l : List Area} (h : s.onlyIn t l) (k : .day ∉ l) : t.day = s.day := h _ k

theorem State.onlyIn.rack {s t : State} {l : List Area} (h : s.onlyIn t l) (k : .rack ∉ l) : t.rack = s.rack := h _ k

theorem State.logRack_only (s : State) (kind : Nat) : s.onlyIn (s.logRack kind) [.day, .daySeq] := s.log_only _ _ _ _

@[simp] theorem State.logRack_rack (s : State) (kind : Nat) : (s.logRack kind).rack = s.rack := rfl

/-- What an entry puts in the daybook does not depend on the rack's inputs. -/
@[simp] theorem State.modRack_logRack_day (s : State) (f : Rack → Rack) (kind : Nat) :
    ((s.modRack f).logRack kind).day = (s.logRack kind).day := rfl

/-! ### The supervisor (R384, R470) -/

/-- A supervisor that expires is logged and asks for a power cycle, the auxiliary rail up and stage 0x02 reached. -/
theorem execSupervisorExpiry_running {s : State} (haux : s.pow.aux = true) (hstage : 2 ≤ s.boot.stage) :
    execSupervisorExpiry s = .next ((s.log 0 Db.supervisor 0).askPowerCycle 2) := by
  simp [execSupervisorExpiry, haux, hstage]

/-- The supervisor's request for a power cycle is logged and drives the pin, and sends no platform event. -/
theorem State.askPowerCycle_supervisor (s : State) :
    s.askPowerCycle 2 = (s.log 0 Db.powerCycleRequest 2).modGroom (fun g => { g with pwrReq := true }) := rfl

/-- What the supervisor's expiry does. -/
theorem supervisorExpiry_completes (s : State) (haux : s.pow.aux = true) (hstage : 2 ≤ s.boot.stage) :
    Completes .supervisorExpiry s (fun t => s.onlyIn t [.groom, .day, .daySeq] ∧ t.groom.pwrReq = true ∧
      t.groom.events = s.groom.events ∧ t.day = ((s.log 0 Db.supervisor 0).log 0 Db.powerCycleRequest 2).day) := by
  have hlogged := (s.log_only 0 Db.supervisor 0 []).trans (State.log_only _ 0 Db.powerCycleRequest 2 [])
  have hpin := ((s.log 0 Db.supervisor 0).log 0 Db.powerCycleRequest 2).modGroom_only (fun g => { g with pwrReq := true })
  refine ⟨_, (exec_eq_execSupervisorExpiry s).trans (execSupervisorExpiry_running haux hstage), ?_⟩
  rw [State.askPowerCycle_supervisor]
  exact ⟨(hlogged.mono (by decide)).trans (hpin.mono (by decide)), rfl, rfl, rfl⟩

/-! ### Endpoint IDs (R471) -/

/-- No binding has an endpoint ID at reset. -/
theorem State.reset_eid (b : Nat) : tget State.reset.groom.eid b 0 = 0 := rfl

/-- A binding that answers takes its endpoint ID and responds with it. -/
theorem execSetEndpointId_answers {b : Fin 3} {s : State} (eid : Nat) (h : s.answers b 2 = true) :
    execSetEndpointId b eid s =
      .next ((s.modGroom (fun g => { g with eid := tset g.eid b (eid % 256) 0 })).respond b 0 [eid % 256]) := by
  simp [execSetEndpointId, h]

/-- A response goes to the groom's responses alone, and leaves its endpoint IDs. -/
theorem State.respond_only (s : State) (b proto : Nat) (l : List Nat) : s.onlyIn (s.respond b proto l) [.groom] := s.modGroom_only _
@[simp] theorem State.respond_eid (s : State) (b proto : Nat) (l : List Nat) : (s.respond b proto l).groom.eid = s.groom.eid := rfl

/-- What the assignment of an endpoint ID does. -/
theorem setEndpointId_completes (b : Fin 3) (s : State) (eid : Nat) (h : s.answers b 2 = true) :
    Completes (.setEndpointId b eid) s (fun t => s.onlyIn t [.groom] ∧ tget t.groom.eid b 0 = eid % 256 ∧
      ∀ k : Fin 3, k ≠ b → tget t.groom.eid k 0 = tget s.groom.eid k 0) := by
  have hassigned := s.modGroom_only (fun g => { g with eid := tset g.eid b (eid % 256) 0 })
  refine ⟨_, (exec_eq_execSetEndpointId b eid s).trans (execSetEndpointId_answers eid h),
    hassigned.trans (State.respond_only _ b 0 _), ?_, fun k hk => ?_⟩
  · rw [State.respond_eid, State.modGroom_groom]
    exact tget_tset_self _ _ _ _
  · rw [State.respond_eid, State.modGroom_groom]
    exact tget_tset_ne _ _ _ (Fin.val_ne_of_ne hk)

/-! ### The long press (R488, R492) -/

/-- The state once a press has become a long one. -/
abbrev State.longSeen (s : State) : State := s.modRack (fun r => { r with longDone := true })

/-- The rack once a long press has cancelled the withdrawal: the module has left WITHDRAW_PENDING and the blue LED flashes. -/
abbrev State.withdrawCancelled (s : State) : State :=
  s.longSeen.modRack (fun r => { r with withdraw := 0, flashBlue := true, flashAmber := false, flashAt := s.time })

/-- A long press before LEAVE_REQ cancels the withdrawal, is logged and counted. -/
theorem execLongPress_cancels {s : State} (hpressed : s.rack.pressed = true) (hdone : s.rack.longDone = false)
    (hlong : s.passed s.rack.pressAt 5000000000 = true) (hw : s.rack.withdraw = 1) :
    execLongPress s = .next ((s.withdrawCancelled.logRack 2).gcount GEv.rackCancel 1) := by
  simp [execLongPress, hpressed, hdone, hlong, hw]

/-- A long press at any other time is refused. -/
theorem execLongPress_refused {s : State} (hpressed : s.rack.pressed = true) (hdone : s.rack.longDone = false)
    (hlong : s.passed s.rack.pressAt 5000000000 = true) (hw : s.rack.withdraw ≠ 1) :
    execLongPress s = .next s.longSeen.refusePress := by
  simp [execLongPress, hpressed, hdone, hlong, hw]

/-- A refused press is logged and flashes the LED, and changes nothing else. -/
theorem State.refusePress_only (s : State) : s.onlyIn s.refusePress [.rack, .day, .daySeq] :=
  ((s.logRack_only 3).mono (by decide)).trans ((State.modRack_only _ _).mono (by decide))
@[simp] theorem State.refusePress_day (s : State) : s.refusePress.day = (s.logRack 3).day := rfl
@[simp] theorem State.refusePress_rack (s : State) :
    s.refusePress.rack = { s.rack with flashAmber := true, flashBlue := false, flashAt := s.time } := rfl

/-- What a long press does to a withdrawal that has not asked to leave. -/
theorem longPress_cancel_completes (s : State) (hpressed : s.rack.pressed = true) (hdone : s.rack.longDone = false)
    (hlong : s.passed s.rack.pressAt 5000000000 = true) (hw : s.rack.withdraw = 1) :
    Completes .longPress s (fun t => s.onlyIn t [.rack, .day, .daySeq, .gctr] ∧ t.rack.withdraw = 0 ∧ t.rack.flashBlue = true ∧
      t.day = (s.logRack 2).day) := by
  have hrack : s.onlyIn s.withdrawCancelled [.rack] := (s.modRack_only _).trans (s.longSeen.modRack_only _)
  have hlogged := s.withdrawCancelled.logRack_only 2
  have hcount := (s.withdrawCancelled.logRack 2).gcount_only GEv.rackCancel 1 []
  refine ⟨_, (exec_eq_execLongPress s).trans (execLongPress_cancels hpressed hdone hlong hw),
    (hrack.mono (by decide)).trans ((hlogged.mono (by decide)).trans (hcount.mono (by decide))), ?_⟩
  simp [hcount.rack (by decide), hcount.day (by decide)]

/-- What a long press does at any other time. -/
theorem longPress_refused_completes (s : State) (hpressed : s.rack.pressed = true) (hdone : s.rack.longDone = false)
    (hlong : s.passed s.rack.pressAt 5000000000 = true) (hw : s.rack.withdraw ≠ 1) :
    Completes .longPress s (fun t => s.onlyIn t [.rack, .day, .daySeq] ∧ t.day = (s.logRack 3).day ∧
      t.rack = { s.rack with longDone := true, flashAmber := true, flashBlue := false, flashAt := s.time }) :=
  ⟨_, (exec_eq_execLongPress s).trans (execLongPress_refused hpressed hdone hlong hw),
    ((s.modRack_only _).mono (by decide)).trans s.longSeen.refusePress_only, by simp, by simp⟩

/-- Settles O60: the expiry, the endpoint IDs at reset and at their assignment, and the two outcomes of a long press. -/
theorem supervisorEndpointsAndLongPress : Obligations.SupervisorEndpointsAndLongPress := by
  unfold Obligations.SupervisorEndpointsAndLongPress
  intro b s
  exact ⟨supervisorExpiry_completes s, State.reset_eid b, setEndpointId_completes b s, fun hpressed hdone hlong =>
    ⟨longPress_cancel_completes s hpressed hdone hlong, longPress_refused_completes s hpressed hdone hlong⟩⟩

end Sys2Proof.Machine
end

section
/-! SUPPORT. Laws/Frames: a frame passes over every operation whose parts it has room for; one rule an operation. -/

namespace Sys2Proof.Machine

/-! ### The rule's shape -/

/-- A frame that has room for a change sees no difference between before and after it. -/
theorem State.onlyIn_iff {s t u : State} {L l : List Area} (hL : L ⊆ l) (h : t.onlyIn u L) : s.onlyIn u l ↔ s.onlyIn t l := by
  have hl : t.onlyIn u l := h.mono (fun _ ha => hL ha)
  refine ⟨fun hu a ha => ?_, fun ht => ht.trans hl⟩
  have h1 := hu a ha
  have h2 := hl a ha
  cases a <;> exact h2.symm.trans h1

@[simp] theorem State.onlyIn_self (s : State) (l : List Area) : s.onlyIn s l ↔ True := iff_true_intro (s.onlyIn_refl l)

@[simp] theorem State.onlyIn_ite {s a b : State} {p : Prop} [Decidable p] {l : List Area} :
    s.onlyIn (if p then a else b) l ↔ if p then s.onlyIn a l else s.onlyIn b l := by
  split <;> rfl

/-- A fold of changes that a frame has room for. -/
@[simp] theorem State.onlyIn_foldl_iff {α : Type} {s t : State} {l : List Area} {f : State → α → State} {xs : List α}
    (hf : ∀ (u : State) x, s.onlyIn (f u x) l ↔ s.onlyIn u l) : s.onlyIn (xs.foldl f t) l ↔ s.onlyIn t l := by
  induction xs generalizing t with
  | nil => rfl
  | cons x r ih => exact (ih (t := f t x)).trans (hf t x)

/-! ### Outcomes -/

/-- An outcome that is a state differs from s at most in the parts of l. -/
def State.outIn (s : State) (l : List Area) : Out → Prop
  | .next t => s.onlyIn t l
  | .fault _ => True
  | .refused _ => True

@[simp] theorem State.outIn_next (s t : State) (l : List Area) : s.outIn l (.next t) ↔ s.onlyIn t l := Iff.rfl
@[simp] theorem State.outIn_fault (s : State) (l : List Area) (r : Fault) : s.outIn l (.fault r) ↔ True := Iff.rfl
@[simp] theorem State.outIn_ite {s : State} {a b : Out} {p : Prop} [Decidable p] {l : List Area} :
    s.outIn l (if p then a else b) ↔ if p then s.outIn l a else s.outIn l b := by
  split <;> rfl

/-- Every part of the state but the queue of commands and module memory. -/
abbrev quiet : List Area :=
  [.time, .cells, .phys, .repair, .parts, .funcs, .recs, .store, .badMem, .hostMem, .fab, .dies, .pow, .boot, .hif, .groom, .day, .daySeq,
    .rack, .gctr]

/-- Every part of the state but the queue of commands. -/
abbrev allBut : List Area := .mem :: quiet

/-! ### One field replaced -/

theorem State.onlyIn_recs {s t : State} {l : List Area} {v : Tbl RecImg} (h : [.recs] ⊆ l) :
    s.onlyIn { t with recs := v } l ↔ s.onlyIn t l :=
  State.onlyIn_iff h (by intro a ha; cases a <;> first | rfl | exact absurd (by decide) ha)
theorem State.onlyIn_store {s t : State} {l : List Area} {v : Tbl Slot} (h : [.store] ⊆ l) :
    s.onlyIn { t with store := v } l ↔ s.onlyIn t l :=
  State.onlyIn_iff h (by intro a ha; cases a <;> first | rfl | exact absurd (by decide) ha)
theorem State.onlyIn_repair {s t : State} {l : List Area} {v : Tbl Nat} (h : [.repair] ⊆ l) :
    s.onlyIn { t with repair := v } l ↔ s.onlyIn t l :=
  State.onlyIn_iff h (by intro a ha; cases a <;> first | rfl | exact absurd (by decide) ha)
theorem State.onlyIn_funcs {s t : State} {l : List Area} {v : Tbl Func} (h : [.funcs] ⊆ l) :
    s.onlyIn { t with funcs := v } l ↔ s.onlyIn t l :=
  State.onlyIn_iff h (by intro a ha; cases a <;> first | rfl | exact absurd (by decide) ha)
theorem State.onlyIn_badMem {s t : State} {l : List Area} {v : List Nat} (h : [.badMem] ⊆ l) :
    s.onlyIn { t with badMem := v } l ↔ s.onlyIn t l :=
  State.onlyIn_iff h (by intro a ha; cases a <;> first | rfl | exact absurd (by decide) ha)
theorem State.onlyIn_time {s t : State} {l : List Area} {v : Nat} (h : [.time] ⊆ l) :
    s.onlyIn { t with time := v } l ↔ s.onlyIn t l :=
  State.onlyIn_iff h (by intro a ha; cases a <;> first | rfl | exact absurd (by decide) ha)
theorem State.onlyIn_cells {s t : State} {l : List Area} {v : Tbl Cell} (h : [.cells] ⊆ l) :
    s.onlyIn { t with cells := v } l ↔ s.onlyIn t l :=
  State.onlyIn_iff h (by intro a ha; cases a <;> first | rfl | exact absurd (by decide) ha)
theorem State.onlyIn_mem {s t : State} {l : List Area} {v : List Host.Cell} (h : [.mem] ⊆ l) :
    s.onlyIn { t with mem := v } l ↔ s.onlyIn t l :=
  State.onlyIn_iff h (by intro a ha; cases a <;> first | rfl | exact absurd (by decide) ha)
theorem State.onlyIn_pow {s t : State} {l : List Area} {v : Pow} (h : [.pow] ⊆ l) :
    s.onlyIn { t with pow := v } l ↔ s.onlyIn t l :=
  State.onlyIn_iff h (by intro a ha; cases a <;> first | rfl | exact absurd (by decide) ha)

/-! ### The operations, in the model's order -/

section
variable {s t : State} {l : List Area}


/-! #### Ops -/

@[simp] theorem State.onlyIn_setCell {c : Nat} {v : Cell} (h : [.cells] ⊆ l) : s.onlyIn (t.setCell c v) l ↔ s.onlyIn t l :=
  State.onlyIn_iff h (t.setCell_only _ _)
@[simp] theorem State.onlyIn_modCell {c : Nat} {f : Cell → Cell} (h : [.cells] ⊆ l) : s.onlyIn (t.modCell c f) l ↔ s.onlyIn t l :=
  State.onlyIn_iff h (t.modCell_only _ _)
@[simp] theorem State.onlyIn_modPhy {r : Nat} {f : Phys → Phys} (h : [.phys] ⊆ l) : s.onlyIn (t.modPhy r f) l ↔ s.onlyIn t l :=
  State.onlyIn_iff h (t.modPhy_only _ _)
@[simp] theorem State.onlyIn_modXbar {r x : Nat} {f : Xbar → Xbar} (h : [.phys] ⊆ l) : s.onlyIn (t.modXbar r x f) l ↔ s.onlyIn t l :=
  State.onlyIn_iff h (t.modXbar_only _ _ _)
@[simp] theorem State.onlyIn_modPart {p : Nat} {f : Part → Part} (h : [.parts] ⊆ l) : s.onlyIn (t.modPart p f) l ↔ s.onlyIn t l :=
  State.onlyIn_iff h (t.modPart_only _ _)
@[simp] theorem State.onlyIn_modFunc {p : Nat} {f : Func → Func} (h : [.funcs] ⊆ l) : s.onlyIn (t.modFunc p f) l ↔ s.onlyIn t l :=
  State.onlyIn_iff h (t.modFunc_only _ _)
@[simp] theorem State.onlyIn_modQueue {p q : Nat} {f : Queue → Queue} (h : [.funcs] ⊆ l) : s.onlyIn (t.modQueue p q f) l ↔ s.onlyIn t l :=
  State.onlyIn_iff h (t.modQueue_only _ _ _)
@[simp] theorem State.onlyIn_modDie {d : Nat} {f : Die → Die} (h : [.dies] ⊆ l) : s.onlyIn (t.modDie d f) l ↔ s.onlyIn t l :=
  State.onlyIn_iff h (t.modDie_only _ _)
@[simp] theorem State.onlyIn_modFab {f : Fab → Fab} (h : [.fab] ⊆ l) : s.onlyIn (t.modFab f) l ↔ s.onlyIn t l :=
  State.onlyIn_iff h (t.modFab_only _)
@[simp] theorem State.onlyIn_modPort {p : Nat} {f : Port → Port} (h : [.fab] ⊆ l) : s.onlyIn (t.modPort p f) l ↔ s.onlyIn t l :=
  State.onlyIn_iff h (t.modPort_only _ _)
@[simp] theorem State.onlyIn_modGrp {g : Nat} {f : Group → Group} (h : [.fab] ⊆ l) : s.onlyIn (t.modGrp g f) l ↔ s.onlyIn t l :=
  State.onlyIn_iff h (t.modGrp_only _ _)
@[simp] theorem State.onlyIn_modPow {f : Pow → Pow} (h : [.pow] ⊆ l) : s.onlyIn (t.modPow f) l ↔ s.onlyIn t l :=
  State.onlyIn_iff h (t.modPow_only _)
@[simp] theorem State.onlyIn_modBoot {f : Boot → Boot} (h : [.boot] ⊆ l) : s.onlyIn (t.modBoot f) l ↔ s.onlyIn t l :=
  State.onlyIn_iff h (t.modBoot_only _)
@[simp] theorem State.onlyIn_modHif {f : HostIf → HostIf} (h : [.hif] ⊆ l) : s.onlyIn (t.modHif f) l ↔ s.onlyIn t l :=
  State.onlyIn_iff h (t.modHif_only _)
@[simp] theorem State.onlyIn_modGroom {f : Groom → Groom} (h : [.groom] ⊆ l) : s.onlyIn (t.modGroom f) l ↔ s.onlyIn t l :=
  State.onlyIn_iff h (t.modGroom_only _)
@[simp] theorem State.onlyIn_modRack {f : Rack → Rack} (h : [.rack] ⊆ l) : s.onlyIn (t.modRack f) l ↔ s.onlyIn t l :=
  State.onlyIn_iff h (t.modRack_only _)
@[simp] theorem State.onlyIn_watch (h : [.rack] ⊆ l) : s.onlyIn t.watch l ↔ s.onlyIn t l :=
  State.onlyIn_iff h (by simp [State.watch])
@[simp] theorem State.onlyIn_count1 (h : [.fab, .time] ⊆ l) : s.onlyIn t.count1 l ↔ s.onlyIn t l :=
  State.onlyIn_iff h <| by
    unfold State.count1
    repeat' split
    all_goals (intro a ha; cases a <;> first | exact absurd (by decide) ha | rfl)
@[simp] theorem State.onlyIn_tick (h : [.fab, .rack, .time] ⊆ l) : s.onlyIn t.tick l ↔ s.onlyIn t l :=
  State.onlyIn_iff h (by simp [State.tick])
@[simp] theorem State.onlyIn_eachN {s t : State} {l : List Area} {f : State → Nat → State} {xs : List Nat}
    (hf : ∀ (u : State) n, s.onlyIn (f u n) l ↔ s.onlyIn u l) : s.onlyIn (eachN t xs f) l ↔ s.onlyIn t l := State.onlyIn_foldl_iff hf
@[simp] theorem State.onlyIn_setFld {p ty inst off n v : Nat} (h : [.recs] ⊆ l) : s.onlyIn (t.setFld p ty inst off n v) l ↔ s.onlyIn t l :=
  State.onlyIn_iff h (t.setFld_only _ _ _ _ _ _)
@[simp] theorem State.onlyIn_wrMem {a : Nat} {xs : List Byte} (h : [.mem] ⊆ l) : s.onlyIn (t.wrMem a xs) l ↔ s.onlyIn t l :=
  State.onlyIn_iff h (t.wrMem_only _ _)
@[simp] theorem State.onlyIn_wrHost {a : Nat} {xs : List Byte} (h : [.hostMem] ⊆ l) : s.onlyIn (t.wrHost a xs) l ↔ s.onlyIn t l :=
  State.onlyIn_iff h (t.wrHost_only _ _)
@[simp] theorem State.onlyIn_wrDev {a : Nat} {xs : List Byte} (h : [.cells, .mem] ⊆ l) : s.onlyIn (t.wrDev a xs) l ↔ s.onlyIn t l :=
  State.onlyIn_iff h <| by
    unfold State.wrDev
    split <;> simp
@[simp] theorem State.onlyIn_wrOp {c : Nat} {dev : Bool} {a : Nat} {xs : List Byte} (h : [.cells, .mem] ⊆ l) :
    s.onlyIn (t.wrOp c dev a xs) l ↔ s.onlyIn t l :=
  State.onlyIn_iff h (by simp [State.wrOp])
@[simp] theorem State.onlyIn_count {c ev n : Nat} {attrs : List (Nat × Nat)} (h : [.cells] ⊆ l) :
    s.onlyIn (t.count c ev n attrs) l ↔ s.onlyIn t l :=
  State.onlyIn_iff h (t.count_only _ _ _ _)
@[simp] theorem State.onlyIn_pcount {p i n : Nat} (h : [.gctr] ⊆ l) : s.onlyIn (t.pcount p i n) l ↔ s.onlyIn t l :=
  State.onlyIn_iff h (t.pcount_only _ _ _)
@[simp] theorem State.onlyIn_gcount {i n : Nat} {attrs : List (Nat × Nat)} (h : [.gctr] ⊆ l) :
    s.onlyIn (t.gcount i n attrs) l ↔ s.onlyIn t l :=
  State.onlyIn_iff h (t.gcount_only _ _ _)
@[simp] theorem State.onlyIn_countEdge {c ev : Nat} (h : [.cells] ⊆ l) : s.onlyIn (t.countEdge c ev) l ↔ s.onlyIn t l :=
  State.onlyIn_iff h (t.countEdge_only _ _)
@[simp] theorem State.onlyIn_logE {e : DayEntry} (h : [.day, .daySeq] ⊆ l) : s.onlyIn (t.logE e) l ↔ s.onlyIn t l :=
  State.onlyIn_iff h (t.logE_only _)
@[simp] theorem State.onlyIn_log {src code arg0 : Nat} {args : List Nat} (h : [.day, .daySeq] ⊆ l) :
    s.onlyIn (t.log src code arg0 args) l ↔ s.onlyIn t l :=
  State.onlyIn_iff h (t.log_only _ _ _ _)
@[simp] theorem State.onlyIn_logP {src p code arg0 : Nat} {args : List Nat} (h : [.day, .daySeq] ⊆ l) :
    s.onlyIn (t.logP src p code arg0 args) l ↔ s.onlyIn t l :=
  State.onlyIn_iff h (t.logP_only _ _ _ _ _)
@[simp] theorem State.onlyIn_logC {c code arg0 : Nat} {args : List Nat} (h : [.day, .daySeq] ⊆ l) :
    s.onlyIn (t.logC c code arg0 args) l ↔ s.onlyIn t l :=
  State.onlyIn_iff h (t.logC_only _ _ _ _)
@[simp] theorem State.onlyIn_logR {r code arg0 : Nat} {args : List Nat} (h : [.day, .daySeq] ⊆ l) :
    s.onlyIn (t.logR r code arg0 args) l ↔ s.onlyIn t l :=
  State.onlyIn_iff h (t.logR_only _ _ _ _)
@[simp] theorem State.onlyIn_fire {p v : Nat} (h : [.funcs] ⊆ l) : s.onlyIn (t.fire p v) l ↔ s.onlyIn t l :=
  State.onlyIn_iff h (t.fire_only _ _)
@[simp] theorem State.onlyIn_placeCqe {p q : Nat} {e : Cqe} (h : [.funcs, .hostMem] ⊆ l) : s.onlyIn (t.placeCqe p q e) l ↔ s.onlyIn t l :=
  State.onlyIn_iff h (t.placeCqe_only _ _ _)
@[simp] theorem State.onlyIn_postCqe {p q : Nat} {e : Cqe} (h : [.funcs, .hostMem] ⊆ l) : s.onlyIn (t.postCqe p q e) l ↔ s.onlyIn t l :=
  State.onlyIn_iff h (t.postCqe_only _ _ _)
@[simp] theorem State.onlyIn_drainCqe {p q fuel : Nat} (h : [.funcs, .hostMem] ⊆ l) : s.onlyIn (t.drainCqe p q fuel) l ↔ s.onlyIn t l :=
  State.onlyIn_iff h (State.drainCqe_only fuel t p q)
@[simp] theorem State.onlyIn_event {p kind cause info0 info1 : Nat} {part : Bool} (h : [.funcs, .hostMem] ⊆ l) :
    s.onlyIn (t.event p kind cause info0 info1 part) l ↔ s.onlyIn t l :=
  State.onlyIn_iff h (t.event_only _ _ _ _ _ _)
@[simp] theorem State.onlyIn_complete {p q cid status cause info0 info1 : Nat} {irq : Bool} (h : [.funcs, .hostMem] ⊆ l) :
    s.onlyIn (t.complete p q cid status cause info0 info1 irq) l ↔ s.onlyIn t l :=
  State.onlyIn_iff h (t.complete_only _ _ _ _ _ _ _ _)
@[simp] theorem State.onlyIn_settle {p tok status cause : Nat} (h : [.funcs, .hostMem] ⊆ l) :
    s.onlyIn (t.settle p tok status cause) l ↔ s.onlyIn t l :=
  State.onlyIn_iff h (t.settle_only _ _ _ _)
@[simp] theorem State.onlyIn_faultAt {c code cause pc : Nat} {w : BitVec 128} {daddr unit : Nat} (h : [.cells, .funcs, .hostMem, .day,
    .daySeq] ⊆ l) :
    s.onlyIn (t.faultAt c code cause pc w daddr unit) l ↔ s.onlyIn t l :=
  State.onlyIn_iff h (t.faultAt_only _ _ _ _ _ _ _)
@[simp] theorem State.onlyIn_precise {c code cause : Nat} (h : [.cells, .funcs, .hostMem, .day, .daySeq] ⊆ l) :
    s.onlyIn (t.precise c code cause) l ↔ s.onlyIn t l :=
  State.onlyIn_iff h (t.precise_only _ _ _)
@[simp] theorem State.onlyIn_addFlag {c k n : Nat} (h : [.cells, .funcs, .hostMem, .day, .daySeq] ⊆ l) :
    s.onlyIn (t.addFlag c k n) l ↔ s.onlyIn t l :=
  State.onlyIn_iff h (t.addFlag_only _ _ _)
@[simp] theorem State.onlyIn_send {ty dst : Nat} {fields : List Nat} (h : [.fab] ⊆ l) : s.onlyIn (t.send ty dst fields) l ↔ s.onlyIn t l :=
  State.onlyIn_iff h (t.send_only _ _ _)
@[simp] theorem State.outIn_receive {t : State} {h : Hdr} {f : State → State} {l : List Area} (hl : [.gctr] ⊆ l) :
    t.outIn l (t.receive h f) ↔ (h.rsv = 0 → (h.dst = t.fab.nodeId ∨ h.dst = 0xFFFF) → t.onlyIn (f t) l) := by
  unfold State.receive
  by_cases h0 : h.rsv = 0
  · by_cases h1 : h.dst = t.fab.nodeId
    · simp [h0, h1]
    · by_cases h2 : h.dst = 0xFFFF
      · simp [h0, h2]
      · simp [h0, h1, h2, hl]
  · simp [h0, hl]
@[simp] theorem State.onlyIn_platform {id arg : Nat} (h : [.groom] ⊆ l) : s.onlyIn (t.platform id arg) l ↔ s.onlyIn t l :=
  State.onlyIn_iff h (t.platform_only _ _)
@[simp] theorem State.onlyIn_moduleFault {cause unit : Nat} (h : [.boot, .groom, .day, .daySeq] ⊆ l) :
    s.onlyIn (t.moduleFault cause unit) l ↔ s.onlyIn t l :=
  State.onlyIn_iff h (t.moduleFault_only _ _)

/-! #### Operands -/

@[simp] theorem State.onlyIn_advanceStreams {p lo hi : Nat} (h : [.recs] ⊆ l) : s.onlyIn (t.advanceStreams p lo hi) l ↔ s.onlyIn t l :=
  State.onlyIn_iff h (by simp [State.advanceStreams])
@[simp] theorem State.onlyIn_wrElem {c : Nat} {d : Desc} {r i w : Nat} (h : [.cells, .mem] ⊆ l) :
    s.onlyIn (t.wrElem c d r i w) l ↔ s.onlyIn t l :=
  State.onlyIn_iff h (by simp [State.wrElem])
@[simp] theorem State.onlyIn_wrWideAt {c : Nat} {d : Desc} {ps : List (Nat × Nat)} {vs : List Fv} (h : [.cells, .mem] ⊆ l) :
    s.onlyIn (t.wrWideAt c d ps vs) l ↔ s.onlyIn t l :=
  State.onlyIn_iff h <| by
    induction ps generalizing t vs with
    | nil => simp [State.wrWideAt]
    | cons p ps ih =>
      cases vs with
      | nil => simp [State.wrWideAt]
      | cons v vs => exact (State.onlyIn_wrElem (by simp)).2 (t.onlyIn_refl _) |>.trans ih
@[simp] theorem State.onlyIn_wrWide {c : Nat} {d : Desc} {vs : List Fv} (h : [.cells, .mem] ⊆ l) :
    s.onlyIn (t.wrWide c d vs) l ↔ s.onlyIn t l :=
  State.onlyIn_iff h (by simp [State.wrWide])
@[simp] theorem State.onlyIn_tagCount {c tag kind n : Nat} (h : [.cells, .parts] ⊆ l) :
    s.onlyIn (t.tagCount c tag kind n) l ↔ s.onlyIn t l :=
  State.onlyIn_iff h <| by
    unfold State.tagCount
    dsimp only
    split <;> simp
@[simp] theorem State.onlyIn_wrBlock {c : Nat} {d : Desc} {line b : Nat} {blk : Nat × List Nat × Nat} (h : [.cells, .mem] ⊆ l) :
    s.onlyIn (t.wrBlock c d line b blk) l ↔ s.onlyIn t l :=
  State.onlyIn_iff h (by simp [State.wrBlock])
@[simp] theorem State.onlyIn_wrNarrowRow {c : Nat} {d : Desc} {tag : Nat} {share : Bool} {r : Nat} {vs : List Fv} {ds : List (Option Nat)}
    (h : [.cells, .parts, .mem] ⊆ l) :
    s.onlyIn (t.wrNarrowRow c d tag share r vs ds) l ↔ s.onlyIn t l :=
  State.onlyIn_iff h (by simp [State.wrNarrowRow])
@[simp] theorem State.onlyIn_tallyCommit {c e : Nat} {x : Fv} {stream mb ix : Nat} (h : [.cells] ⊆ l) :
    s.onlyIn (t.tallyCommit c e x stream mb ix) l ↔ s.onlyIn t l :=
  State.onlyIn_iff h (by simp [State.tallyCommit])

/-! #### Fallback -/

@[simp] theorem State.onlyIn_modLayer {p xs : Nat} {f : LayerSt → LayerSt} (h : [.parts] ⊆ l) :
    s.onlyIn (t.modLayer p xs f) l ↔ s.onlyIn t l :=
  State.onlyIn_iff h (by simp [State.modLayer])
theorem State.placeLayer_only {s t : State} {p l v : Nat} (h : s.placeLayer p l v = some t) : s.onlyIn t [.parts, .recs] := by
  unfold State.placeLayer at h
  extract_lets n used put at h
  have hput : ∀ o, s.onlyIn (put o) [.parts, .recs] := fun o => by simp [put]
  split at h
  · cases h; exact hput 0
  · obtain ⟨o, _, rfl⟩ := Option.map_eq_some_iff.1 h
    exact hput o
theorem State.raiseAll_only {s t : State} {p : Nat} {ls : List Nat} (h : s.raiseAll p ls = some t) : s.onlyIn t [.parts, .recs] := by
  suffices ∀ (ls : List Nat) (u : Option State), (∀ v, u = some v → s.onlyIn v [.parts, .recs]) →
      ∀ v, ls.foldl (fun t l => t.bind (fun s =>
        if s.fld p Ty.layerPrecision l 0 1 < s.fld p Ty.layerPrecision l 2 1 then
          s.placeLayer p l (s.fld p Ty.layerPrecision l 0 1 + 1) else some s)) u = some v → s.onlyIn v [.parts, .recs] from
    this ls (some s) (fun v hv => by cases hv; exact s.onlyIn_refl _) t h
  intro ls
  induction ls with
  | nil => exact fun u hu v hv => hu v hv
  | cons x r ih =>
    intro u hu v hv
    refine ih _ (fun w hw => ?_) v hv
    obtain ⟨z, rfl, hz⟩ := Option.bind_eq_some_iff.1 hw
    have hz0 := hu z rfl
    split at hz
    · exact hz0.trans (State.placeLayer_only hz)
    · cases hz; exact hz0
@[simp] theorem State.onlyIn_raiseLayer {p xs : Nat} (h : [.parts, .funcs, .recs, .hostMem, .day, .daySeq, .gctr] ⊆ l) :
    s.onlyIn (t.raiseLayer p xs) l ↔ s.onlyIn t l :=
  State.onlyIn_iff h <| by
    unfold State.raiseLayer
    extract_lets v
    split
    · simp
    · split
      next u hu => simp [(State.placeLayer_only hu).mono]
      · simp
@[simp] theorem State.onlyIn_quietLayer {p xs : Nat} (h : [.parts, .recs, .gctr] ⊆ l) : s.onlyIn (t.quietLayer p xs) l ↔ s.onlyIn t l :=
  State.onlyIn_iff h <| by
    unfold State.quietLayer
    extract_lets r v u y n
    have hu : t.onlyIn u [.parts, .recs, .gctr] := by simp [u]
    clear_value u
    split
    · exact hu
    · split
      · split
        next w hw => simp [hu.trans ((State.placeLayer_only hw).mono (by decide))]
        · exact hu
      · simp [hu]
@[simp] theorem State.onlyIn_judge {p : Nat} (h : [.parts, .funcs, .recs, .hostMem, .day, .daySeq, .gctr] ⊆ l) :
    s.onlyIn (t.judge p) l ↔ s.onlyIn t l :=
  State.onlyIn_iff h <| by
    unfold State.judge
    extract_lets ls trig free global s1 s2 s3 s4 s5 s6
    have h2 : t.onlyIn s2 [.parts, .funcs, .recs, .hostMem, .day, .daySeq, .gctr] := by simp [s2, s1]
    have h3 : s2.onlyIn s3 [.parts, .funcs, .recs, .hostMem, .day, .daySeq, .gctr] := by simp [s3]
    have h4 : t.onlyIn s4 [.parts, .funcs, .recs, .hostMem, .day, .daySeq, .gctr] := by
      unfold s4
      split
      · split
        · split
          · exact h2.trans h3
          · simp [h2.trans h3]
        next u hu => simp [(h2.trans h3).trans ((State.raiseAll_only hu).mono (by decide))]
      · simp [h2]
    simp [s6, s5, h4]
@[simp] theorem State.onlyIn_layerResid {p tag : Nat} {sigma : Rat} {rs : List (Nat × Option Rat)} {div : Nat → Nat} (h : [.parts] ⊆ l) :
    s.onlyIn (t.layerResid p tag sigma rs div) l ↔ s.onlyIn t l :=
  State.onlyIn_iff h (by simp [State.layerResid])

/-! #### Isa -/

@[simp] theorem State.onlyIn_sampleTag {c : Nat} (h : [.cells] ⊆ l) : s.onlyIn (t.sampleTag c).1 l ↔ s.onlyIn t l :=
  State.onlyIn_iff h <| by
    exact (t.sampleTag_cellOnly c).1
@[simp] theorem State.onlyIn_latency {p measure filt ns : Nat} (h : [.parts] ⊆ l) :
    s.onlyIn (t.latency p measure filt ns) l ↔ s.onlyIn t l :=
  State.onlyIn_iff h (t.latency_only _ _ _ _)
@[simp] theorem State.onlyIn_retired {c u status comp : Nat} (h : [.cells, .funcs, .hostMem, .day, .daySeq] ⊆ l) :
    s.onlyIn (t.retired c u status comp) l ↔ s.onlyIn t l :=
  State.onlyIn_iff h (by simp [State.retired])
@[simp] theorem State.onlyIn_retire {c status : Nat} (h : [.cells, .funcs, .hostMem, .day, .daySeq] ⊆ l) :
    s.onlyIn (t.retire c status) l ↔ s.onlyIn t l :=
  State.onlyIn_iff h (by simp [State.retire])
@[simp] theorem State.onlyIn_hold {c : Nat} {w : Wait} (h : [.cells] ⊆ l) : s.onlyIn (t.hold c w) l ↔ s.onlyIn t l :=
  State.onlyIn_iff h (by simp [State.hold])
@[simp] theorem State.onlyIn_enter {c w : Nat} {i : Iss} (h : [.cells] ⊆ l) : s.onlyIn (t.enter c w i) l ↔ s.onlyIn t l :=
  State.onlyIn_iff h (by simp [State.enter])
@[simp] theorem State.onlyIn_issueUnit {s t : State} {l : List Area} {c w : Nat} {i : Iss} {ready : Bool} {f : State → State}
    (h : [.cells, .funcs, .hostMem, .day, .daySeq] ⊆ l) (hf : ∀ u, s.onlyIn (f u) l ↔ s.onlyIn u l) :
    s.onlyIn (t.issueUnit c w i ready f) l ↔ s.onlyIn t l := by
  simp only [List.cons_subset, List.nil_subset, and_true] at h
  obtain ⟨h1, h2, h3, h4, h5⟩ := h
  unfold State.issueUnit
  extract_lets u cl
  (repeat' split) <;> simp [*]

/-! #### Control -/

@[simp] theorem State.onlyIn_deliver {c w : Nat} (h : [.cells, .funcs, .hostMem, .fab, .day, .daySeq] ⊆ l) :
    s.onlyIn (t.deliver c w) l ↔ s.onlyIn t l :=
  State.onlyIn_iff h (by simp [State.deliver])
@[simp] theorem State.onlyIn_release {c : Nat} (h : [.cells, .parts, .funcs, .hostMem, .day, .daySeq] ⊆ l) :
    s.onlyIn (t.release c) l ↔ s.onlyIn t l :=
  State.onlyIn_iff h (by simp [State.release])
@[simp] theorem State.onlyIn_releaseGroup {g : Nat} (h : [.cells, .parts, .funcs, .hostMem, .day, .daySeq] ⊆ l) :
    s.onlyIn (t.releaseGroup g) l ↔ s.onlyIn t l :=
  State.onlyIn_iff h (by simp [State.releaseGroup])
@[simp] theorem State.onlyIn_tryBarrier {g : Nat} (h : [.cells, .parts, .funcs, .hostMem, .fab, .day, .daySeq] ⊆ l) :
    s.onlyIn (t.tryBarrier g) l ↔ s.onlyIn t l :=
  State.onlyIn_iff h <| by
    unfold State.tryBarrier
    dsimp only
    split <;> simp
@[simp] theorem State.onlyIn_arriveAt {g r : Nat} (h : [.cells, .parts, .funcs, .hostMem, .fab, .day, .daySeq] ⊆ l) :
    s.onlyIn (t.arriveAt g r) l ↔ s.onlyIn t l :=
  State.onlyIn_iff h (by simp [State.arriveAt])
@[simp] theorem State.onlyIn_arrive {c : Nat} (h : [.cells, .parts, .funcs, .hostMem, .fab, .day, .daySeq] ⊆ l) :
    s.onlyIn (t.arrive c) l ↔ s.onlyIn t l :=
  State.onlyIn_iff h <| by
    unfold State.arrive
    extract_lets cl u
    have hu : t.onlyIn u [.cells, .parts, .funcs, .hostMem, .fab, .day, .daySeq] := by simp [u]
    (repeat' split) <;> simp [hu]
@[simp] theorem State.onlyIn_settleCell {c : Nat} (h : [.cells, .parts, .funcs, .hostMem, .fab, .day, .daySeq] ⊆ l) :
    s.onlyIn (t.settleCell c) l ↔ s.onlyIn t l :=
  State.onlyIn_iff h (by simp [State.settleCell])
theorem State.outIn_execNop (c : Cid) (t : State) : t.outIn quiet (execNop c t) := by
  unfold execNop
  split <;> simp
theorem State.outIn_execStop (c : Cid) (t : State) : t.outIn quiet (execStop c t) := by
  unfold execStop
  split <;> simp
theorem State.outIn_execBr (c : Cid) (t : State) : t.outIn quiet (execBr c t) := by
  unfold execBr
  split <;> simp
theorem State.outIn_execLoop (c : Cid) (t : State) : t.outIn quiet (execLoop c t) := by
  unfold execLoop
  split <;> simp
@[simp] theorem State.onlyIn_waitDone {c status : Nat} {timed : Bool} (h : [.cells, .funcs, .hostMem, .day, .daySeq] ⊆ l) :
    s.onlyIn (t.waitDone c status timed) l ↔ s.onlyIn t l :=
  State.onlyIn_iff h (by simp [State.waitDone])
@[simp] theorem State.onlyIn_waitTake {c k n : Nat} {timed : Bool} (h : [.cells, .funcs, .hostMem, .day, .daySeq] ⊆ l) :
    s.onlyIn (t.waitTake c k n timed) l ↔ s.onlyIn t l :=
  State.onlyIn_iff h (by simp [State.waitTake])
theorem State.outIn_execWait (c : Cid) (t : State) : t.outIn quiet (execWait c t) := by
  unfold execWait
  split <;> simp
theorem State.outIn_execWaitSatisfied (c : Cid) (t : State) : t.outIn quiet (execWaitSatisfied c t) := by
  simp [execWaitSatisfied]
theorem State.outIn_execWaitTimeout (c : Cid) (t : State) : t.outIn quiet (execWaitTimeout c t) := by
  simp [execWaitTimeout]
theorem State.outIn_execSignal (c : Cid) (t : State) : t.outIn quiet (execSignal c t) := by
  unfold execSignal
  split <;> simp
theorem State.outIn_execFence (c : Cid) (t : State) : t.outIn quiet (execFence c t) := by
  unfold execFence
  split <;> simp
theorem State.outIn_execBarrier (c : Cid) (t : State) : t.outIn quiet (execBarrier c t) := by
  unfold execBarrier
  split <;> simp
@[simp] theorem State.onlyIn_popFlight {c u : Nat} (h : [.cells, .parts, .funcs, .hostMem, .day, .daySeq] ⊆ l) :
    s.onlyIn (t.popFlight c u) l ↔ s.onlyIn t l :=
  State.onlyIn_iff h <| by
    unfold State.popFlight
    split <;> simp

/-! #### Matrix -/

@[simp] theorem State.onlyIn_noiseMove {c mb n : Nat} (h : [.cells] ⊆ l) : s.onlyIn (t.noiseMove c mb n) l ↔ s.onlyIn t l :=
  State.onlyIn_iff h (by simp [State.noiseMove])
@[simp] theorem State.onlyIn_matCount {c w : Nat} {i : Iss} {o : MatOp} {k : Nat} (h : [.cells] ⊆ l) :
    s.onlyIn (t.matCount c w i o k) l ↔ s.onlyIn t l :=
  State.onlyIn_iff h (by simp [State.matCount])
@[simp] theorem State.onlyIn_matRow {c w : Nat} {i : Iss} {o : MatOp} {m : Nat} {vs : List Fv} (h : [.cells, .parts, .mem] ⊆ l) :
    s.onlyIn (t.matRow c w i o m vs) l ↔ s.onlyIn t l :=
  State.onlyIn_iff h (by simp [State.matRow])
@[simp] theorem State.onlyIn_matEffect {c w : Nat} {i : Iss} {o : MatOp} {k : Nat} (h : [.cells, .parts, .mem] ⊆ l) :
    s.onlyIn (t.matEffect c w i o k) l ↔ s.onlyIn t l :=
  State.onlyIn_iff h (by simp [State.matEffect])
theorem State.outIn_execDmm (c : Cid) (t : State) : t.outIn allBut (execDmm c t) := by
  unfold execDmm
  split <;> simp
theorem State.outIn_execDconv (c : Cid) (t : State) : t.outIn allBut (execDconv c t) := by
  unfold execDconv
  split <;> simp

/-! #### Domain -/

@[simp] theorem State.onlyIn_setLeader {p : Nat} (h : [.parts] ⊆ l) : s.onlyIn (t.setLeader p) l ↔ s.onlyIn t l :=
  State.onlyIn_iff h (by simp [State.setLeader])
@[simp] theorem State.onlyIn_failRestore {p cause : Nat} (h : [.parts, .day, .daySeq] ⊆ l) :
    s.onlyIn (t.failRestore p cause) l ↔ s.onlyIn t l :=
  State.onlyIn_iff h (by simp [State.failRestore])
@[simp] theorem State.onlyIn_resumeDomain {p step : Nat} (h : [.parts] ⊆ l) : s.onlyIn (t.resumeDomain p step) l ↔ s.onlyIn t l :=
  State.onlyIn_iff h (by simp [State.resumeDomain])
@[simp] theorem State.onlyIn_memberReady {p node : Nat} {ok : Bool} {cause : Nat} (h : [.parts, .fab, .day, .daySeq] ⊆ l) :
    s.onlyIn (t.memberReady p node ok cause) l ↔ s.onlyIn t l :=
  State.onlyIn_iff h (by simp [State.memberReady])
@[simp] theorem State.onlyIn_tellReady {p : Nat} {ok : Bool} {cause : Nat} (h : [.parts, .fab, .day, .daySeq] ⊆ l) :
    s.onlyIn (t.tellReady p ok cause) l ↔ s.onlyIn t l :=
  State.onlyIn_iff h (by simp [State.tellReady])
@[simp] theorem State.onlyIn_tryReady {p : Nat} (h : [.parts, .fab, .day, .daySeq] ⊆ l) : s.onlyIn (t.tryReady p) l ↔ s.onlyIn t l :=
  State.onlyIn_iff h (by simp [State.tryReady])

/-! #### Movement -/

@[simp] theorem State.onlyIn_landElems {c : Nat} {d : Desc} {off : Nat} {es ss : List Nat} (h : [.cells, .mem] ⊆ l) :
    s.onlyIn (t.landElems c d off es ss) l ↔ s.onlyIn t l :=
  State.onlyIn_iff h (by simp [State.landElems])
@[simp] theorem State.onlyIn_copyStream {c : Nat} {a d : Desc} (h : [.cells, .mem] ⊆ l) : s.onlyIn (t.copyStream c a d) l ↔ s.onlyIn t l :=
  State.onlyIn_iff h (by simp [State.copyStream])
@[simp] theorem State.onlyIn_postShard {p : Nat} {xs : List Byte} (h : [.parts, .gctr] ⊆ l) :
    s.onlyIn (t.postShard p xs) l ↔ s.onlyIn t l :=
  State.onlyIn_iff h <| by
    unfold State.postShard
    dsimp only
    split <;> simp
theorem State.outIn_execLds (c : Cid) (t : State) : t.outIn allBut (execLds c t) := by
  unfold execLds
  split <;> simp
theorem State.outIn_execSts (c : Cid) (t : State) : t.outIn allBut (execSts c t) := by
  unfold execSts
  split <;> simp
theorem State.outIn_execCopy (c : Cid) (t : State) : t.outIn allBut (execCopy c t) := by
  unfold execCopy
  split <;> simp
theorem State.outIn_execGather (c : Cid) (t : State) : t.outIn allBut (execGather c t) := by
  unfold execGather
  split
  · refine (State.onlyIn_issueUnit (by simp) fun u => ?_).2 (t.onlyIn_refl _)
    dsimp only
    refine State.onlyIn_foldl_iff fun v x => ?_
    (repeat' split) <;> simp
  · simp
@[simp] theorem State.onlyIn_scatterRow {c : Nat} {y : Desc} {p : ParamBlk} {mb k : Nat} {g : List Fv} (h : [.cells, .mem] ⊆ l) :
    s.onlyIn (t.scatterRow c y p mb k g) l ↔ s.onlyIn t l :=
  State.onlyIn_iff h (by simp [State.scatterRow])
theorem State.outIn_execScatter (c : Cid) (t : State) : t.outIn allBut (execScatter c t) := by
  unfold execScatter
  split
  · refine (State.onlyIn_issueUnit (by simp) fun u => ?_).2 (t.onlyIn_refl _)
    dsimp only
    refine State.onlyIn_foldl_iff fun v x => ?_
    (repeat' split) <;> simp
  · simp
theorem State.outIn_execSend (c : Cid) (t : State) : t.outIn quiet (execSend c t) := by
  unfold execSend
  split <;> simp
theorem State.outIn_execRecv (c : Cid) (t : State) : t.outIn quiet (execRecv c t) := by
  unfold execRecv
  split <;> simp
@[simp] theorem State.onlyIn_msgEnd {c : Nat} {m : Msg} {bad : Bool} (h : [.cells, .funcs, .hostMem, .day, .daySeq] ⊆ l) :
    s.onlyIn (t.msgEnd c m bad) l ↔ s.onlyIn t l :=
  State.onlyIn_iff h (by simp [State.msgEnd])
theorem State.outIn_execMessageLands (c : Cid) (i : Nat) (t : State) : t.outIn allBut (execMessageLands c i t) := by
  unfold execMessageLands
  repeat' split <;> simp

/-! #### Service -/

@[simp] theorem State.onlyIn_stopCell {c : Nat} {toks : List Nat} (h : [.cells, .parts, .funcs, .hostMem, .fab, .day, .daySeq] ⊆ l) :
    s.onlyIn (t.stopCell c toks) l ↔ s.onlyIn t l :=
  State.onlyIn_iff h (by simp [State.stopCell])
@[simp] theorem State.onlyIn_replayState {p daddr : Nat} (h : [.cells, .parts, .funcs, .hostMem, .gctr] ⊆ l) :
    s.onlyIn (t.replayState p daddr) l ↔ s.onlyIn t l :=
  State.onlyIn_iff h (by simp [State.replayState])
@[simp] theorem State.onlyIn_replayStep {p daddr : Nat} (h : [.cells, .parts, .funcs, .hostMem, .fab, .gctr] ⊆ l) :
    s.onlyIn (t.replayStep p daddr) l ↔ s.onlyIn t l :=
  State.onlyIn_iff h (by simp [State.replayStep])
@[simp] theorem State.onlyIn_reportChange {reason arg : Nat} (h : [.fab] ⊆ l) : s.onlyIn (t.reportChange reason arg) l ↔ s.onlyIn t l :=
  State.onlyIn_iff h (by simp [State.reportChange])
@[simp] theorem State.onlyIn_syncRepair {r : Nat} (h : [.recs] ⊆ l) : s.onlyIn (t.syncRepair r) l ↔ s.onlyIn t l :=
  State.onlyIn_iff h (by simp [State.syncRepair])
@[simp] theorem State.onlyIn_askWrite {ty inst : Nat} (h : [.groom] ⊆ l) : s.onlyIn (t.askWrite ty inst) l ↔ s.onlyIn t l :=
  State.onlyIn_iff h (by simp [State.askWrite])
@[simp] theorem State.onlyIn_capacityLoss {c : Nat} (h : [.cells, .recs, .fab, .groom, .day, .daySeq] ⊆ l) :
    s.onlyIn (t.capacityLoss c) l ↔ s.onlyIn t l :=
  State.onlyIn_iff h (by simp [State.capacityLoss])
@[simp] theorem State.onlyIn_substitute {c : Nat} {dark : Bool} (h : [.cells, .phys, .recs, .fab, .groom, .day, .daySeq] ⊆ l) :
    s.onlyIn (t.substitute c dark) l ↔ s.onlyIn t l :=
  State.onlyIn_iff h <| by
    unfold State.substitute
    split <;> simp
@[simp] theorem State.onlyIn_spareMove {c : Nat} (h : [.cells, .phys, .repair, .recs, .groom, .day, .daySeq] ⊆ l) :
    s.onlyIn (t.spareMove c) l ↔ s.onlyIn t l :=
  State.onlyIn_iff h <| by
    unfold State.spareMove
    extract_lets cl old new s1 s2 s3 _ s4
    split
    · simp
    · have h : t.onlyIn s3 [.cells, .phys, .repair, .recs, .groom, .day, .daySeq] :=
        (State.onlyIn_repair (by decide)).2 (by simp [s2, s1])
      simp [s4, h]
@[simp] theorem State.onlyIn_moveAlone {c : Nat} (h : [.cells, .phys, .repair, .funcs, .recs, .hostMem, .groom, .day, .daySeq] ⊆ l) :
    s.onlyIn (t.moveAlone c) l ↔ s.onlyIn t l :=
  State.onlyIn_iff h (by simp [State.moveAlone])
@[simp] theorem State.onlyIn_cellLoss {c : Nat} (h : [.cells, .phys, .parts, .funcs, .recs, .hostMem, .fab, .groom, .day, .daySeq, .gctr] ⊆
    l) :
    s.onlyIn (t.cellLoss c) l ↔ s.onlyIn t l :=
  State.onlyIn_iff h (by simp [State.cellLoss])
@[simp] theorem State.onlyIn_quarantine {r cause engine : Nat} (h : [.cells, .phys, .funcs, .recs, .hostMem, .fab, .groom, .day, .daySeq] ⊆
    l) :
    s.onlyIn (t.quarantine r cause engine) l ↔ s.onlyIn t l :=
  State.onlyIn_iff h <| by
    unfold State.quarantine
    dsimp only
    (repeat' split) <;> simp
@[simp] theorem State.onlyIn_requestCal {cls r x excess : Nat} (h : [.dies] ⊆ l) :
    s.onlyIn (t.requestCal cls r x excess) l ↔ s.onlyIn t l :=
  State.onlyIn_iff h (by simp [State.requestCal])
@[simp] theorem State.onlyIn_endWrite {c : Nat} {j : WriteJob} {res : Nat} (h : [.cells, .funcs, .hostMem, .dies, .day, .daySeq] ⊆ l) :
    s.onlyIn (t.endWrite c j res) l ↔ s.onlyIn t l :=
  State.onlyIn_iff h (by simp [State.endWrite])
@[simp] theorem State.onlyIn_dropRelay {c : Nat} (h : [.cells] ⊆ l) : s.onlyIn (t.dropRelay c) l ↔ s.onlyIn t l :=
  State.onlyIn_iff h (by simp [State.dropRelay])
@[simp] theorem State.onlyIn_failXbar {r x cause : Nat} (h : [.cells, .phys, .funcs, .recs, .hostMem, .fab, .dies, .groom, .day, .daySeq] ⊆
    l) :
    s.onlyIn (t.failXbar r x cause) l ↔ s.onlyIn t l :=
  State.onlyIn_iff h <| by
    unfold State.failXbar
    dsimp only
    (repeat' split) <;> simp

/-! #### Analogue -/

@[simp] theorem State.onlyIn_wrEntries {c a : Nat} {xs : List (Nat × Nat)} (h : [.cells] ⊆ l) :
    s.onlyIn (t.wrEntries c a xs) l ↔ s.onlyIn t l :=
  State.onlyIn_iff h (by simp [State.wrEntries])
@[simp] theorem State.onlyIn_writeOut {c : Nat} {f : Flight} {v : Vect} {out : List Fv} (h : [.cells, .mem] ⊆ l) :
    s.onlyIn (t.writeOut c f v out) l ↔ s.onlyIn t l :=
  State.onlyIn_iff h (by simp [State.writeOut])
@[simp] theorem State.onlyIn_modFlight {c k : Nat} {g : Flight → Flight} (h : [.cells] ⊆ l) :
    s.onlyIn (t.modFlight c k g) l ↔ s.onlyIn t l :=
  State.onlyIn_iff h (by simp [State.modFlight])
@[simp] theorem State.onlyIn_finishVect {c : Nat} {f : Flight} {v : Vect} {x : List Int} {e : Int} {y : List Rat} {analogue : Bool} {y8 :
    List Rat} {npos : Nat} (h : [.cells, .mem, .day, .daySeq] ⊆ l) :
    s.onlyIn (t.finishVect c f v x e y analogue y8 npos) l ↔ s.onlyIn t l :=
  State.onlyIn_iff h <| by
    unfold State.finishVect
    repeat' split <;> simp
@[simp] theorem State.onlyIn_residualStats {r x : Nat} {rs : List (Nat × Option Rat)} (h : [.phys, .dies, .day, .daySeq] ⊆ l) :
    s.onlyIn (t.residualStats r x rs) l ↔ s.onlyIn t l :=
  State.onlyIn_iff h (by simp [State.residualStats])
@[simp] theorem State.onlyIn_outputStats {r x : Nat} {mask : Nat → Bool} {out : List Fv} (h : [.phys, .day, .daySeq] ⊆ l) :
    s.onlyIn (t.outputStats r x mask out) l ↔ s.onlyIn t l :=
  State.onlyIn_iff h (by simp [State.outputStats])
@[simp] theorem State.onlyIn_countProduct {c x : Nat} (h : [.cells, .phys] ⊆ l) : s.onlyIn (t.countProduct c x) l ↔ s.onlyIn t l :=
  State.onlyIn_iff h (by simp [State.countProduct])
@[simp] theorem State.onlyIn_insert {c : Nat} {f : Flight} {v : Vect} {x : List Int} {e : Int} {redo : Bool} {npos : Nat} (h : [.cells] ⊆
    l) :
    s.onlyIn (t.insert c f v x e redo npos) l ↔ s.onlyIn t l :=
  State.onlyIn_iff h (by simp [State.insert])
@[simp] theorem State.onlyIn_readVect {c : Nat} {f : Flight} {v : Vect} {vix : Nat} {x : List Int} {e : Int} {codes : List Int} {npos :
    Nat} (h : [.cells, .phys, .parts, .mem, .dies, .day, .daySeq] ⊆ l) :
    s.onlyIn (t.readVect c f v vix x e codes npos) l ↔ s.onlyIn t l :=
  State.onlyIn_iff h <| by
    unfold State.readVect
    dsimp only
    split <;> simp
@[simp] theorem State.onlyIn_startVect {c : Nat} {f : Flight} {vix : Nat} {path : Path} {codes : List Int} (h : [.cells, .phys, .parts,
    .mem, .dies, .day, .daySeq] ⊆ l) :
    s.onlyIn (t.startVect c f vix path codes) l ↔ s.onlyIn t l :=
  State.onlyIn_iff h <| by
    unfold State.startVect
    extract_lets v px b mb npos u
    have hu : t.onlyIn u [.cells, .phys, .parts, .mem, .dies, .day, .daySeq] := by simp [u]
    clear_value u
    split
    · rw [State.onlyIn_writeOut (by simp)]
      simp [hu]
    · simp [hu]
    · extract_lets ys
      split
      · simp [hu]
      · split <;> simp [hu]
@[simp] theorem State.onlyIn_startVects {fuel c key : Nat} {codes : List Int} (h : [.cells, .phys, .parts, .mem, .dies, .day, .daySeq] ⊆ l)
    :
    s.onlyIn (t.startVects fuel c key codes) l ↔ s.onlyIn t l :=
  State.onlyIn_iff h <| by
    induction fuel generalizing t with
    | zero => exact t.onlyIn_refl _
    | succ n ih =>
      unfold State.startVects
      split
      · simp
      · split
        · simp
        · extract_lets w lx u v
          refine State.onlyIn.trans ?_ ih
          simp [v, u]
theorem State.outIn_execProductStart (c : Cid) (codes : List Int) (t : State) : t.outIn allBut (execProductStart c codes t) := by
  unfold execProductStart
  dsimp only
  (repeat' split) <;> simp
@[simp] theorem State.onlyIn_unleft {c key : Nat} (h : [.cells] ⊆ l) : s.onlyIn (t.unleft c key) l ↔ s.onlyIn t l :=
  State.onlyIn_iff h (by simp [State.unleft])
theorem State.outIn_execInsertedProduct (c : Cid) (t : State) : t.outIn allBut (execInsertedProduct c t) := by
  unfold execInsertedProduct
  extract_lets cl
  split
  · simp
  next j rest hins =>
    split
    · simp
    · extract_lets u u1 u2 u3
      have hu : t.onlyIn u allBut := by simp [u]
      have h2 : t.onlyIn u2 allBut := by
        unfold u2
        generalize 2048 = n
        split <;> simp [hu, u1]
      have h3 : t.onlyIn u3 allBut := by simp [u3, h2]
      clear_value u u1 u2 u3
      split
      · exact hu
      · simp [hu, h3]
@[simp] theorem State.onlyIn_widenLimits {c lx : Nat} {bad : List Nat} {out : List Fv} (h : [.recs, .day, .daySeq] ⊆ l) :
    s.onlyIn (t.widenLimits c lx bad out) l ↔ s.onlyIn t l :=
  State.onlyIn_iff h (by simp [State.widenLimits])
theorem State.outIn_execReferenceProductReturn (c : Cid) (t : State) : t.outIn allBut (execReferenceProductReturn c t) := by
  unfold execReferenceProductReturn
  extract_lets cl r ok
  split
  · simp
  · extract_lets px drop b y tol u1
    have hdrop : t.onlyIn drop allBut := by simp [drop]
    have h1 : t.onlyIn u1 allBut := by unfold u1; split <;> simp [hdrop]
    clear_value drop u1
    split
    · exact hdrop
    · extract_lets v0 v yr agree u2
      have h2 : t.onlyIn u2 allBut := by simp [u2, h1]
      clear_value u2
      split
      · split <;> simp [hdrop]
      · simp [hdrop, h2]
theorem State.outIn_execConvRangeWiden (r : Rid) (x : Xb) (g : Fin 16) (t : State) : t.outIn quiet (execConvRangeWiden r x g t) := by
  simp [execConvRangeWiden]
theorem State.outIn_execCrossbarSuspect (r : Rid) (x : Xb) (t : State) : t.outIn quiet (execCrossbarSuspect r x t) := by
  simp [execCrossbarSuspect]
theorem State.outIn_execNoiseSigmaUpdate (r : Rid) (x : Xb) (t : State) : t.outIn quiet (execNoiseSigmaUpdate r x t) := by
  simp [execNoiseSigmaUpdate]
theorem State.outIn_execOutputBaseline (r : Rid) (x : Xb) (t : State) : t.outIn quiet (execOutputBaseline r x t) := by
  simp [execOutputBaseline]
@[simp] theorem State.onlyIn_setK {r x : Nat} {k : Rat} (h : [.phys, .dies, .day, .daySeq] ⊆ l) :
    s.onlyIn (t.setK r x k) l ↔ s.onlyIn t l :=
  State.onlyIn_iff h (by simp [State.setK])
theorem State.outIn_execDriftRefRead (r : Rid) (x : Xb) (codes : List Int) (t : State) : t.outIn quiet (execDriftRefRead r x codes t) := by
  unfold execDriftRefRead
  split <;> simp
@[simp] theorem State.onlyIn_amvIssue {c : Nat} {o : Op} (h : [.cells, .funcs, .hostMem, .day, .daySeq] ⊆ l) :
    s.onlyIn (t.amvIssue c o) l ↔ s.onlyIn t l :=
  State.onlyIn_iff h <| by
    unfold State.amvIssue
    split <;> simp
theorem State.outIn_execAmv (c : Cid) (t : State) : t.outIn quiet (execAmv c t) := by
  simp [execAmv]
theorem State.outIn_execAmvt (c : Cid) (t : State) : t.outIn quiet (execAmvt c t) := by
  simp [execAmvt]

/-! #### Writing -/

@[simp] theorem State.onlyIn_putCarry {c x base k : Nat} {v : Rat} (h : [.cells, .mem] ⊆ l) :
    s.onlyIn (t.putCarry c x base k v) l ↔ s.onlyIn t l :=
  State.onlyIn_iff h (by simp [State.putCarry])
@[simp] theorem State.onlyIn_setJob {c : Nat} {j : WriteJob} (h : [.cells] ⊆ l) : s.onlyIn (t.setJob c j) l ↔ s.onlyIn t l :=
  State.onlyIn_iff h (by simp [State.setJob])
@[simp] theorem State.onlyIn_dropJob {c res : Nat} (h : [.cells, .funcs, .hostMem, .dies, .day, .daySeq] ⊆ l) :
    s.onlyIn (t.dropJob c res) l ↔ s.onlyIn t l :=
  State.onlyIn_iff h <| by
    unfold State.dropJob
    split <;> simp
@[simp] theorem State.onlyIn_beginRow {c : Nat} (h : [.cells, .phys, .mem] ⊆ l) : s.onlyIn (t.beginRow c) l ↔ s.onlyIn t l :=
  State.onlyIn_iff h <| by
    unfold State.beginRow
    repeat' split <;> simp
@[simp] theorem State.onlyIn_carryAdd {c : Nat} {j : WriteJob} (h : [.cells, .mem] ⊆ l) : s.onlyIn (t.carryAdd c j) l ↔ s.onlyIn t l :=
  State.onlyIn_iff h (by simp [State.carryAdd])
@[simp] theorem State.onlyIn_writeFault {c : Nat} {j : WriteJob} {cause : Nat} (h : [.cells, .funcs, .hostMem, .dies, .day, .daySeq] ⊆ l) :
    s.onlyIn (t.writeFault c j cause) l ↔ s.onlyIn t l :=
  State.onlyIn_iff h (by simp [State.writeFault])
@[simp] theorem State.onlyIn_startUpdate {c : Nat} {j : WriteJob} (h : [.cells, .phys, .funcs, .mem, .hostMem, .dies, .day, .daySeq] ⊆ l) :
    s.onlyIn (t.startUpdate c j) l ↔ s.onlyIn t l :=
  State.onlyIn_iff h (by simp [State.startUpdate])
@[simp] theorem State.onlyIn_startLoad {c : Nat} {j : WriteJob} (h : [.cells, .phys, .funcs, .mem, .hostMem, .dies, .day, .daySeq] ⊆ l) :
    s.onlyIn (t.startLoad c j) l ↔ s.onlyIn t l :=
  State.onlyIn_iff h (by simp [State.startLoad])
@[simp] theorem State.onlyIn_markDirty {c lx : Nat} (h : [.parts] ⊆ l) : s.onlyIn (t.markDirty c lx) l ↔ s.onlyIn t l :=
  State.onlyIn_iff h (by simp [State.markDirty])
theorem State.outIn_execWriteStart (c : Cid) (t : State) : t.outIn allBut (execWriteStart c t) := by
  unfold execWriteStart
  dsimp only
  split <;> simp
@[simp] theorem State.onlyIn_wearRow {r x i : Nat} (h : [.phys, .day, .daySeq] ⊆ l) : s.onlyIn (t.wearRow r x i) l ↔ s.onlyIn t l :=
  State.onlyIn_iff h (by simp [State.wearRow])
@[simp] theorem State.onlyIn_landRow {c : Nat} {j : WriteJob} {i : Nat} {levels : List Int} (h : [.cells, .mem] ⊆ l) :
    s.onlyIn (t.landRow c j i levels) l ↔ s.onlyIn t l :=
  State.onlyIn_iff h (by simp [State.landRow])
@[simp] theorem State.onlyIn_nextSpare {c : Nat} (h : [.cells, .phys, .recs, .fab, .groom, .day, .daySeq] ⊆ l) :
    s.onlyIn (t.nextSpare c) l ↔ s.onlyIn t l :=
  State.onlyIn_iff h (by simp [State.nextSpare])
@[simp] theorem State.onlyIn_failWrite {c : Nat} {j : WriteJob} {cause : Nat} (h : [.cells, .phys, .funcs, .recs, .hostMem, .fab, .dies,
    .groom, .day, .daySeq] ⊆ l) :
    s.onlyIn (t.failWrite c j cause) l ↔ s.onlyIn t l :=
  State.onlyIn_iff h (by simp [State.failWrite])
theorem State.outIn_execRowWriteDone (c : Cid) (ok : Bool) (rounds : Nat) (levels : List Int) (t : State) :
    t.outIn allBut (execRowWriteDone c ok rounds levels t) := by
  unfold execRowWriteDone
  repeat' split <;> simp
@[simp] theorem State.onlyIn_spareWritten {c : Nat} (h : [.cells, .phys, .repair, .funcs, .recs, .hostMem, .fab, .groom, .day, .daySeq] ⊆
    l) :
    s.onlyIn (t.spareWritten c) l ↔ s.onlyIn t l :=
  State.onlyIn_iff h (by simp [State.spareWritten])
theorem State.outIn_execWriteComplete (c : Cid) (t : State) : t.outIn quiet (execWriteComplete c t) := by
  unfold execWriteComplete
  dsimp only
  split <;> simp
@[simp] theorem State.onlyIn_acceptAprog {c w : Nat} {word : BitVec 128} {pc : Nat} {i : Iss} (h : [.cells, .parts, .funcs, .hostMem, .day,
    .daySeq] ⊆ l) :
    s.onlyIn (t.acceptAprog c w word pc i) l ↔ s.onlyIn t l :=
  State.onlyIn_iff h (by simp [State.acceptAprog])
@[simp] theorem State.onlyIn_aprogIssue {c : Nat} {form : Nat → Bool} (h : [.cells, .parts, .funcs, .hostMem, .day, .daySeq] ⊆ l) :
    s.onlyIn (t.aprogIssue c form) l ↔ s.onlyIn t l :=
  State.onlyIn_iff h <| by
    unfold State.aprogIssue
    split <;> simp
theorem State.outIn_execAprogUpdate (c : Cid) (t : State) : t.outIn quiet (execAprogUpdate c t) := by
  simp [execAprogUpdate]
theorem State.outIn_execAprogLoad (c : Cid) (t : State) : t.outIn quiet (execAprogLoad c t) := by
  simp [execAprogLoad]
theorem State.outIn_execAread (c : Cid) (levels : List Int) (t : State) : t.outIn allBut (execAread c levels t) := by
  unfold execAread
  split
  · refine (State.onlyIn_issueUnit (by simp) fun u => ?_).2 (t.onlyIn_refl _)
    dsimp only
    (repeat' split) <;> simp
  · simp
theorem State.outIn_execAswap (c : Cid) (t : State) : t.outIn quiet (execAswap c t) := by
  unfold execAswap
  split <;> simp
@[simp] theorem State.onlyIn_exchange {c lx : Nat} (h : [.cells, .phys, .parts] ⊆ l) : s.onlyIn (t.exchange c lx) l ↔ s.onlyIn t l :=
  State.onlyIn_iff h (by simp [State.exchange])
theorem State.outIn_execAswapExchange (c : Cid) (t : State) : t.outIn quiet (execAswapExchange c t) := by
  unfold execAswapExchange
  dsimp only
  split <;> simp

/-! #### Calibration -/

theorem State.outIn_execAcal (c : Cid) (t : State) : t.outIn quiet (execAcal c t) := by
  unfold execAcal
  split <;> simp
@[simp] theorem State.onlyIn_calEnds {r x res : Nat} (h : [.cells, .funcs, .hostMem, .day, .daySeq] ⊆ l) :
    s.onlyIn (t.calEnds r x res) l ↔ s.onlyIn t l :=
  State.onlyIn_iff h <| by
    unfold State.calEnds
    split <;> simp
theorem State.outIn_execCalibrationStart (d : DieN) (t : State) : t.outIn quiet (execCalibrationStart d t) := by
  unfold execCalibrationStart
  dsimp only
  (repeat' split) <;> simp
@[simp] theorem State.onlyIn_calLeaves {r x : Nat} (h : [.phys, .dies] ⊆ l) : s.onlyIn (t.calLeaves r x) l ↔ s.onlyIn t l :=
  State.onlyIn_iff h (by simp [State.calLeaves])
@[simp] theorem State.onlyIn_calAbort {r x : Nat} {again : Bool} (h : [.cells, .phys, .funcs, .hostMem, .dies, .day, .daySeq] ⊆ l) :
    s.onlyIn (t.calAbort r x again) l ↔ s.onlyIn t l :=
  State.onlyIn_iff h <| by
    unfold State.calAbort
    dsimp only
    (repeat' split) <;> simp
@[simp] theorem State.onlyIn_calCommit {r x : Nat} {fs : List (Nat × Int × Int)} {sg sgT : Nat} (h : [.cells, .phys, .funcs, .hostMem,
    .dies, .day, .daySeq] ⊆ l) :
    s.onlyIn (t.calCommit r x fs sg sgT) l ↔ s.onlyIn t l :=
  State.onlyIn_iff h <| by
    unfold State.calCommit
    dsimp only
    (repeat' split) <;> simp
theorem State.outIn_execRecalSlice (r : Rid) (x : Xb) (z m : List Rat) (rows : List Nat) (sg sgT : Nat) (t : State) :
    t.outIn quiet (execRecalSlice r x z m rows sg sgT t) := by
  unfold execRecalSlice
  repeat' split <;> simp
@[simp] theorem State.onlyIn_rebuild {c : Nat} (h : [.phys] ⊆ l) : s.onlyIn (t.rebuild c) l ↔ s.onlyIn t l :=
  State.onlyIn_iff h (by simp [State.rebuild])
@[simp] theorem State.onlyIn_spareWrites {c : Nat} (h : [.cells] ⊆ l) : s.onlyIn (t.spareWrites c) l ↔ s.onlyIn t l :=
  State.onlyIn_iff h (by simp [State.spareWrites])
theorem State.outIn_execColumnSelfCal (r : Rid) (bad : List Nat) (t : State) : t.outIn quiet (execColumnSelfCal r bad t) := by
  unfold execColumnSelfCal
  dsimp only
  (repeat' split) <;> simp
theorem State.outIn_execCalRecordStore (r : Rid) (t : State) : t.outIn quiet (execCalRecordStore r t) := by
  simp [execCalRecordStore, ↓State.onlyIn_recs]

/-! #### Vector -/

@[simp] theorem State.onlyIn_vecEffect {c : Nat} {o : Op} {w : Nat} {i : Iss} (h : [.cells, .mem] ⊆ l) :
    s.onlyIn (t.vecEffect c o w i) l ↔ s.onlyIn t l :=
  State.onlyIn_iff h (by simp [State.vecEffect])
@[simp] theorem State.onlyIn_vecIssue {c : Nat} {o : Op} (h : [.cells, .funcs, .mem, .hostMem, .day, .daySeq] ⊆ l) :
    s.onlyIn (t.vecIssue c o) l ↔ s.onlyIn t l :=
  State.onlyIn_iff h <| by
    unfold State.vecIssue
    split <;> simp
theorem State.outIn_execVadd (c : Cid) (t : State) : t.outIn allBut (execVadd c t) := by
  simp [execVadd]
theorem State.outIn_execVmul (c : Cid) (t : State) : t.outIn allBut (execVmul c t) := by
  simp [execVmul]
theorem State.outIn_execVfma (c : Cid) (t : State) : t.outIn allBut (execVfma c t) := by
  simp [execVfma]
theorem State.outIn_execVcmp (c : Cid) (t : State) : t.outIn allBut (execVcmp c t) := by
  simp [execVcmp]
theorem State.outIn_execVsel (c : Cid) (t : State) : t.outIn allBut (execVsel c t) := by
  simp [execVsel]
theorem State.outIn_execVmin (c : Cid) (t : State) : t.outIn allBut (execVmin c t) := by
  simp [execVmin]
theorem State.outIn_execVmax (c : Cid) (t : State) : t.outIn allBut (execVmax c t) := by
  simp [execVmax]
theorem State.outIn_execAcc (c : Cid) (t : State) : t.outIn quiet (execAcc c t) := by
  unfold execAcc
  split
  · refine (State.onlyIn_issueUnit (by simp) fun u => ?_).2 (t.onlyIn_refl _)
    refine State.onlyIn_foldl_iff fun v x => ?_
    simp
  · simp
@[simp] theorem State.onlyIn_accrdOne {c : Nat} {i : Iss} {clear : Bool} {k r e : Nat} (h : [.cells, .mem] ⊆ l) :
    s.onlyIn (t.accrdOne c i clear k r e) l ↔ s.onlyIn t l :=
  State.onlyIn_iff h (by simp [State.accrdOne])
theorem State.outIn_execAccrd (c : Cid) (t : State) : t.outIn allBut (execAccrd c t) := by
  unfold execAccrd
  split
  · refine (State.onlyIn_issueUnit (by simp) fun u => ?_).2 (t.onlyIn_refl _)
    simp
  · simp

/-! #### Collective -/

@[simp] theorem State.onlyIn_landColl {c : Nat} {f : Flight} {r : Nat} {vals : List (List Nat)} (h : [.cells, .mem] ⊆ l) :
    s.onlyIn (t.landColl c f r vals) l ↔ s.onlyIn t l :=
  State.onlyIn_iff h (by simp [State.landColl])
@[simp] theorem State.onlyIn_tryColls {g fuel : Nat} (h : [.cells, .mem, .fab] ⊆ l) : s.onlyIn (t.tryColls g fuel) l ↔ s.onlyIn t l :=
  State.onlyIn_iff h <| by
    induction fuel generalizing t with
    | zero => exact t.onlyIn_refl _
    | succ n ih =>
      unfold State.tryColls
      extract_lets gr ms
      split
      · simp
      · split
        · simp
        · extract_lets u vals v
          refine State.onlyIn.trans ?_ ih
          refine (State.onlyIn_foldl_iff fun w e => ?_).2 (by simp [u])
          (repeat' split) <;> simp
@[simp] theorem State.onlyIn_contribute {g : Nat} {m : CollMsg} (h : [.cells, .mem, .fab] ⊆ l) :
    s.onlyIn (t.contribute g m) l ↔ s.onlyIn t l :=
  State.onlyIn_iff h (by simp [State.contribute])
@[simp] theorem State.onlyIn_offer {g : Nat} {m : CollMsg} (h : [.cells, .mem, .fab] ⊆ l) : s.onlyIn (t.offer g m) l ↔ s.onlyIn t l :=
  State.onlyIn_iff h (by simp [State.offer])
@[simp] theorem State.onlyIn_collIssue {c : Nat} {o : Op} (h : [.cells, .parts, .funcs, .mem, .hostMem, .fab, .day, .daySeq] ⊆ l) :
    s.onlyIn (t.collIssue c o) l ↔ s.onlyIn t l :=
  State.onlyIn_iff h <| by
    unfold State.collIssue
    repeat' split <;> simp
theorem State.outIn_execCred (c : Cid) (t : State) : t.outIn allBut (execCred c t) := by
  simp [execCred]
theorem State.outIn_execCbcast (c : Cid) (t : State) : t.outIn allBut (execCbcast c t) := by
  simp [execCbcast]
theorem State.outIn_execCnorm (c : Cid) (t : State) : t.outIn allBut (execCnorm c t) := by
  simp [execCnorm]
theorem State.outIn_execCfin (c : Cid) (t : State) : t.outIn allBut (execCfin c t) := by
  simp [execCfin]
theorem State.outIn_groupPacket {t : State} {h : Hdr} {g k r : Nat} {d : List Nat} {f : State → State} {l : List Area}
    (hl : [.fab, .gctr] ⊆ l) (hf : t.onlyIn (f t) l) : t.outIn l (t.groupPacket h g k r d f) := by
  have hb : [Area.fab] ⊆ l := fun a ha => hl (by rw [List.mem_singleton] at ha; simp [ha])
  have hg : [Area.gctr] ⊆ l := fun a ha => hl (List.mem_cons_of_mem _ ha)
  unfold State.groupPacket
  rw [State.outIn_receive hg]
  intro _ _
  split
  · exact hf
  · simp [hb]
  · simp [hg]
theorem State.outIn_execBarrierArrive (hd : Hdr) (g rank : Nat) (t : State) : t.outIn quiet (execBarrierArrive hd g rank t) := by
  unfold execBarrierArrive
  exact State.outIn_groupPacket (by simp) (by simp)
theorem State.outIn_execBarrierRelease (hd : Hdr) (g : Nat) (t : State) : t.outIn quiet (execBarrierRelease hd g t) := by
  unfold execBarrierRelease
  exact State.outIn_groupPacket (by simp) (by simp)
@[simp] theorem State.onlyIn_tookNoPart {g rank count : Nat} (h : [.cells, .mem, .fab] ⊆ l) :
    s.onlyIn (t.tookNoPart g rank count) l ↔ s.onlyIn t l :=
  State.onlyIn_iff h (by simp [State.tookNoPart])
theorem State.outIn_execCollCtrl (hd : Hdr) (g rank count : Nat) (t : State) : t.outIn allBut (execCollCtrl hd g rank count t) := by
  unfold execCollCtrl
  exact State.outIn_groupPacket (by simp) (by simp)
@[simp] theorem State.onlyIn_failColl {g : Nat} {k : CollSt} {cause : Nat} (h : [.cells, .funcs, .hostMem, .day, .daySeq] ⊆ l) :
    s.onlyIn (t.failColl g k cause) l ↔ s.onlyIn t l :=
  State.onlyIn_iff h <| by
    unfold State.failColl
    extract_lets
    refine (State.onlyIn_foldl_iff fun u x => ?_).2 (by simp)
    (repeat' split) <;> simp
theorem State.outIn_execCollectiveTimeout (c : Cid) (t : State) : t.outIn quiet (execCollectiveTimeout c t) := by
  unfold execCollectiveTimeout
  dsimp only
  (repeat' split) <;> simp

/-! #### Link -/

@[simp] theorem State.onlyIn_reroute (h : [.fab] ⊆ l) : s.onlyIn t.reroute l ↔ s.onlyIn t l :=
  State.onlyIn_iff h (by simp [State.reroute])
@[simp] theorem State.onlyIn_linkState (h : [.fab] ⊆ l) : s.onlyIn t.linkState l ↔ s.onlyIn t l :=
  State.onlyIn_iff h (by simp [State.linkState])
@[simp] theorem State.onlyIn_startProbe {n : Nat} (h : [.fab] ⊆ l) : s.onlyIn (t.startProbe n) l ↔ s.onlyIn t l :=
  State.onlyIn_iff h (by simp [State.startProbe])
@[simp] theorem State.onlyIn_portDown {k : Nat} {disable : Bool} (h : [.fab, .gctr] ⊆ l) :
    s.onlyIn (t.portDown k disable) l ↔ s.onlyIn t l :=
  State.onlyIn_iff h (by simp [State.portDown])
theorem State.outIn_execPortSignalDetect (pt : PortN) (t : State) : t.outIn quiet (execPortSignalDetect pt t) := by
  simp [execPortSignalDetect]
theorem State.outIn_execLinkTrainingEnd (pt : PortN) (ok : Bool) (t : State) : t.outIn quiet (execLinkTrainingEnd pt ok t) := by
  simp [execLinkTrainingEnd]
theorem State.outIn_execPortDown (pt : PortN) (t : State) : t.outIn quiet (execPortDown pt t) := by
  simp [execPortDown]
theorem State.outIn_execLinkReplay (pt : PortN) (have_ : Bool) (t : State) : t.outIn quiet (execLinkReplay pt have_ t) := by
  simp [execLinkReplay]
theorem State.outIn_execHelloResend (pt : PortN) (t : State) : t.outIn quiet (execHelloResend pt t) := by
  simp [execHelloResend]
theorem State.outIn_execLinkState (hd : Hdr) (nbrs : List Nat) (t : State) : t.outIn quiet (execLinkState hd nbrs t) := by
  simp [execLinkState]

/-! #### Reset -/

@[simp] theorem State.onlyIn_reload {sel : Nat → Bool} (h : [.recs] ⊆ l) : s.onlyIn (t.reload sel) l ↔ s.onlyIn t l :=
  State.onlyIn_iff h <| by
    simp [State.reload, ↓State.onlyIn_recs]
@[simp] theorem State.onlyIn_ownerMoved {c : Nat} (h : [.cells, .phys, .repair, .funcs, .recs, .hostMem, .fab, .dies, .groom, .day,
    .daySeq] ⊆ l) :
    s.onlyIn (t.ownerMoved c) l ↔ s.onlyIn t l :=
  State.onlyIn_iff h (by simp [State.ownerMoved])
@[simp] theorem State.onlyIn_moveOwners {old : Nat → Nat} (h : [.cells, .phys, .repair, .funcs, .recs, .hostMem, .fab, .dies, .groom, .day,
    .daySeq] ⊆ l) :
    s.onlyIn (t.moveOwners old) l ↔ s.onlyIn t l :=
  State.onlyIn_iff h (by simp [State.moveOwners])
@[simp] theorem State.onlyIn_logReset {level who : Nat} {cell : Option Nat} {p : Nat} (h : [.day, .daySeq] ⊆ l) :
    s.onlyIn (t.logReset level who cell p) l ↔ s.onlyIn t l :=
  State.onlyIn_iff h <| by
    unfold State.logReset
    split <;> simp
@[simp] theorem State.onlyIn_beginReset {c level : Nat} {toks : List Nat} (h : [.cells, .parts, .funcs, .hostMem, .dies, .day, .daySeq,
    .gctr] ⊆ l) :
    s.onlyIn (t.beginReset c level toks) l ↔ s.onlyIn t l :=
  State.onlyIn_iff h (by simp [State.beginReset])
@[simp] theorem State.onlyIn_endCut {c : Nat} (h : [.cells, .funcs, .hostMem, .dies, .day, .daySeq] ⊆ l) :
    s.onlyIn (t.endCut c) l ↔ s.onlyIn t l :=
  State.onlyIn_iff h <| by
    unfold State.endCut
    split <;> simp
@[simp] theorem State.onlyIn_abortQueues {p : Nat} (h : [.funcs, .hostMem] ⊆ l) : s.onlyIn (t.abortQueues p) l ↔ s.onlyIn t l :=
  State.onlyIn_iff h <| by
    unfold State.abortQueues
    refine (State.onlyIn_foldl_iff fun u q => ?_).2 (t.onlyIn_refl _)
    simp
@[simp] theorem State.onlyIn_dropGroups {p : Nat} (h : [.recs, .fab] ⊆ l) : s.onlyIn (t.dropGroups p) l ↔ s.onlyIn t l :=
  State.onlyIn_iff h <| by
    simp [State.dropGroups, ↓State.onlyIn_recs]
@[simp] theorem State.onlyIn_vanish {p : Nat} (h : [.cells, .phys, .repair, .parts, .funcs, .recs, .hostMem, .fab, .dies, .groom, .day,
    .daySeq] ⊆ l) :
    s.onlyIn (t.vanish p) l ↔ s.onlyIn t l :=
  State.onlyIn_iff h <| by
    simp [State.vanish, ↓State.onlyIn_funcs]
@[simp] theorem State.onlyIn_endPartReset {p : Nat} (h : [.cells, .phys, .repair, .parts, .funcs, .recs, .hostMem, .fab, .dies, .groom,
    .day, .daySeq, .gctr] ⊆ l) :
    s.onlyIn (t.endPartReset p) l ↔ s.onlyIn t l :=
  State.onlyIn_iff h (by simp [State.endPartReset])
@[simp] theorem State.onlyIn_beginPartReset {p who : Nat} (h : [.cells, .phys, .repair, .parts, .funcs, .recs, .hostMem, .fab, .dies,
    .groom, .day, .daySeq, .gctr] ⊆ l) :
    s.onlyIn (t.beginPartReset p who) l ↔ s.onlyIn t l :=
  State.onlyIn_iff h (by simp [State.beginPartReset])
theorem State.outIn_execFunctionLevelReset (p : Pn) (t : State) : t.outIn quiet (execFunctionLevelReset p t) := by
  simp [execFunctionLevelReset]
theorem State.outIn_execResetComplete (c : Cid) (t : State) : t.outIn quiet (execResetComplete c t) := by
  simp [execResetComplete]
@[simp] theorem State.onlyIn_setNumVfs {n : Nat} (h : [.cells, .phys, .repair, .parts, .funcs, .recs, .hostMem, .fab, .dies, .hif, .groom,
    .day, .daySeq, .gctr] ⊆ l) :
    s.onlyIn (t.setNumVfs n) l ↔ s.onlyIn t l :=
  State.onlyIn_iff h (by simp [State.setNumVfs])
theorem State.outIn_execNumvfsChange (n : Fin 16) (t : State) : t.outIn quiet (execNumvfsChange n t) := by
  simp [execNumvfsChange]

/-! #### Records -/

@[simp] theorem State.onlyIn_overlay {p : Nat} {xs : List Cand} (h : [.recs] ⊆ l) : s.onlyIn (t.overlay p xs) l ↔ s.onlyIn t l :=
  State.onlyIn_iff h <| by
    simp [State.overlay, ↓State.onlyIn_recs]
@[simp] theorem State.onlyIn_tryActive {g : Nat} (h : [.cells, .parts, .funcs, .mem, .hostMem, .fab, .day, .daySeq] ⊆ l) :
    s.onlyIn (t.tryActive g) l ↔ s.onlyIn t l :=
  State.onlyIn_iff h (by simp [State.tryActive])
@[simp] theorem State.onlyIn_joinGroup {p g : Nat} (h : [.cells, .parts, .funcs, .mem, .hostMem, .fab, .day, .daySeq] ⊆ l) :
    s.onlyIn (t.joinGroup p g) l ↔ s.onlyIn t l :=
  State.onlyIn_iff h (by simp [State.joinGroup])
@[simp] theorem State.onlyIn_askRegion {c : Nat} (h : [.phys, .day, .daySeq] ⊆ l) : s.onlyIn (t.askRegion c) l ↔ s.onlyIn t l :=
  State.onlyIn_iff h (by simp [State.askRegion])
@[simp] theorem State.onlyIn_applyRec {p : Nat} {k : Cand} (h : [.cells, .phys, .parts, .funcs, .recs, .mem, .hostMem, .fab, .pow, .hif,
    .day, .daySeq, .gctr] ⊆ l) :
    s.onlyIn (t.applyRec p k) l ↔ s.onlyIn t l :=
  State.onlyIn_iff h <| by
    unfold State.applyRec
    extract_lets u v
    have hu : t.onlyIn u [.cells, .phys, .parts, .funcs, .recs, .mem, .hostMem, .fab, .pow, .hif, .day, .daySeq, .gctr] :=
      (State.onlyIn_recs (by decide)).2 (t.onlyIn_refl _)
    have hv : t.onlyIn v [.cells, .phys, .parts, .funcs, .recs, .mem, .hostMem, .fab, .pow, .hif, .day, .daySeq, .gctr] := by
      unfold v
      split
      next w hw => exact hu.trans ((State.placeLayer_only hw).mono (by decide))
      · exact hu
    clear_value u v
    split
    case h_5 =>
      refine (State.onlyIn_foldl_iff fun w i => ?_).2 hu
      simp
    all_goals simp [hu, hv]
@[simp] theorem State.onlyIn_applyAll {p : Nat} {xs : List Cand} (h : [.cells, .phys, .repair, .parts, .funcs, .recs, .mem, .hostMem, .fab,
    .dies, .pow, .hif, .groom, .day, .daySeq, .gctr] ⊆ l) :
    s.onlyIn (t.applyAll p xs) l ↔ s.onlyIn t l :=
  State.onlyIn_iff h <| by
    unfold State.applyAll
    split <;> simp
@[simp] theorem State.onlyIn_logReject {p ty inst cause : Nat} (h : [.day, .daySeq] ⊆ l) :
    s.onlyIn (t.logReject p ty inst cause) l ↔ s.onlyIn t l :=
  State.onlyIn_iff h (by simp [State.logReject])
@[simp] theorem State.onlyIn_tackImage {p : Nat} {program : Bool} {room : Nat} {read : Nat → List Byte} (h : [.cells, .phys, .repair,
    .parts, .funcs, .recs, .mem, .hostMem, .fab, .dies, .pow, .hif, .groom, .day, .daySeq, .gctr] ⊆ l) :
    s.onlyIn (t.tackImage p program room read).1 l ↔ s.onlyIn t l :=
  State.onlyIn_iff h <| by
    unfold State.tackImage
    dsimp only
    (repeat' split) <;> simp
@[simp] theorem State.onlyIn_commitShadows {p ty : Nat} {program : Bool} (h : [.cells, .phys, .repair, .parts, .funcs, .recs, .mem,
    .hostMem, .fab, .dies, .pow, .hif, .groom, .day, .daySeq, .gctr] ⊆ l) :
    s.onlyIn (t.commitShadows p ty program).1 l ↔ s.onlyIn t l :=
  State.onlyIn_iff h <| by
    unfold State.commitShadows
    dsimp only
    (repeat' split) <;> simp
theorem State.outIn_execShadowSel (fn : Pn) (ty inst : Nat) (t : State) : t.outIn quiet (execShadowSel fn ty inst t) := by
  simp [execShadowSel]
theorem State.outIn_execCommit (fn : Pn) (ty : Nat) (t : State) : t.outIn allBut (execCommit fn ty t) := by
  simp [execCommit]
@[simp] theorem State.onlyIn_configDone {c cause : Nat} (h : [.cells, .funcs, .hostMem, .day, .daySeq] ⊆ l) :
    s.onlyIn (t.configDone c cause) l ↔ s.onlyIn t l :=
  State.onlyIn_iff h (by simp [State.configDone])
theorem State.outIn_execTack (c : Cid) (t : State) : t.outIn allBut (execTack c t) := by
  unfold execTack
  split <;> simp
theorem State.outIn_execTcommit (c : Cid) (t : State) : t.outIn allBut (execTcommit c t) := by
  unfold execTcommit
  split <;> simp

/-! #### Integrity -/

theorem State.outIn_execDigest (c : Cid) (t : State) : t.outIn quiet (execDigest c t) := by
  unfold execDigest
  split <;> simp
@[simp] theorem State.onlyIn_convict {c x e : Nat} {tested two : Bool} (h : [.cells, .phys, .funcs, .recs, .hostMem, .fab, .dies, .groom,
    .day, .daySeq] ⊆ l) :
    s.onlyIn (t.convict c x e tested two) l ↔ s.onlyIn t l :=
  State.onlyIn_iff h (by simp [State.convict])
@[simp] theorem State.onlyIn_sentence {cells : List Nat} {x e : Nat} {two : Bool} {v : Verdict} (h : [.cells, .phys, .funcs, .recs,
    .hostMem, .fab, .dies, .boot, .groom, .day, .daySeq] ⊆ l) :
    s.onlyIn (t.sentence cells x e two v) l ↔ s.onlyIn t l :=
  State.onlyIn_iff h <| by
    unfold State.sentence
    extract_lets c q u1 u2 u3 mark u4 u5 u6
    have h3 : t.onlyIn u3 [.cells, .phys, .funcs, .recs, .hostMem, .fab, .dies, .boot, .groom, .day, .daySeq] := by simp [u3, u2, u1]
    have hm : ∀ (u : State) i b, t.onlyIn (mark u i b) [.cells, .phys, .funcs, .recs, .hostMem, .fab, .dies, .boot, .groom, .day, .daySeq] ↔
        t.onlyIn u [.cells, .phys, .funcs, .recs, .hostMem, .fab, .dies, .boot, .groom, .day, .daySeq] := by
      intro u i b
      unfold mark
      split <;> simp
    clear_value mark u3
    have h5 : t.onlyIn u5 [.cells, .phys, .funcs, .recs, .hostMem, .fab, .dies, .boot, .groom, .day, .daySeq] := by simp [u5, u4, hm, h3]
    clear_value u5
    have h6 : t.onlyIn u6 [.cells, .phys, .funcs, .recs, .hostMem, .fab, .dies, .boot, .groom, .day, .daySeq] := by
      refine (State.onlyIn_foldl_iff fun w i => ?_).2 h5
      split <;> simp
    clear_value u6
    split <;> simp [h6]
@[simp] theorem State.onlyIn_endDrill {c out : Nat} (h : [.cells, .funcs, .hostMem, .day, .daySeq] ⊆ l) :
    s.onlyIn (t.endDrill c out) l ↔ s.onlyIn t l :=
  State.onlyIn_iff h (by simp [State.endDrill])
theorem State.outIn_execDrill (c : Cid) (t : State) : t.outIn quiet (execDrill c t) := by
  unfold execDrill
  split <;> simp
theorem State.outIn_execDrillReferenceTimeout (c : Cid) (t : State) : t.outIn quiet (execDrillReferenceTimeout c t) := by
  simp [execDrillReferenceTimeout]
@[simp] theorem State.onlyIn_drillRound {c : Nat} {runs : List DrillRun} (h : [.cells, .phys, .funcs, .recs, .hostMem, .fab, .dies, .boot,
    .groom, .day, .daySeq] ⊆ l) :
    s.onlyIn (t.drillRound c runs) l ↔ s.onlyIn t l :=
  State.onlyIn_iff h (by simp [State.drillRound])
theorem State.outIn_execDrillVisit (d : DieN) (t : State) : t.outIn quiet (execDrillVisit d t) := by
  unfold execDrillVisit
  dsimp only
  (repeat' split) <;> simp
@[simp] theorem State.onlyIn_endVisit {d r : Nat} (h : [.phys, .dies] ⊆ l) : s.onlyIn (t.endVisit d r) l ↔ s.onlyIn t l :=
  State.onlyIn_iff h (by simp [State.endVisit])
@[simp] theorem State.onlyIn_visitRound {d : Nat} {runs : List DrillRun} (h : [.cells, .phys, .funcs, .recs, .hostMem, .fab, .dies, .boot,
    .groom, .day, .daySeq] ⊆ l) :
    s.onlyIn (t.visitRound d runs) l ↔ s.onlyIn t l :=
  State.onlyIn_iff h <| by
    unfold State.visitRound
    dsimp only
    (repeat' split) <;> simp
theorem State.outIn_execDrillRound (d : DieN) (c : Option Cid) (runs : List DrillRun) (t : State) :
    t.outIn quiet (execDrillRound d c runs t) := by
  unfold execDrillRound
  split <;> simp
@[simp] theorem State.onlyIn_drillStep {p : Nat} (h : [.phys] ⊆ l) : s.onlyIn (t.drillStep p) l ↔ s.onlyIn t l :=
  State.onlyIn_iff h (by simp [State.drillStep])
@[simp] theorem State.onlyIn_digestOutcome {g kind : Nat} {best : List Byte} (h : [.phys, .parts, .funcs, .hostMem, .day, .daySeq, .gctr] ⊆
    l) :
    s.onlyIn (t.digestOutcome g kind best) l ↔ s.onlyIn t l :=
  State.onlyIn_iff h (by simp [State.digestOutcome])
@[simp] theorem State.onlyIn_digestIn {g : Nat} {m : CollMsg} (h : [.phys, .parts, .funcs, .hostMem, .fab, .day, .daySeq, .gctr] ⊆ l) :
    s.onlyIn (t.digestIn g m) l ↔ s.onlyIn t l :=
  State.onlyIn_iff h <| by
    unfold State.digestIn
    dsimp only
    split <;> simp
@[simp] theorem State.onlyIn_digestOut {c g : Nat} {d : List Byte} (h : [.phys, .parts, .funcs, .hostMem, .fab, .day, .daySeq, .gctr] ⊆ l) :
    s.onlyIn (t.digestOut c g d) l ↔ s.onlyIn t l :=
  State.onlyIn_iff h <| by
    unfold State.digestOut
    dsimp only
    split <;> simp
@[simp] theorem State.onlyIn_takeDigests {p : Nat} (h : [.phys, .parts, .funcs, .hostMem, .fab, .day, .daySeq, .gctr] ⊆ l) :
    s.onlyIn (t.takeDigests p) l ↔ s.onlyIn t l :=
  State.onlyIn_iff h (by simp [State.takeDigests])
@[simp] theorem State.onlyIn_dropDigests (h : [.parts, .gctr] ⊆ l) : s.onlyIn t.dropDigests l ↔ s.onlyIn t l :=
  State.onlyIn_iff h (by simp [State.dropDigests])
@[simp] theorem State.onlyIn_takeColl {g : Nat} {m : CollMsg} (h : [.cells, .phys, .parts, .funcs, .mem, .hostMem, .fab, .day, .daySeq,
    .gctr] ⊆ l) :
    s.onlyIn (t.takeColl g m) l ↔ s.onlyIn t l :=
  State.onlyIn_iff h (by simp [State.takeColl])
theorem State.outIn_execCollData (hd : Hdr) (g : Nat) (m : CollMsg) (t : State) : t.outIn allBut (execCollData hd g m t) := by
  unfold execCollData
  exact State.outIn_groupPacket (by simp) (by simp)

/-! #### Recovery -/

@[simp] theorem State.onlyIn_setRole {p c x role : Nat} (h : [.recs] ⊆ l) : s.onlyIn (t.setRole p c x role) l ↔ s.onlyIn t l :=
  State.onlyIn_iff h (by simp [State.setRole])
theorem State.outIn_execFetchReq (hd : Hdr) (owner step item off len : Nat) (t : State) :
    t.outIn quiet (execFetchReq hd owner step item off len t) := by
  unfold execFetchReq
  rw [State.outIn_receive (by simp)]
  intro _ _
  (repeat' split) <;> simp
@[simp] theorem State.onlyIn_enterRestoring {p : Nat} {lost : List Nat} {dark : List (Nat × Nat)} (h : [.cells, .parts, .funcs, .recs,
    .hostMem, .fab, .day, .daySeq] ⊆ l) :
    s.onlyIn (t.enterRestoring p lost dark) l ↔ s.onlyIn t l :=
  State.onlyIn_iff h <| by
    unfold State.enterRestoring
    dsimp only
    (repeat' split) <;> simp
@[simp] theorem State.onlyIn_restoreReq {p daddr : Nat} (h : [.cells, .parts, .funcs, .recs, .hostMem, .fab, .day, .daySeq, .gctr] ⊆ l) :
    s.onlyIn (t.restoreReq p daddr) l ↔ s.onlyIn t l :=
  State.onlyIn_iff h (by simp [State.restoreReq])
@[simp] theorem State.onlyIn_askPieces {p step : Nat} (h : [.parts, .fab] ⊆ l) : s.onlyIn (t.askPieces p step) l ↔ s.onlyIn t l :=
  State.onlyIn_iff h <| by
    unfold State.askPieces
    extract_lets ws src u
    have hu : t.onlyIn u [.parts, .fab] := by simp [u]
    refine (State.onlyIn_foldl_iff fun w i => ?_).2 hu
    (repeat' split) <;> simp
@[simp] theorem State.onlyIn_writeBack {p : Nat} (h : [.cells, .parts, .recs, .mem] ⊆ l) : s.onlyIn (t.writeBack p) l ↔ s.onlyIn t l :=
  State.onlyIn_iff h <| by
    unfold State.writeBack
    extract_lets q me plane u1 u2 u3 u4 u5 u6 lv
    have hp : ∀ (u : State) c x pl d, t.onlyIn (plane u c x pl d) [.cells, .parts, .recs, .mem] ↔ t.onlyIn u [.cells, .parts, .recs, .mem]
        := by
      simp [plane]
    clear_value plane
    have h1 : t.onlyIn u1 [.cells, .parts, .recs, .mem] := by simp [u1, hp]
    have h2 : t.onlyIn u2 [.cells, .parts, .recs, .mem] := by simp [u2, hp, h1]
    have h6 : t.onlyIn u6 [.cells, .parts, .recs, .mem] := by simp [u6, u5, u4, u3, h2]
    clear_value u6
    simp [h6]
@[simp] theorem State.onlyIn_deliver' {p kind owner : Nat} {d : List Byte} (h : [.parts, .mem] ⊆ l) :
    s.onlyIn (t.deliver' p kind owner d) l ↔ s.onlyIn t l :=
  State.onlyIn_iff h (by simp [State.deliver'])
@[simp] theorem State.onlyIn_landLost {p : Nat} (h : [.parts, .mem] ⊆ l) : s.onlyIn (t.landLost p) l ↔ s.onlyIn t l :=
  State.onlyIn_iff h <| by
    unfold State.landLost
    extract_lets q me first u1 u2
    have h1 : t.onlyIn u1 [.parts, .mem] := by simp [u1]
    have h2 : t.onlyIn u2 [.parts, .mem] := by simp [u2, h1]
    clear_value u2
    refine (State.onlyIn_foldl_iff fun w n => ?_).2 h2
    dsimp only
    refine State.onlyIn_foldl_iff fun v g => ?_
    split <;> simp
@[simp] theorem State.onlyIn_givePlan {p : Nat} (h : [.parts, .funcs, .hostMem, .fab, .day, .daySeq] ⊆ l) :
    s.onlyIn (t.givePlan p) l ↔ s.onlyIn t l :=
  State.onlyIn_iff h (by simp [State.givePlan])
@[simp] theorem State.onlyIn_restoreWrite {c x : Nat} {zero : Bool} {hdr : List Byte} (h : [.cells] ⊆ l) :
    s.onlyIn (t.restoreWrite c x zero hdr) l ↔ s.onlyIn t l :=
  State.onlyIn_iff h (by simp [State.restoreWrite])
@[simp] theorem State.onlyIn_restoreNow {p : Nat} (h : [.cells, .parts, .funcs, .recs, .mem, .hostMem, .fab, .dies, .day, .daySeq, .gctr] ⊆
    l) :
    s.onlyIn (t.restoreNow p) l ↔ s.onlyIn t l :=
  State.onlyIn_iff h <| by
    unfold State.restoreNow
    generalize 2 ^ 32 = big
    extract_lets q me pos own u1 r
    split
    extract_lets u2 u3 u4 u5 u6 u7 gs hit
    have h1 : t.onlyIn u1 [.cells, .parts, .funcs, .recs, .mem, .hostMem, .fab, .dies, .day, .daySeq, .gctr] := by simp [u1]
    have h2 : t.onlyIn u2 [.cells, .parts, .funcs, .recs, .mem, .hostMem, .fab, .dies, .day, .daySeq, .gctr] := (State.onlyIn_recs (by
        decide)).2 h1
    have h4 : t.onlyIn u4 [.cells, .parts, .funcs, .recs, .mem, .hostMem, .fab, .dies, .day, .daySeq, .gctr] := by simp [u4, u3, h2]
    clear_value u4
    have h5 : t.onlyIn u5 [.cells, .parts, .funcs, .recs, .mem, .hostMem, .fab, .dies, .day, .daySeq, .gctr] := by
      refine (State.onlyIn_eachN fun w c => ?_).2 h4
      rw [State.onlyIn_dropRelay (by simp)]
      simp
    have h7 : t.onlyIn u7 [.cells, .parts, .funcs, .recs, .mem, .hostMem, .fab, .dies, .day, .daySeq, .gctr] := by simp [u7, u6, h5]
    clear_value u7
    split <;> simp [h7]
@[simp] theorem State.onlyIn_loadPlaced {p c : Nat} (h : [.cells] ⊆ l) : s.onlyIn (t.loadPlaced p c) l ↔ s.onlyIn t l :=
  State.onlyIn_iff h (by simp [State.loadPlaced])
theorem State.outIn_execFetchData (hd : Hdr) (p : Pn) (m : FetchMsg) (t : State) : t.outIn allBut (execFetchData hd p m t) := by
  unfold execFetchData
  rw [State.outIn_receive (by simp)]
  intro _ _
  extract_lets q u1 u2 have_ asked u3
  have h2 : t.onlyIn u2 allBut := by simp [u2, u1]
  clear_value u2
  split
  · simp
  · split
    · split
      · simp
      · split
        · split
          · simp [h2]
          · split
            · simp [h2]
            · dsimp only
              split <;> simp [h2]
        · exact h2
    · split
      · simp
      · split
        · split
          · split <;> simp [u3]
          · simp
        · split <;> simp
theorem State.outIn_execRestoreReady (hd : Hdr) (p : Pn) (step : Nat) (ok : Bool) (t : State) :
    t.outIn quiet (execRestoreReady hd p step ok t) := by
  simp [execRestoreReady]
theorem State.outIn_execResumeMsg (hd : Hdr) (p : Pn) (step _t : Nat) (t : State) : t.outIn quiet (execResumeMsg hd p step _t t) := by
  simp [execResumeMsg]

/-! #### Plan -/

@[simp] theorem State.onlyIn_planStep {p step : Nat} (h : [.parts, .fab] ⊆ l) : s.onlyIn (t.planStep p step) l ↔ s.onlyIn t l :=
  State.onlyIn_iff h (by simp [State.planStep])
@[simp] theorem State.onlyIn_planNext {p : Nat} (h : [.parts, .fab] ⊆ l) : s.onlyIn (t.planNext p) l ↔ s.onlyIn t l :=
  State.onlyIn_iff h (by simp [State.planNext])
@[simp] theorem State.onlyIn_snapRequest {p : Nat} (h : [.parts, .fab] ⊆ l) : s.onlyIn (t.snapRequest p) l ↔ s.onlyIn t l :=
  State.onlyIn_iff h (by simp [State.snapRequest])
@[simp] theorem State.onlyIn_askSnap {p cause : Nat} (h : [.parts, .fab] ⊆ l) : s.onlyIn (t.askSnap p cause) l ↔ s.onlyIn t l :=
  State.onlyIn_iff h (by simp [State.askSnap])
@[simp] theorem State.onlyIn_seekRemount (h : [.fab] ⊆ l) : s.onlyIn t.seekRemount l ↔ s.onlyIn t l :=
  State.onlyIn_iff h (by simp [State.seekRemount])
@[simp] theorem State.onlyIn_unsecure (h : [.parts, .day, .daySeq, .gctr] ⊆ l) : s.onlyIn t.unsecure l ↔ s.onlyIn t l :=
  State.onlyIn_iff h (by simp [State.unsecure])
@[simp] theorem State.onlyIn_chooseRemounts (h : [.parts, .fab, .day, .daySeq, .gctr] ⊆ l) : s.onlyIn t.chooseRemounts l ↔ s.onlyIn t l :=
  State.onlyIn_iff h (by simp [State.chooseRemounts])

/-! #### Quantise -/

@[simp] theorem State.onlyIn_countDraws {c : Nat} {sr : Bool} {xs : List Fv} (h : [.cells] ⊆ l) :
    s.onlyIn (t.countDraws c sr xs) l ↔ s.onlyIn t l :=
  State.onlyIn_iff h (by simp [State.countDraws])
theorem State.outIn_execQrot (c : Cid) (t : State) : t.outIn allBut (execQrot c t) := by
  unfold execQrot
  split
  · refine (State.onlyIn_issueUnit (by simp) fun u => ?_).2 (t.onlyIn_refl _)
    refine State.onlyIn_foldl_iff fun v x => ?_
    dsimp only
    (repeat' split) <;> simp
  · simp
theorem State.outIn_execQnt (c : Cid) (t : State) : t.outIn allBut (execQnt c t) := by
  unfold execQnt
  split
  · refine (State.onlyIn_issueUnit (by simp) fun u => ?_).2 (t.onlyIn_refl _)
    refine State.onlyIn_foldl_iff fun v x => ?_
    simp
  · simp
theorem State.outIn_execDqnt (c : Cid) (t : State) : t.outIn allBut (execDqnt c t) := by
  unfold execDqnt
  split <;> simp

/-! #### Retrieval -/

theorem State.outIn_execTopkScan (c : Cid) (t : State) : t.outIn quiet (execTopkScan c t) := by
  unfold execTopkScan
  split <;> simp
theorem State.outIn_execTopkMerge (c : Cid) (t : State) : t.outIn quiet (execTopkMerge c t) := by
  unfold execTopkMerge
  split <;> simp

/-! #### TrainingStep -/

@[simp] theorem State.onlyIn_skipStep {p : Nat} {part : Bool} (h : [.parts, .funcs, .hostMem, .gctr] ⊆ l) :
    s.onlyIn (t.skipStep p part) l ↔ s.onlyIn t l :=
  State.onlyIn_iff h (by simp [State.skipStep])
@[simp] theorem State.onlyIn_gate {p g : Nat} {skip : Bool} (h : [.parts, .funcs, .hostMem, .gctr] ⊆ l) :
    s.onlyIn (t.gate p g skip) l ↔ s.onlyIn t l :=
  State.onlyIn_iff h (by simp [State.gate])
@[simp] theorem State.onlyIn_cfinDone {c : Nat} {f : Flight} (h : [.cells, .parts, .funcs, .hostMem, .gctr] ⊆ l) :
    s.onlyIn (t.cfinDone c f) l ↔ s.onlyIn t l :=
  State.onlyIn_iff h (by simp [State.cfinDone])
@[simp] theorem State.onlyIn_countDone {c : Nat} {f : Flight} (h : [.cells] ⊆ l) : s.onlyIn (t.countDone c f) l ↔ s.onlyIn t l :=
  State.onlyIn_iff h (by simp [State.countDone])
theorem State.outIn_execInstrComplete (c : Cid) (u : Fin 8) (t : State) : t.outIn quiet (execInstrComplete c u t) := by
  unfold execInstrComplete
  split <;> simp
@[simp] theorem State.onlyIn_closeOutbox {p : Nat} (h : [.parts, .funcs, .hostMem, .day, .daySeq, .gctr] ⊆ l) :
    s.onlyIn (t.closeOutbox p) l ↔ s.onlyIn t l :=
  State.onlyIn_iff h (by simp [State.closeOutbox])
@[simp] theorem State.onlyIn_outstanding {p : Nat} (h : [.day, .daySeq, .gctr] ⊆ l) : s.onlyIn (t.outstanding p) l ↔ s.onlyIn t l :=
  State.onlyIn_iff h (by simp [State.outstanding])
@[simp] theorem State.onlyIn_trainBoundary {p : Nat} (h : [.cells, .parts, .funcs, .recs, .hostMem, .fab, .day, .daySeq, .gctr] ⊆ l) :
    s.onlyIn (t.trainBoundary p) l ↔ s.onlyIn t l :=
  State.onlyIn_iff h (by simp [State.trainBoundary])
@[simp] theorem State.onlyIn_evalBoundary {p : Nat} (h : [.parts, .recs] ⊆ l) : s.onlyIn (t.evalBoundary p) l ↔ s.onlyIn t l :=
  State.onlyIn_iff h (by simp [State.evalBoundary])
@[simp] theorem State.onlyIn_haltPart {p : Nat} (h : [.cells, .parts] ⊆ l) : s.onlyIn (t.haltPart p) l ↔ s.onlyIn t l :=
  State.onlyIn_iff h (by simp [State.haltPart])
@[simp] theorem State.onlyIn_unhaltPart {p : Nat} (h : [.cells, .parts, .funcs, .hostMem, .fab, .day, .daySeq] ⊆ l) :
    s.onlyIn (t.unhaltPart p) l ↔ s.onlyIn t l :=
  State.onlyIn_iff h (by simp [State.unhaltPart])
@[simp] theorem State.onlyIn_haltPlanned {p step : Nat} (h : [.cells, .parts] ⊆ l) : s.onlyIn (t.haltPlanned p step) l ↔ s.onlyIn t l :=
  State.onlyIn_iff h (by simp [State.haltPlanned])
theorem State.outIn_execLocalBarrierComplete (p : Pn) (g : Fin 16) (t : State) : t.outIn quiet (execLocalBarrierComplete p g t) := by
  simp [execLocalBarrierComplete]
@[simp] theorem State.onlyIn_memError {p a : Nat} (h : [.cells, .parts, .funcs, .recs, .hostMem, .fab, .day, .daySeq, .gctr] ⊆ l) :
    s.onlyIn (t.memError p a) l ↔ s.onlyIn t l :=
  State.onlyIn_iff h (by simp [State.memError])
theorem State.outIn_execExecutionFault (c : Cid) (u : Fin 8) (code cause addr : Nat) (t : State) :
    t.outIn quiet (execExecutionFault c u code cause addr t) := by
  unfold execExecutionFault
  extract_lets cl p job who u1 u2
  have h1 : t.onlyIn u1 quiet := by
    unfold u1
    split
    · exact (State.onlyIn_badMem (by decide)).2 (t.onlyIn_refl _)
    · simp
  have h2 : t.onlyIn u2 quiet := by simp [u2, h1]
  clear_value who u1 u2
  split
  · simp
  · split
    · simp
    · extract_lets u3
      have h3 : t.onlyIn u3 quiet := by simp [u3, h2]
      clear_value u3
      simp [h3]
theorem State.outIn_execStepReplay (hd : Hdr) (p : Pn) (step : Nat) (t : State) : t.outIn quiet (execStepReplay hd p step t) := by
  unfold execStepReplay
  rw [State.outIn_receive (by simp)]
  intro _ _
  extract_lets hit
  refine (State.onlyIn_foldl_iff fun u q => ?_).2 (t.onlyIn_refl _)
  split
  · simp [State.onlyIn_eachN]
  · rfl
theorem State.outIn_execShardCopy (p : Pn) (t : State) : t.outIn quiet (execShardCopy p t) := by
  unfold execShardCopy
  repeat' split <;> simp
theorem State.outIn_execIllegalInstruction (c : Cid) (t : State) : t.outIn quiet (execIllegalInstruction c t) := by
  unfold execIllegalInstruction
  split
  · simp
  · split <;> simp
theorem State.outIn_execProgressWordSample (p : Pn) (t : State) : t.outIn quiet (execProgressWordSample p t) := by
  simp [execProgressWordSample]

/-! #### Snapshot -/

@[simp] theorem State.onlyIn_modOwner {n : Nat} {f : Owner → Owner} (h : [.fab] ⊆ l) : s.onlyIn (t.modOwner n f) l ↔ s.onlyIn t l :=
  State.onlyIn_iff h (by simp [State.modOwner])
@[simp] theorem State.onlyIn_commitImages {step : Nat} (h : [.fab] ⊆ l) : s.onlyIn (t.commitImages step) l ↔ s.onlyIn t l :=
  State.onlyIn_iff h <| by
    unfold State.commitImages
    refine (State.onlyIn_foldl_iff fun u e => ?_).2 (t.onlyIn_refl _)
    (repeat' split) <;> simp
@[simp] theorem State.onlyIn_dropImages {step : Nat} (h : [.fab] ⊆ l) : s.onlyIn (t.dropImages step) l ↔ s.onlyIn t l :=
  State.onlyIn_iff h <| by
    unfold State.dropImages
    refine (State.onlyIn_foldl_iff fun u e => ?_).2 (t.onlyIn_refl _)
    (repeat' split) <;> simp
theorem State.outIn_execRemountAsk (hd : Hdr) (size : Nat) (t : State) : t.outIn quiet (execRemountAsk hd size t) := by
  simp [execRemountAsk]
theorem State.outIn_execRemountGrant (hd : Hdr) (_left : Nat) (t : State) : t.outIn quiet (execRemountGrant hd _left t) := by
  simp [execRemountGrant]
theorem State.outIn_execRemountDeny (hd : Hdr) (_left : Nat) (t : State) : t.outIn quiet (execRemountDeny hd _left t) := by
  simp [execRemountDeny]
theorem State.outIn_execSnapData (hd : Hdr) (step item off : Nat) (data : List Byte) (last : Bool) (t : State) :
    t.outIn quiet (execSnapData hd step item off data last t) := by
  simp [execSnapData]
theorem State.outIn_execEmergRecord (hd : Hdr) (data : List Byte) (t : State) : t.outIn quiet (execEmergRecord hd data t) := by
  simp [execEmergRecord]
theorem State.outIn_execSnapPlan (hd : Hdr) (p : Pn) (step ival : Nat) (t : State) : t.outIn quiet (execSnapPlan hd p step ival t) := by
  simp [execSnapPlan]
@[simp] theorem State.onlyIn_snapSecured {p step : Nat} (h : [.parts, .fab, .rack] ⊆ l) :
    s.onlyIn (t.snapSecured p step) l ↔ s.onlyIn t l :=
  State.onlyIn_iff h (by simp [State.snapSecured])
@[simp] theorem State.onlyIn_snapAborted {p step : Nat} (h : [.cells, .parts, .funcs, .hostMem, .fab, .day, .daySeq] ⊆ l) :
    s.onlyIn (t.snapAborted p step) l ↔ s.onlyIn t l :=
  State.onlyIn_iff h (by simp [State.snapAborted])
@[simp] theorem State.onlyIn_abortStep {p step : Nat} (h : [.cells, .parts, .funcs, .hostMem, .fab, .day, .daySeq, .gctr] ⊆ l) :
    s.onlyIn (t.abortStep p step) l ↔ s.onlyIn t l :=
  State.onlyIn_iff h (by simp [State.abortStep])
@[simp] theorem State.onlyIn_memberDone {p node step : Nat} {ok : Bool} (h : [.cells, .parts, .funcs, .hostMem, .fab, .day, .daySeq, .rack,
    .gctr] ⊆ l) :
    s.onlyIn (t.memberDone p node step ok) l ↔ s.onlyIn t l :=
  State.onlyIn_iff h (by simp [State.memberDone])
@[simp] theorem State.onlyIn_tellDone {p : Nat} {ok : Bool} (h : [.cells, .parts, .funcs, .hostMem, .fab, .day, .daySeq, .rack, .gctr] ⊆ l)
    :
    s.onlyIn (t.tellDone p ok) l ↔ s.onlyIn t l :=
  State.onlyIn_iff h (by simp [State.tellDone])
@[simp] theorem State.onlyIn_endHalt {p : Nat} {ok : Bool} (h : [.cells, .parts, .funcs, .hostMem, .fab, .day, .daySeq, .rack, .gctr] ⊆ l) :
    s.onlyIn (t.endHalt p ok) l ↔ s.onlyIn t l :=
  State.onlyIn_iff h <| by
    unfold State.endHalt
    dsimp only
    (repeat' split) <;> simp
@[simp] theorem State.onlyIn_sendImage {p : Nat} (h : [.cells, .parts, .funcs, .recs, .hostMem, .fab, .day, .daySeq, .rack, .gctr] ⊆ l) :
    s.onlyIn (t.sendImage p) l ↔ s.onlyIn t l :=
  State.onlyIn_iff h <| by
    unfold State.sendImage
    extract_lets q tr xs ps n size u
    split
    · simp
    · have hu : t.onlyIn u [.cells, .parts, .funcs, .recs, .hostMem, .fab, .day, .daySeq, .rack, .gctr] := by simp [u]
      clear_value u
      refine (State.onlyIn_foldl_iff fun w i => ?_).2 hu
      simp
@[simp] theorem State.onlyIn_emergEnd (h : [.cells, .phys, .repair, .parts, .funcs, .recs, .hostMem, .fab, .dies, .groom, .day, .daySeq,
    .rack, .gctr] ⊆ l) :
    s.onlyIn t.emergEnd l ↔ s.onlyIn t l :=
  State.onlyIn_iff h (by simp [State.emergEnd])
@[simp] theorem State.onlyIn_emergPart {p : Nat} (h : [.cells, .phys, .repair, .parts, .funcs, .recs, .hostMem, .fab, .dies, .groom, .day,
    .daySeq, .rack, .gctr] ⊆ l) :
    s.onlyIn (t.emergPart p) l ↔ s.onlyIn t l :=
  State.onlyIn_iff h (by simp [State.emergPart])
@[simp] theorem State.onlyIn_emergBegin (h : [.cells, .parts, .rack] ⊆ l) : s.onlyIn t.emergBegin l ↔ s.onlyIn t l :=
  State.onlyIn_iff h (by simp [State.emergBegin])
theorem State.outIn_execQuiesceDone (p : Pn) (t : State) : t.outIn quiet (execQuiesceDone p t) := by
  simp [execQuiesceDone]
theorem State.outIn_execSnapStored (hd : Hdr) (p : Pn) (step : Nat) (ok : Bool) (t : State) :
    t.outIn quiet (execSnapStored hd p step ok t) := by
  simp [execSnapStored]
theorem State.outIn_execSnapDone (hd : Hdr) (p : Pn) (step : Nat) (ok : Bool) (t : State) :
    t.outIn quiet (execSnapDone hd p step ok t) := by
  simp [execSnapDone]
theorem State.outIn_execSnapLeaderTimeout (p : Pn) (t : State) : t.outIn quiet (execSnapLeaderTimeout p t) := by
  unfold execSnapLeaderTimeout
  dsimp only
  split <;> simp
theorem State.outIn_execSnapSecured (hd : Hdr) (p : Pn) (step : Nat) (t : State) : t.outIn quiet (execSnapSecured hd p step t) := by
  simp [execSnapSecured]
theorem State.outIn_execSnapAbort (hd : Hdr) (p : Pn) (step : Nat) (t : State) : t.outIn quiet (execSnapAbort hd p step t) := by
  simp [execSnapAbort]
theorem State.outIn_execSnapReq (hd : Hdr) (p : Pn) (_cause : Nat) (t : State) : t.outIn quiet (execSnapReq hd p _cause t) := by
  simp [execSnapReq]
theorem State.outIn_execSnapReqLapse (p : Pn) (t : State) : t.outIn quiet (execSnapReqLapse p t) := by
  unfold execSnapReqLapse
  split <;> simp

/-! #### Membership -/

@[simp] theorem State.onlyIn_stopParts {ps : List Nat} (h : [.cells, .parts, .funcs, .hostMem, .fab, .day, .daySeq] ⊆ l) :
    s.onlyIn (t.stopParts ps) l ↔ s.onlyIn t l :=
  State.onlyIn_iff h <| by
    unfold State.stopParts
    refine (State.onlyIn_foldl_iff fun u p => ?_).2 (t.onlyIn_refl _)
    simp
@[simp] theorem State.onlyIn_dropOut (h : [.cells, .parts, .funcs, .recs, .hostMem, .fab, .day, .daySeq] ⊆ l) :
    s.onlyIn t.dropOut l ↔ s.onlyIn t l :=
  State.onlyIn_iff h <| by
    unfold State.dropOut
    extract_lets gs u1 u2 up
    have h1 : t.onlyIn u1 [.cells, .parts, .funcs, .recs, .hostMem, .fab, .day, .daySeq] := (State.onlyIn_recs (by decide)).2
        (t.onlyIn_refl _)
    have h2 : t.onlyIn u2 [.cells, .parts, .funcs, .recs, .hostMem, .fab, .day, .daySeq] := by simp [u2, h1]
    simp [h2]
@[simp] theorem State.onlyIn_enterMinority (h : [.cells, .parts, .funcs, .hostMem, .fab, .day, .daySeq, .gctr] ⊆ l) :
    s.onlyIn t.enterMinority l ↔ s.onlyIn t l :=
  State.onlyIn_iff h (by simp [State.enterMinority])
@[simp] theorem State.onlyIn_chooseGrand {announced : Nat} (h : [.fab] ⊆ l) : s.onlyIn (t.chooseGrand announced) l ↔ s.onlyIn t l :=
  State.onlyIn_iff h (by simp [State.chooseGrand])
@[simp] theorem State.onlyIn_tryJoin (h : [.fab] ⊆ l) : s.onlyIn t.tryJoin l ↔ s.onlyIn t l :=
  State.onlyIn_iff h <| by
    unfold State.tryJoin
    split <;> simp
theorem State.outIn_execJoinLockTimeout (t : State) : t.outIn quiet (execJoinLockTimeout t) := by
  unfold execJoinLockTimeout
  split <;> simp
@[simp] theorem State.onlyIn_formSystem {n : Nat} (h : [.parts, .fab, .day, .daySeq, .gctr] ⊆ l) :
    s.onlyIn (t.formSystem n) l ↔ s.onlyIn t l :=
  State.onlyIn_iff h (by simp [State.formSystem])
@[simp] theorem State.onlyIn_leftBehind (h : [.cells, .parts, .funcs, .recs, .hostMem, .fab, .day, .daySeq, .gctr] ⊆ l) :
    s.onlyIn t.leftBehind l ↔ s.onlyIn t l :=
  State.onlyIn_iff h (by simp [State.leftBehind])
@[simp] theorem State.onlyIn_portUp {k : Nat} (h : [.cells, .parts, .funcs, .recs, .hostMem, .fab, .day, .daySeq, .gctr] ⊆ l) :
    s.onlyIn (t.portUp k) l ↔ s.onlyIn t l :=
  State.onlyIn_iff h (by simp [State.portUp])
@[simp] theorem State.onlyIn_refusePort {k cause : Nat} {m : HelloMsg} (h : [.fab, .day, .daySeq, .gctr] ⊆ l) :
    s.onlyIn (t.refusePort k cause m) l ↔ s.onlyIn t l :=
  State.onlyIn_iff h (by simp [State.refusePort])
theorem State.outIn_execHello (pt : PortN) (m : HelloMsg) (t : State) : t.outIn quiet (execHello pt m t) := by
  simp [execHello]
theorem State.outIn_execHelloAck (pt : PortN) (_m : HelloMsg) (t : State) : t.outIn quiet (execHelloAck pt _m t) := by
  simp [execHelloAck]
@[simp] theorem State.onlyIn_endGroupWork (h : [.cells, .funcs, .hostMem, .fab, .day, .daySeq] ⊆ l) :
    s.onlyIn t.endGroupWork l ↔ s.onlyIn t l :=
  State.onlyIn_iff h <| by
    unfold State.endGroupWork
    extract_lets u
    have hu : t.onlyIn u [.cells, .funcs, .hostMem, .fab, .day, .daySeq] := by
      refine (State.onlyIn_eachN fun w c => ?_).2 (t.onlyIn_refl _)
      dsimp only
      (repeat' split) <;> simp
    simp [hu]
@[simp] theorem State.onlyIn_suspendGroups {gone : List Nat} {dark : List (Nat × Nat)} (h : [.fab] ⊆ l) :
    s.onlyIn (t.suspendGroups gone dark) l ↔ s.onlyIn t l :=
  State.onlyIn_iff h (by simp [State.suspendGroups])
@[simp] theorem State.onlyIn_partnersLost {gone : List Nat} (h : [.cells, .funcs, .hostMem, .day, .daySeq] ⊆ l) :
    s.onlyIn (t.partnersLost gone) l ↔ s.onlyIn t l :=
  State.onlyIn_iff h <| by
    unfold State.partnersLost
    refine (State.onlyIn_eachN fun w c => ?_).2 (t.onlyIn_refl _)
    dsimp only
    (repeat' split) <;> simp
@[simp] theorem State.onlyIn_recover {gone : List Nat} {dark : List (Nat × Nat)} {remountGone : Bool} (h : [.cells, .parts, .funcs, .recs,
    .hostMem, .fab, .day, .daySeq] ⊆ l) :
    s.onlyIn (t.recover gone dark remountGone) l ↔ s.onlyIn t l :=
  State.onlyIn_iff h (by simp [State.recover])
@[simp] theorem State.onlyIn_playHeld (h : [.cells, .phys, .parts, .funcs, .mem, .hostMem, .fab, .day, .daySeq, .gctr] ⊆ l) :
    s.onlyIn t.playHeld l ↔ s.onlyIn t l :=
  State.onlyIn_iff h <| by
    unfold State.playHeld
    refine (State.onlyIn_foldl_iff fun u e => ?_).2 (t.onlyIn_refl _)
    extract_lets v
    split
    · simp [v]
    · refine Iff.trans (State.onlyIn_foldl_iff fun w m => ?_) (by simp [v])
      (repeat' split) <;> simp
@[simp] theorem State.onlyIn_noteLoss {gone : List Nat} (h : [.parts] ⊆ l) : s.onlyIn (t.noteLoss gone) l ↔ s.onlyIn t l :=
  State.onlyIn_iff h <| by
    unfold State.noteLoss
    refine (State.onlyIn_foldl_iff fun u p => ?_).2 (t.onlyIn_refl _)
    dsimp only
    (repeat' split) <;> simp
@[simp] theorem State.onlyIn_applyEpoch {e : Nat} {chg : List Change} (h : [.cells, .phys, .repair, .parts, .funcs, .recs, .mem, .hostMem,
    .fab, .groom, .day, .daySeq, .rack, .gctr] ⊆ l) :
    s.onlyIn (t.applyEpoch e chg) l ↔ s.onlyIn t l :=
  State.onlyIn_iff h (by simp [State.applyEpoch])
@[simp] theorem State.onlyIn_tryCommit (h : [.cells, .phys, .repair, .parts, .funcs, .recs, .mem, .hostMem, .fab, .groom, .day, .daySeq,
    .rack, .gctr] ⊆ l) :
    s.onlyIn t.tryCommit l ↔ s.onlyIn t l :=
  State.onlyIn_iff h <| by
    unfold State.tryCommit
    split <;> simp
@[simp] theorem State.onlyIn_sendProposal {chg : List Change} (h : [.cells, .phys, .repair, .parts, .funcs, .recs, .mem, .hostMem, .fab,
    .groom, .day, .daySeq, .rack, .gctr] ⊆ l) :
    s.onlyIn (t.sendProposal chg) l ↔ s.onlyIn t l :=
  State.onlyIn_iff h (by simp [State.sendProposal])
@[simp] theorem State.onlyIn_propose (h : [.cells, .phys, .repair, .parts, .funcs, .recs, .mem, .hostMem, .fab, .groom, .day, .daySeq,
    .rack, .gctr] ⊆ l) :
    s.onlyIn t.propose l ↔ s.onlyIn t l :=
  State.onlyIn_iff h <| by
    unfold State.propose
    dsimp only
    (repeat' split) <;> simp
@[simp] theorem State.onlyIn_commitEpoch {e : Nat} {chg : List Change} (h : [.cells, .phys, .repair, .parts, .funcs, .recs, .mem, .hostMem,
    .fab, .groom, .day, .daySeq, .rack, .gctr] ⊆ l) :
    s.onlyIn (t.commitEpoch e chg) l ↔ s.onlyIn t l :=
  State.onlyIn_iff h (by simp [State.commitEpoch])
@[simp] theorem State.onlyIn_declare {n : Nat} (h : [.fab] ⊆ l) : s.onlyIn (t.declare n) l ↔ s.onlyIn t l :=
  State.onlyIn_iff h (by simp [State.declare])
theorem State.outIn_execPing (hd : Hdr) (t : State) : t.outIn quiet (execPing hd t) := by
  simp [execPing]
theorem State.outIn_execPong (hd : Hdr) (t : State) : t.outIn quiet (execPong hd t) := by
  simp [execPong]
theorem State.outIn_execPingTimer (t : State) : t.outIn quiet (execPingTimer t) := by
  simp [execPingTimer]
theorem State.outIn_execLossTimeout (n : Nat) (t : State) : t.outIn quiet (execLossTimeout n t) := by
  unfold execLossTimeout
  dsimp only
  (repeat' split) <;> simp
theorem State.outIn_execSuspect (hd : Hdr) (n : Nat) (t : State) : t.outIn quiet (execSuspect hd n t) := by
  simp [execSuspect]
theorem State.outIn_execSuspectGatherEnd (t : State) : t.outIn allBut (execSuspectGatherEnd t) := by
  unfold execSuspectGatherEnd
  split <;> simp
theorem State.outIn_execCoordinatorLost (t : State) : t.outIn quiet (execCoordinatorLost t) := by
  unfold execCoordinatorLost
  dsimp only
  (repeat' split) <;> simp
theorem State.outIn_execEpochPropose (hd : Hdr) (e : Nat) (chg : List Change) (t : State) :
    t.outIn quiet (execEpochPropose hd e chg t) := by
  simp [execEpochPropose]
theorem State.outIn_execDeferredAckTest (t : State) : t.outIn allBut (execDeferredAckTest t) := by
  unfold execDeferredAckTest
  dsimp only
  (repeat' split) <;> simp
theorem State.outIn_execEpochAck (hd : Hdr) (e : Nat) (t : State) : t.outIn allBut (execEpochAck hd e t) := by
  unfold execEpochAck
  rw [State.outIn_receive (by simp)]
  intro _ _
  (repeat' split) <;> simp
theorem State.outIn_execImmediateAckTimeout (t : State) : t.outIn quiet (execImmediateAckTimeout t) := by
  unfold execImmediateAckTimeout
  split <;> simp
theorem State.outIn_execEpochCommit (hd : Hdr) (e : Nat) (chg : List Change) (t : State) : t.outIn allBut (execEpochCommit hd e chg t) := by
  simp [execEpochCommit]
theorem State.outIn_execJoinReq (hd : Hdr) (lo hi : Nat) (t : State) : t.outIn allBut (execJoinReq hd lo hi t) := by
  simp [execJoinReq]
theorem State.outIn_execLeaveReq (hd : Hdr) (urgent : Bool) (t : State) : t.outIn allBut (execLeaveReq hd urgent t) := by
  simp [execLeaveReq]

/-! #### Power -/

@[simp] theorem State.onlyIn_dropMain (h : [.cells, .phys, .parts, .mem, .badMem, .fab, .dies, .pow, .boot, .rack, .gctr] ⊆ l) :
    s.onlyIn t.dropMain l ↔ s.onlyIn t l :=
  State.onlyIn_iff h <| by
    unfold State.dropMain
    intro a ha
    cases a <;> first | exact absurd (by decide) ha | rfl
@[simp] theorem State.onlyIn_askService {arg : Nat} (h : [.groom] ⊆ l) : s.onlyIn (t.askService arg) l ↔ s.onlyIn t l :=
  State.onlyIn_iff h (by simp [State.askService])
@[simp] theorem State.onlyIn_powerFault {cause unit : Nat} (h : [.cells, .parts, .funcs, .recs, .hostMem, .fab, .boot, .groom, .day,
    .daySeq] ⊆ l) :
    s.onlyIn (t.powerFault cause unit) l ↔ s.onlyIn t l :=
  State.onlyIn_iff h (by simp [State.powerFault])
theorem State.outIn_execGovSample (vin iin : Nat) (t : State) : t.outIn quiet (execGovSample vin iin t) := by
  simp [execGovSample]
@[simp] theorem State.onlyIn_stallEdge (h : [.cells] ⊆ l) : s.onlyIn t.stallEdge l ↔ s.onlyIn t l :=
  State.onlyIn_iff h (by simp [State.stallEdge])
theorem State.outIn_execGovWindow (t : State) : t.outIn quiet (execGovWindow t) := by
  simp [execGovWindow]
theorem State.outIn_execGovCeilingRaise (t : State) : t.outIn quiet (execGovCeilingRaise t) := by
  simp [execGovCeilingRaise]
theorem State.outIn_execOvercurrentStall (iin : Nat) (t : State) : t.outIn quiet (execOvercurrentStall iin t) := by
  simp [execOvercurrentStall]
theorem State.outIn_execOvercurrentRelease (iin : Nat) (t : State) : t.outIn quiet (execOvercurrentRelease iin t) := by
  simp [execOvercurrentRelease]
theorem State.outIn_execInputOvervoltage (vin : Nat) (t : State) : t.outIn allBut (execInputOvervoltage vin t) := by
  simp [execInputOvervoltage]
theorem State.outIn_execInputOvWarn (vin : Nat) (t : State) : t.outIn quiet (execInputOvWarn vin t) := by
  simp [execInputOvWarn]
theorem State.outIn_execInputUndervoltage (vin : Nat) (t : State) : t.outIn quiet (execInputUndervoltage vin t) := by
  simp [execInputUndervoltage]
theorem State.outIn_execPowerFailHold (vin : Nat) (t : State) : t.outIn quiet (execPowerFailHold vin t) := by
  simp [execPowerFailHold]
theorem State.outIn_execPowerFailRelease (vin : Nat) (t : State) : t.outIn quiet (execPowerFailRelease vin t) := by
  unfold execPowerFailRelease
  extract_lets u
  split
  · simp
  · exact (State.onlyIn_cells (by decide)).2 (by simp [u])
theorem State.outIn_execInputCollapse (vin : Nat) (t : State) : t.outIn allBut (execInputCollapse vin t) := by
  simp [execInputCollapse]
@[simp] theorem State.onlyIn_bridgeRails {r mv : Nat} (h : [.cells, .phys] ⊆ l) : s.onlyIn (t.bridgeRails r mv) l ↔ s.onlyIn t l :=
  State.onlyIn_iff h <| by
    unfold State.bridgeRails
    refine (State.onlyIn_foldl_iff fun u n => ?_).2 (t.onlyIn_refl _)
    dsimp only
    (repeat' split) <;> simp
@[simp] theorem State.onlyIn_settleRail {r : Nat} (h : [.phys] ⊆ l) : s.onlyIn (t.settleRail r) l ↔ s.onlyIn t l :=
  State.onlyIn_iff h (by simp [State.settleRail])
theorem State.outIn_execGaitChange (r : Rid) (g : Fin 4) (t : State) : t.outIn quiet (execGaitChange r g t) := by
  unfold execGaitChange
  dsimp only
  (repeat' split) <;> simp
theorem State.outIn_execGaitClockSwitch (r : Rid) (t : State) : t.outIn quiet (execGaitClockSwitch r t) := by
  simp [execGaitClockSwitch]
@[simp] theorem State.onlyIn_countR {r ev n : Nat} (h : [.cells] ⊆ l) : s.onlyIn (t.countR r ev n) l ↔ s.onlyIn t l :=
  State.onlyIn_iff h <| by
    unfold State.countR
    split <;> simp
theorem State.outIn_execDroopStretch (r : Rid) (mv : Nat) (t : State) : t.outIn quiet (execDroopStretch r mv t) := by
  simp [execDroopStretch]
theorem State.outIn_execDroopDerate (r : Rid) (t : State) : t.outIn quiet (execDroopDerate r t) := by
  simp [execDroopDerate]
theorem State.outIn_execDroopDerateEnd (r : Rid) (t : State) : t.outIn quiet (execDroopDerateEnd r t) := by
  simp [execDroopDerateEnd]
theorem State.outIn_execTempSplit (hot cold : Nat) (diff : Int) (t : State) : t.outIn quiet (execTempSplit hot cold diff t) := by
  simp [execTempSplit]
theorem State.outIn_execTempSplitClear (r : Rid) (diff : Int) (t : State) : t.outIn quiet (execTempSplitClear r diff t) := by
  simp [execTempSplitClear]
@[simp] theorem State.onlyIn_bridgeFail {d e : Nat} (h : [.fab, .boot, .groom, .day, .daySeq] ⊆ l) :
    s.onlyIn (t.bridgeFail d e) l ↔ s.onlyIn t l :=
  State.onlyIn_iff h (by simp [State.bridgeFail])
theorem State.outIn_execBridgeFail (d : DieN) (e : Fin 2) (t : State) : t.outIn quiet (execBridgeFail d e t) := by
  simp [execBridgeFail]
@[simp] theorem State.onlyIn_markHealth {d pr k : Nat} (h : [.recs, .groom] ⊆ l) : s.onlyIn (t.markHealth d pr k) l ↔ s.onlyIn t l :=
  State.onlyIn_iff h (by simp [State.markHealth])
@[simp] theorem State.onlyIn_regionDark {r : Nat} (h : [.cells, .phys, .parts, .funcs, .recs, .hostMem, .fab, .groom, .day, .daySeq, .gctr]
    ⊆ l) :
    s.onlyIn (t.regionDark r) l ↔ s.onlyIn t l :=
  State.onlyIn_iff h <| by
    unfold State.regionDark
    repeat' split <;> simp
@[simp] theorem State.onlyIn_pairLost {d pr : Nat} (h : [.cells, .phys, .parts, .funcs, .recs, .hostMem, .fab, .boot, .groom, .day,
    .daySeq, .gctr] ⊆ l) :
    s.onlyIn (t.pairLost d pr) l ↔ s.onlyIn t l :=
  State.onlyIn_iff h (by simp [State.pairLost])
theorem State.outIn_execRegulatorFail (d : DieN) (pr : Fin 304) (b : Bool) (why : Nat) (t : State) :
    t.outIn quiet (execRegulatorFail d pr b why t) := by
  simp [execRegulatorFail]
theorem State.outIn_execSenseFault (d : DieN) (pr : Fin 304) (mv : Nat) (t : State) : t.outIn quiet (execSenseFault d pr mv t) := by
  simp [execSenseFault]
theorem State.outIn_execJointSample (d : DieN) (pr : Fin 304) (vout vsense : Int) (i : Nat) (t : State) :
    t.outIn quiet (execJointSample d pr vout vsense i t) := by
  simp [execJointSample]
theorem State.outIn_execJointFault (d : DieN) (pr : Fin 304) (fail : Bool) (t : State) : t.outIn quiet (execJointFault d pr fail t) := by
  unfold execJointFault
  repeat' split <;> simp
theorem State.outIn_execVcFail (d : DieN) (z : Fin 4) (amps : Nat) (t : State) : t.outIn quiet (execVcFail d z amps t) := by
  simp [execVcFail]
theorem State.outIn_execMemoryConverterFail (k : Fin 16) (t : State) : t.outIn allBut (execMemoryConverterFail k t) := by
  unfold execMemoryConverterFail
  extract_lets gone u
  have hu : t.onlyIn { u with mem := u.mem.filter (fun e => !gone e.1) } allBut :=
    (State.onlyIn_mem (by decide)).2 (by simp [u])
  split
  · simp
  · simp [hu]
theorem State.outIn_execAuxConverterFail (k : Fin 2) (t : State) : t.outIn quiet (execAuxConverterFail k t) := by
  simp [execAuxConverterFail]
theorem State.outIn_execRegionLeaveOn (r : Rid) (t : State) : t.outIn quiet (execRegionLeaveOn r t) := by
  unfold execRegionLeaveOn
  repeat' split <;> simp
@[simp] theorem State.onlyIn_regionUp {r : Nat} (h : [.cells, .phys, .repair, .recs, .groom, .day, .daySeq] ⊆ l) :
    s.onlyIn (t.regionUp r) l ↔ s.onlyIn t l :=
  State.onlyIn_iff h <| by
    unfold State.regionUp
    dsimp only
    split <;> simp
theorem State.outIn_execRegionSwitchOn (r : Rid) (neigh zone : Nat) (t : State) : t.outIn quiet (execRegionSwitchOn r neigh zone t) := by
  simp [execRegionSwitchOn]
theorem State.outIn_execSwitchOnStage (r : Rid) (seg : Nat) (t : State) : t.outIn quiet (execSwitchOnStage r seg t) := by
  simp [execSwitchOnStage]
theorem State.outIn_execSwitchOnFault (r : Rid) (t : State) : t.outIn quiet (execSwitchOnFault r t) := by
  simp [execSwitchOnFault]

/-! #### Sensing -/

@[simp] theorem State.onlyIn_nextConv {d k ch : Nat} (h : [.dies] ⊆ l) : s.onlyIn (t.nextConv d k ch) l ↔ s.onlyIn t l :=
  State.onlyIn_iff h <| by
    unfold State.nextConv
    generalize 1025 = n1
    generalize 1024 = n2
    extract_lets di part mine inBurst u di2 set
    have hu : t.onlyIn u [.dies] := by
      clear_value inBurst mine part
      unfold u
      split
      · rw [State.onlyIn_ite]
        split <;> simp
      · exact t.onlyIn_refl _
    have hs : ∀ v, t.onlyIn (set v) [.dies] := fun v => (State.onlyIn_modDie (by decide)).2 hu
    clear_value set
    (repeat' split) <;> exact hs _
@[simp] theorem State.onlyIn_regionReads {r : Nat} {v : Int} (h : [.phys, .dies] ⊆ l) : s.onlyIn (t.regionReads r v) l ↔ s.onlyIn t l :=
  State.onlyIn_iff h (by simp [State.regionReads])
@[simp] theorem State.onlyIn_sensorReads {d y : Nat} {v : Int} (h : [.phys, .dies] ⊆ l) : s.onlyIn (t.sensorReads d y v) l ↔ s.onlyIn t l :=
  State.onlyIn_iff h (by simp [State.sensorReads])
theorem State.outIn_execMonConversion (d : DieN) (ch : Fin 512) (q : Fin 3) (raw : BitVec 12) (src : Fin 4) (t : State) :
    t.outIn quiet (execMonConversion d ch q raw src t) := by
  simp [execMonConversion]
theorem State.outIn_execMonBurstTrigger (p : Pn) (d : DieN) (t : State) : t.outIn quiet (execMonBurstTrigger p d t) := by
  simp [execMonBurstTrigger]
theorem State.outIn_execMonUrgent (d : DieN) (ch : Fin 512) (t : State) : t.outIn quiet (execMonUrgent d ch t) := by
  simp [execMonUrgent]
theorem State.outIn_execRefinFault (d : DieN) (t : State) : t.outIn quiet (execRefinFault d t) := by
  simp [execRefinFault]
theorem State.outIn_execRefinFaultClear (d : DieN) (t : State) : t.outIn quiet (execRefinFaultClear d t) := by
  simp [execRefinFaultClear]
theorem State.outIn_execSensorFail (d : DieN) (y : Fin 64) (t : State) : t.outIn quiet (execSensorFail d y t) := by
  simp [execSensorFail]
theorem State.outIn_execMonitorSelfCal (d : DieN) (k : Fin 16) (ok : Bool) (t : State) : t.outIn quiet (execMonitorSelfCal d k ok t) := by
  simp [execMonitorSelfCal]
theorem State.outIn_execThermalTrip (d : DieN) (y : Fin 64) (t : State) : t.outIn allBut (execThermalTrip d y t) := by
  simp [execThermalTrip]
theorem State.outIn_execPolicyEngineWindow (conf : List (Nat × Nat × Nat)) (gaits : List (Nat × Nat)) (t : State) :
    t.outIn quiet (execPolicyEngineWindow conf gaits t) := by
  unfold execPolicyEngineWindow
  extract_lets u
  have hu : t.onlyIn u quiet := by
    refine (State.onlyIn_foldl_iff fun w e => ?_).2 (t.onlyIn_refl _)
    (repeat' split) <;> simp
  refine (State.onlyIn_foldl_iff fun w e => ?_).2 hu
  (repeat' split) <;> simp

/-! #### Boot -/

@[simp] theorem State.onlyIn_beginStage {n : Nat} (h : [.boot, .day, .daySeq] ⊆ l) : s.onlyIn (t.beginStage n) l ↔ s.onlyIn t l :=
  State.onlyIn_iff h (by simp [State.beginStage])
@[simp] theorem State.onlyIn_holdBoot {cause : Nat} (h : [.boot, .groom, .day, .daySeq] ⊆ l) :
    s.onlyIn (t.holdBoot cause) l ↔ s.onlyIn t l :=
  State.onlyIn_iff h (by simp [State.holdBoot])
@[simp] theorem State.onlyIn_askPowerCycle {cause : Nat} (h : [.groom, .day, .daySeq] ⊆ l) :
    s.onlyIn (t.askPowerCycle cause) l ↔ s.onlyIn t l :=
  State.onlyIn_iff h (by simp [State.askPowerCycle])
theorem State.outIn_execInputRise (t : State) : t.outIn quiet (execInputRise t) := by
  simp [execInputRise, ↓State.onlyIn_time]
@[simp] theorem State.onlyIn_powerOff (h : [.cells, .phys, .repair, .parts, .funcs, .recs, .mem, .badMem, .fab, .dies, .pow, .boot, .hif,
    .groom, .day, .daySeq, .rack, .gctr, .time] ⊆ l) :
    s.onlyIn t.powerOff l ↔ s.onlyIn t l :=
  State.onlyIn_iff h <| by
    unfold State.powerOff
    intro a ha
    cases a <;> first | exact absurd (by decide) ha | rfl
theorem State.outIn_execAuxiliaryRailLoss (t : State) : t.outIn allBut (execAuxiliaryRailLoss t) := by
  unfold execAuxiliaryRailLoss
  split <;> simp
@[simp] theorem State.onlyIn_loadHealth {d : Nat} (h : [.phys, .dies] ⊆ l) : s.onlyIn (t.loadHealth d) l ↔ s.onlyIn t l :=
  State.onlyIn_iff h <| by
    unfold State.loadHealth
    split <;> simp
@[simp] theorem State.onlyIn_loadRepair (h : [.cells, .phys, .repair] ⊆ l) : s.onlyIn t.loadRepair l ↔ s.onlyIn t l :=
  State.onlyIn_iff h <| by
    simp [State.loadRepair, ↓State.onlyIn_repair]
@[simp] theorem State.onlyIn_loadCal {r : Nat} (h : [.phys, .dies, .day, .daySeq] ⊆ l) : s.onlyIn (t.loadCal r) l ↔ s.onlyIn t l :=
  State.onlyIn_iff h <| by
    unfold State.loadCal
    split <;> simp
@[simp] theorem State.onlyIn_recordsInForce (h : [.parts, .fab, .pow, .hif] ⊆ l) : s.onlyIn t.recordsInForce l ↔ s.onlyIn t l :=
  State.onlyIn_iff h (by simp [State.recordsInForce])
@[simp] theorem State.onlyIn_loadRecords (h : [.cells, .phys, .repair, .parts, .recs, .fab, .dies, .pow, .hif, .groom, .day, .daySeq] ⊆ l) :
    s.onlyIn t.loadRecords l ↔ s.onlyIn t l :=
  State.onlyIn_iff h <| by
    unfold State.loadRecords
    extract_lets u1 u2 u3 u4 u5 full u6 u7
    have h2 : t.onlyIn u2 [.cells, .phys, .repair, .parts, .recs, .fab, .dies, .pow, .hif, .groom, .day, .daySeq] := by simp [u2, u1]
    have h3 : t.onlyIn u3 [.cells, .phys, .repair, .parts, .recs, .fab, .dies, .pow, .hif, .groom, .day, .daySeq] :=
      (State.onlyIn_recs (by decide)).2 h2
    have h5 : t.onlyIn u5 [.cells, .phys, .repair, .parts, .recs, .fab, .dies, .pow, .hif, .groom, .day, .daySeq] := by simp [u5, u4, h3]
    have h6 : t.onlyIn u6 [.cells, .phys, .repair, .parts, .recs, .fab, .dies, .pow, .hif, .groom, .day, .daySeq] := by
      refine (State.onlyIn_foldl_iff fun w e => State.onlyIn_foldl_iff fun v x => ?_).2 h5
      clear_value full
      simp
    clear_value u6
    simp [u7, h6]
theorem State.outIn_execTackStoreWrite (t : State) : t.outIn quiet (execTackStoreWrite t) := by
  unfold execTackStoreWrite
  split
  · simp
  · split
    · simp
    · extract_lets p ty y seqA seqB e y2
      simp only [State.outIn_next]
      refine (State.onlyIn_modGroom (by decide)).2 ?_
      exact (State.onlyIn_store (by decide)).2 (t.onlyIn_refl _)
@[simp] theorem State.onlyIn_becomeReady (h : [.funcs, .recs, .hostMem, .fab, .boot, .groom, .day, .daySeq] ⊆ l) :
    s.onlyIn t.becomeReady l ↔ s.onlyIn t l :=
  State.onlyIn_iff h (by simp [State.becomeReady])
@[simp] theorem State.onlyIn_enterStage {n : Nat} (h : [.phys, .boot, .groom, .day, .daySeq] ⊆ l) :
    s.onlyIn (t.enterStage n) l ↔ s.onlyIn t l :=
  State.onlyIn_iff h (by simp [State.enterStage])
theorem State.stageWork_only {s t : State} (h : s.stageWork = some t) :
    s.onlyIn t [.cells, .phys, .repair, .parts, .funcs, .recs, .mem, .badMem, .hostMem, .fab, .dies, .pow, .boot, .hif, .groom, .day,
        .daySeq] := by
  unfold State.stageWork at h
  generalize hw : s.boot.stage = n at h
  extract_lets u5 u5' u6 u7 at h
  have h5 : s.onlyIn u5' [.cells, .phys, .repair, .parts, .funcs, .recs, .mem, .badMem, .hostMem, .fab, .dies, .pow, .boot, .hif, .groom,
      .day, .daySeq] := by simp [u5', u5]
  have h6 : s.onlyIn u6 [.cells, .phys, .repair, .parts, .funcs, .recs, .mem, .badMem, .hostMem, .fab, .dies, .pow, .boot, .hif, .groom,
      .day, .daySeq] := by
    refine (State.onlyIn_foldl_iff fun w d => State.onlyIn_foldl_iff fun w k => ?_).2 (s.onlyIn_refl _)
    dsimp only
    split <;> simp
  have h7 : s.onlyIn u7 [.cells, .phys, .repair, .parts, .funcs, .recs, .mem, .badMem, .hostMem, .fab, .dies, .pow, .boot, .hif, .groom,
      .day, .daySeq] := by
    intro a ha
    cases a <;> first | exact absurd (by decide) ha | rfl
  clear_value u5' u6 u7
  split at h
  · split at h
    · obtain rfl := Option.some.inj h; simp
    · cases h
  · split at h
    · cases h
    · obtain rfl := Option.some.inj h; simp
  · obtain rfl := Option.some.inj h; simp [h5]
  · obtain rfl := Option.some.inj h; simp [h6]
  · obtain rfl := Option.some.inj h
    rw [State.onlyIn_ite]
    split
    · exact h7
    · refine (State.onlyIn_foldl_iff fun w e => State.onlyIn_foldl_iff fun v x => ?_).2 h7
      simp
  · obtain rfl := Option.some.inj h; simp
theorem State.outIn_execBootStageComplete (ok : Bool) (t : State) : t.outIn allBut (execBootStageComplete ok t) := by
  unfold execBootStageComplete
  dsimp only
  split
  · simp
  · split
    · split
      · exact (State.onlyIn_modBoot (by decide)).2 ((State.onlyIn_pow (by decide)).2 (t.onlyIn_refl _))
      · split <;> simp
      · split <;> simp
      · simp
    · split
      · simp
      next u hu =>
        have hu' : t.onlyIn u allBut := (State.stageWork_only hu).mono (by decide)
        (repeat' split) <;> simp [hu']
theorem State.outIn_execBootStageTimeout (t : State) : t.outIn quiet (execBootStageTimeout t) := by
  simp [execBootStageTimeout]
@[simp] theorem State.onlyIn_beginModuleReset {who : Nat} (h : [.cells, .parts, .funcs, .hostMem, .dies, .boot, .day, .daySeq, .gctr] ⊆ l) :
    s.onlyIn (t.beginModuleReset who) l ↔ s.onlyIn t l :=
  State.onlyIn_iff h (by simp [State.beginModuleReset])
@[simp] theorem State.onlyIn_askModuleReset {who : Nat} (h : [.cells, .parts, .funcs, .hostMem, .dies, .boot, .day, .daySeq, .gctr] ⊆ l) :
    s.onlyIn (t.askModuleReset who) l ↔ s.onlyIn t l :=
  State.onlyIn_iff h (by simp [State.askModuleReset])
@[simp] theorem State.onlyIn_dropModule (h : [.cells, .parts, .funcs, .recs, .hostMem, .fab, .dies, .hif, .day, .daySeq, .gctr] ⊆ l) :
    s.onlyIn t.dropModule l ↔ s.onlyIn t l :=
  State.onlyIn_iff h <| by
    unfold State.dropModule
    extract_lets u1 u2 u3
    have h2 : t.onlyIn u2 [.cells, .parts, .funcs, .recs, .hostMem, .fab, .dies, .hif, .day, .daySeq, .gctr] := by simp [u2, u1]
    have h3 : t.onlyIn u3 [.cells, .parts, .funcs, .recs, .hostMem, .fab, .dies, .hif, .day, .daySeq, .gctr] :=
      (State.onlyIn_recs (by decide)).2 h2
    clear_value u3
    refine h3.trans ?_
    intro a ha
    cases a <;> first | exact absurd (by decide) ha | rfl
theorem State.outIn_execModuleResetStage (t : State) : t.outIn quiet (execModuleResetStage t) := by
  unfold execModuleResetStage
  split
  · split <;> simp
  · split <;> simp
  · split
    · simp
    · extract_lets old u1 u2
      have h1 : t.onlyIn u1 quiet := by simp [u1]
      have h2 : t.onlyIn u2 quiet := (State.onlyIn_recs (by decide)).2 h1
      simp [h2]
  all_goals simp
theorem State.outIn_execModuleResetOverrun (t : State) : t.outIn quiet (execModuleResetOverrun t) := by
  simp [execModuleResetOverrun]
theorem State.outIn_execModuleReset (fn : Pn) (v : Nat) (t : State) : t.outIn quiet (execModuleReset fn v t) := by
  simp [execModuleReset]
theorem State.outIn_execPwrCycleReq (fn : Pn) (v : Nat) (t : State) : t.outIn quiet (execPwrCycleReq fn v t) := by
  simp [execPwrCycleReq]
theorem State.outIn_execPcieHotReset (t : State) : t.outIn quiet (execPcieHotReset t) := by
  simp [execPcieHotReset]
theorem State.outIn_execSupervisorExpiry (t : State) : t.outIn quiet (execSupervisorExpiry t) := by
  simp [execSupervisorExpiry]

/-! #### Fabric -/

theorem State.outIn_execTimeSync (pt : PortN) (hd : Hdr) (t1 grand : Nat) (ftStep : Option (Nat × Nat)) (t : State) :
    t.outIn quiet (execTimeSync pt hd t1 grand ftStep t) := by
  unfold execTimeSync
  split <;> simp
@[simp] theorem State.onlyIn_discipline {off : Int} (h : [.fab, .day, .daySeq, .time] ⊆ l) : s.onlyIn (t.discipline off) l ↔ s.onlyIn t l :=
  State.onlyIn_iff h <| by
    simp [State.discipline, ↓State.onlyIn_time]
theorem State.outIn_execTimeReply (pt : PortN) (hd : Hdr) (t1 t2 t3 : Nat) (t : State) :
    t.outIn quiet (execTimeReply pt hd t1 t2 t3 t) := by
  simp [execTimeReply]
theorem State.outIn_execTimeSyncTimer (t : State) : t.outIn quiet (execTimeSyncTimer t) := by
  simp [execTimeSyncTimer]
theorem State.outIn_execFtimeSet (fn : Pn) (v : Nat) (t : State) : t.outIn quiet (execFtimeSet fn v t) := by
  simp [execFtimeSet]
@[simp] theorem State.onlyIn_skipDumps {old new : Nat} (h : [.parts, .gctr] ⊆ l) : s.onlyIn (t.skipDumps old new) l ↔ s.onlyIn t l :=
  State.onlyIn_iff h (by simp [State.skipDumps])
theorem State.outIn_execFtimeStep (t : State) : t.outIn quiet (execFtimeStep t) := by
  unfold execFtimeStep
  split
  · simp
  · split
    · simp
    · extract_lets u
      have hu : t.onlyIn u quiet := by simp [u]
      split
      · simp [hu]
      · rw [State.outIn_next, State.onlyIn_skipDumps (by simp)]
        exact (State.onlyIn_time (by decide)).2 hu
theorem State.outIn_execPpsInEdge (t : State) : t.outIn quiet (execPpsInEdge t) := by
  unfold execPpsInEdge
  dsimp only
  (repeat' split) <;> simp
theorem State.outIn_execPpsOutSecond (t : State) : t.outIn quiet (execPpsOutSecond t) := by
  simp [execPpsOutSecond]
@[simp] theorem State.onlyIn_landPacket {hd : Hdr} {m : DataMsg} {j : Nat} {r : Msg} (h : [.cells, .parts, .funcs, .mem, .hostMem, .fab,
    .day, .daySeq] ⊆ l) :
    s.onlyIn (t.landPacket hd m j r) l ↔ s.onlyIn t l :=
  State.onlyIn_iff h (by simp [State.landPacket])
theorem State.outIn_execData (hd : Hdr) (m : DataMsg) (t : State) : t.outIn allBut (execData hd m t) := by
  unfold execData
  rw [State.outIn_receive (by simp)]
  intro _ _
  generalize 2 ^ 32 = n1
  generalize 2 ^ 31 = n2
  dsimp only
  split
  · split
    · simp
    · split <;> simp
  · split <;> simp
theorem State.outIn_execE2eAck (hd : Hdr) (flow seq : Nat) (bad : Bool) (t : State) : t.outIn quiet (execE2eAck hd flow seq bad t) := by
  unfold execE2eAck
  rw [State.outIn_receive (by simp)]
  intro _ _
  dsimp only
  (repeat' split) <;> simp
theorem State.outIn_execE2eResend (c : Cid) (i : Nat) (t : State) : t.outIn quiet (execE2eResend c i t) := by
  unfold execE2eResend
  split <;> simp
theorem State.outIn_execRemoteSignal (hd : Hdr) (c : Cid) (k n : Nat) (t : State) : t.outIn quiet (execRemoteSignal hd c k n t) := by
  simp [execRemoteSignal]
theorem State.outIn_execUnknownMessage (_h : Hdr) (ty : Nat) (t : State) : t.outIn quiet (execUnknownMessage _h ty t) := by
  simp [execUnknownMessage]
theorem State.outIn_execGroupDigest (hd : Hdr) (g : Nat) (dg : List Byte) (t : State) : t.outIn allBut (execGroupDigest hd g dg t) := by
  simp [execGroupDigest]

/-! #### Host -/

@[simp] theorem State.onlyIn_finish {p : Nat} {k : Cmd} {status cause info0 : Nat} (h : [.funcs, .hostMem] ⊆ l) :
    s.onlyIn (t.finish p k status cause info0) l ↔ s.onlyIn t l :=
  State.onlyIn_iff h (by simp [State.finish])
@[simp] theorem State.onlyIn_refuse {p : Nat} {k : Cmd} {cause : Nat} (h : [.funcs, .hostMem] ⊆ l) :
    s.onlyIn (t.refuse p k cause) l ↔ s.onlyIn t l :=
  State.onlyIn_iff h (by simp [State.refuse])
theorem State.fetchCmd_inl {s t : State} {p q op : Nat} (h : s.fetchCmd p q op = .inl t) : s.onlyIn t [.funcs, .hostMem] := by
  unfold State.fetchCmd at h
  extract_lets b src k u at h
  have hu : s.onlyIn u [.funcs, .hostMem] := by simp [u]
  clear_value u
  repeat' split at h
  all_goals first | (obtain rfl := Sum.inl.inj h; simp [hu]) | exact nomatch h
theorem State.fetchCmd_inr {s t : State} {p q op : Nat} {k : Cmd} (h : s.fetchCmd p q op = .inr (t, k)) : s.onlyIn t [.funcs] := by
  unfold State.fetchCmd at h
  extract_lets b src c u at h
  have hu : s.onlyIn u [.funcs] := by simp [u]
  clear_value u
  repeat' split at h
  all_goals simp only [reduceCtorEq, Sum.inr.injEq, Prod.mk.injEq] at h
  obtain ⟨rfl, -⟩ := h
  exact hu
theorem State.outIn_command {s : State} {p q op : Nat} {f : State → Cmd → State} {l : List Area} (hl : [.funcs, .hostMem] ⊆ l)
    (hf : ∀ u k, s.onlyIn (f u k) l ↔ s.onlyIn u l) : s.outIn l (s.command p q op f) := by
  unfold State.command
  split
  next t h => exact (State.fetchCmd_inl h).mono (fun _ ha => hl ha)
  next t k h =>
    refine (hf t k).2 ((State.fetchCmd_inr h).mono (fun _ ha => hl ?_))
    simp_all
@[simp] theorem State.onlyIn_overCells {s t : State} {p : Nat} {k : Cmd} {f : List Nat → State} {l : List Area} (hl : [.funcs, .hostMem] ⊆
    l)
    (hf : ∀ cs, s.onlyIn (f cs) l ↔ s.onlyIn t l) : s.onlyIn (t.overCells p k f) l ↔ s.onlyIn t l := by
  unfold State.overCells
  by_cases h1 : 1 < k.set
  · rw [if_pos h1]; simp only [State.onlyIn_refuse hl]
  · rw [if_neg h1]
    split
    · simp only [State.onlyIn_refuse hl]
    · extract_lets cs
      by_cases h2 : cs.isEmpty
      · rw [if_pos h2]; simp only [State.onlyIn_finish hl]
      · rw [if_neg h2]
        split
        · simp only [State.onlyIn_refuse hl]
        · exact hf cs
theorem State.outIn_execLoad (fn : Pn) (q : Fin 63) (t : State) : t.outIn quiet (execLoad fn q t) := by
  unfold execLoad
  refine State.outIn_command (by simp) fun u k => ?_
  extract_lets n b ts e v
  (repeat' split) <;> simp [v]
@[simp] theorem State.onlyIn_startCell {c : Nat} (h : [.cells] ⊆ l) : s.onlyIn (t.startCell c) l ↔ s.onlyIn t l :=
  State.onlyIn_iff h (by simp [State.startCell])
theorem State.outIn_execStart (fn : Pn) (q : Fin 63) (t : State) : t.outIn quiet (execStart fn q t) := by
  unfold execStart
  refine State.outIn_command (by simp) fun u k => State.onlyIn_overCells (by simp) fun cs => ?_
  (repeat' split) <;> simp
theorem State.outIn_execStartTimeReached (c : Cid) (t : State) : t.outIn quiet (execStartTimeReached c t) := by
  simp [execStartTimeReached]
@[simp] theorem State.onlyIn_stopCells {cs : List Nat} {tok : Nat} (h : [.cells, .parts, .funcs, .hostMem, .fab, .day, .daySeq] ⊆ l) :
    s.onlyIn (t.stopCells cs tok) l ↔ s.onlyIn t l :=
  State.onlyIn_iff h (by simp [State.stopCells])
theorem State.outIn_execHostStop (fn : Pn) (q : Fin 63) (t : State) : t.outIn quiet (execHostStop fn q t) := by
  unfold execHostStop
  refine State.outIn_command (by simp) fun u k => State.onlyIn_overCells (by simp) fun cs => ?_
  dsimp only
  (repeat' split) <;> simp
theorem State.outIn_execResume (fn : Pn) (q : Fin 63) (t : State) : t.outIn quiet (execResume fn q t) := by
  unfold execResume
  refine State.outIn_command (by simp) fun u k => State.onlyIn_overCells (by simp) fun cs => ?_
  (repeat' split) <;> simp
@[simp] theorem State.onlyIn_resetCells {p : Nat} {k : Cmd} {level ev : Nat} {cs : List Nat} (h : [.cells, .parts, .funcs, .hostMem, .dies,
    .day, .daySeq, .gctr] ⊆ l) :
    s.onlyIn (t.resetCells p k level ev cs) l ↔ s.onlyIn t l :=
  State.onlyIn_iff h (by simp [State.resetCells])
theorem State.outIn_execResetContext (fn : Pn) (q : Fin 63) (t : State) : t.outIn quiet (execResetContext fn q t) := by
  unfold execResetContext
  split
  · simp
  · refine State.outIn_command (by simp) fun u k => State.onlyIn_overCells (by simp) fun cs => ?_
    simp
theorem State.outIn_execResetEngine (fn : Pn) (q : Fin 63) (t : State) : t.outIn quiet (execResetEngine fn q t) := by
  unfold execResetEngine
  split
  · simp
  · refine State.outIn_command (by simp) fun u k => State.onlyIn_overCells (by simp) fun cs => ?_
    split <;> simp
theorem State.outIn_execDmaCopy (fn : Pn) (q : Fin 63) (t : State) : t.outIn quiet (execDmaCopy fn q t) := by
  unfold execDmaCopy
  refine State.outIn_command (by simp) fun u k => ?_
  (repeat' split) <;> simp
@[simp] theorem State.onlyIn_endCopy {p k : Nat} (h : [.funcs] ⊆ l) : s.onlyIn (t.endCopy p k) l ↔ s.onlyIn t l :=
  State.onlyIn_iff h (by simp [State.endCopy])
theorem State.outIn_execDmaCopyDone (fn : Pn) (k : Nat) (t : State) : t.outIn allBut (execDmaCopyDone fn k t) := by
  unfold execDmaCopyDone
  repeat' split <;> simp
theorem State.outIn_execHostReadTimeout (fn : Pn) (k done : Nat) (t : State) : t.outIn allBut (execHostReadTimeout fn k done t) := by
  unfold execHostReadTimeout
  split <;> simp
@[simp] theorem State.onlyIn_persist {p ty inst : Nat} (h : [.groom] ⊆ l) : s.onlyIn (t.persist p ty inst) l ↔ s.onlyIn t l :=
  State.onlyIn_iff h (by simp [State.persist])
theorem State.outIn_execHostTack (fn : Pn) (q : Fin 63) (t : State) : t.outIn allBut (execHostTack fn q t) := by
  unfold execHostTack
  refine State.outIn_command (by simp) fun u k => ?_
  generalize 2 ^ 20 = n0
  generalize 2 ^ 21 = n1
  dsimp only
  (repeat' split) <;> simp
theorem State.outIn_execHostTcommit (fn : Pn) (q : Fin 63) (t : State) : t.outIn allBut (execHostTcommit fn q t) := by
  unfold execHostTcommit
  exact State.outIn_command (by simp) (fun u k => by simp)
theorem State.outIn_execFlag (fn : Pn) (q : Fin 63) (t : State) : t.outIn quiet (execFlag fn q t) := by
  unfold execFlag
  refine State.outIn_command (by simp) fun u k => State.onlyIn_overCells (by simp) fun cs => ?_
  dsimp only
  (repeat' split) <;> simp
theorem State.outIn_execAttach (fn : Pn) (q : Fin 63) (t : State) : t.outIn allBut (execAttach fn q t) := by
  unfold execAttach
  refine State.outIn_command (by simp) fun u k => ?_
  extract_lets c lx extra cl x pl codes hdr carry ach v dv w
  have hw : t.onlyIn w allBut ↔ t.onlyIn u allBut := by simp [w, v]
  clear_value w
  (repeat' split) <;> simp [hw]
theorem State.outIn_execAttachDriftCheck (c : Cid) (levels codes : List Int) (t : State) :
    t.outIn quiet (execAttachDriftCheck c levels codes t) := by
  unfold execAttachDriftCheck
  dsimp only
  split <;> simp
theorem State.outIn_execHostSnapReq (fn : Pn) (q : Fin 63) (t : State) : t.outIn quiet (execHostSnapReq fn q t) := by
  unfold execHostSnapReq
  exact State.outIn_command (by simp) (fun u k => by simp)
@[simp] theorem State.onlyIn_installPkg {b : List Byte} (h : [.recs, .groom, .day, .daySeq] ⊆ l) :
    s.onlyIn (t.installPkg b).1 l ↔ s.onlyIn t l :=
  State.onlyIn_iff h <| by
    unfold State.installPkg
    extract_lets f id e u
    split
    · simp
    · have hu : t.onlyIn u [.recs, .groom, .day, .daySeq] := (State.onlyIn_recs (by decide)).2 (t.onlyIn_refl _)
      simp [hu]
theorem State.outIn_execDrillPkg (fn : Pn) (q : Fin 63) (t : State) : t.outIn quiet (execDrillPkg fn q t) := by
  unfold execDrillPkg
  refine State.outIn_command (by simp) fun u k => ?_
  generalize 65537 = n0
  dsimp only
  (repeat' split) <;> simp
theorem State.outIn_execShardMap (fn : Pn) (q : Fin 63) (t : State) : t.outIn quiet (execShardMap fn q t) := by
  unfold execShardMap
  refine State.outIn_command (by simp) fun u k => ?_
  (repeat' split) <;> simp
theorem State.outIn_execPlanBuf (fn : Pn) (q : Fin 63) (t : State) : t.outIn quiet (execPlanBuf fn q t) := by
  unfold execPlanBuf
  exact State.outIn_command (by simp) (fun u k => by simp)
theorem State.outIn_execStatus (fn : Pn) (q : Fin 63) (t : State) : t.outIn quiet (execStatus fn q t) := by
  unfold execStatus
  exact State.outIn_command (by simp) (fun u k => by simp)

/-! #### Hif -/

theorem State.outIn_execSqDoorbell (fn : Pn) (q : Fin 63) (tail : Nat) (entries : List Byte) (host : List (Nat × List Byte)) (t : State) :
    t.outIn quiet (execSqDoorbell fn q tail entries host t) := by
  simp [execSqDoorbell]
theorem State.outIn_execCqHeadDoorbell (fn : Pn) (q : Fin 63) (head : Nat) (t : State) :
    t.outIn quiet (execCqHeadDoorbell fn q head t) := by
  simp [execCqHeadDoorbell]
theorem State.outIn_execQCreate (fn : Pn) (q : Fin 63) (t : State) : t.outIn quiet (execQCreate fn q t) := by
  simp [execQCreate]
theorem State.outIn_execQDelete (fn : Pn) (q : Fin 63) (t : State) : t.outIn quiet (execQDelete fn q t) := by
  simp [execQDelete]
theorem State.outIn_execCqCoalesceTimer (fn : Pn) (q : Fin 63) (t : State) : t.outIn quiet (execCqCoalesceTimer fn q t) := by
  simp [execCqCoalesceTimer]
@[simp] theorem State.onlyIn_hostRead {status : Nat} {data : List Byte} (h : [.hif] ⊆ l) :
    s.onlyIn (t.hostRead status data) l ↔ s.onlyIn t l :=
  State.onlyIn_iff h (by simp [State.hostRead])
@[simp] theorem State.onlyIn_hostError {p kind addr : Nat} (h : [.funcs, .hostMem] ⊆ l) :
    s.onlyIn (t.hostError p kind addr) l ↔ s.onlyIn t l :=
  State.onlyIn_iff h (by simp [State.hostError])
@[simp] theorem State.onlyIn_winViolation {p a : Nat} (h : [.day, .daySeq, .gctr] ⊆ l) : s.onlyIn (t.winViolation p a) l ↔ s.onlyIn t l :=
  State.onlyIn_iff h (by simp [State.winViolation])
theorem State.outIn_execBar4Access (fn : Pn) (off len : Nat) (wr : Option (List Byte)) (t : State) :
    t.outIn allBut (execBar4Access fn off len wr t) := by
  unfold execBar4Access
  repeat' split <;> simp
theorem State.outIn_execPoisonedTlp (fn : Pn) (bar : Fin 6) (addr : Nat) (t : State) : t.outIn quiet (execPoisonedTlp fn bar addr t) := by
  simp [execPoisonedTlp]
@[simp] theorem State.onlyIn_linkDown (h : [.funcs, .hif] ⊆ l) : s.onlyIn t.linkDown l ↔ s.onlyIn t l :=
  State.onlyIn_iff h <| by
    unfold State.linkDown
    extract_lets u
    split
    · simp
    · exact (State.onlyIn_funcs (by decide)).2 (by simp [u])
theorem State.outIn_execLinkLoss (t : State) : t.outIn quiet (execLinkLoss t) := by
  simp [execLinkLoss]
theorem State.outIn_execMalformedTlp (t : State) : t.outIn quiet (execMalformedTlp t) := by
  simp [execMalformedTlp]
theorem State.outIn_execPerstDeassert (t : State) : t.outIn quiet (execPerstDeassert t) := by
  simp [execPerstDeassert]
theorem State.outIn_execPerstAssert (t : State) : t.outIn quiet (execPerstAssert t) := by
  unfold execPerstAssert
  extract_lets u
  have hu : t.onlyIn u quiet := by simp [u]
  split
  · exact (State.onlyIn_funcs (by decide)).2 hu
  · simp [hu]
theorem State.outIn_execPcieLinkUp (rate width : Nat) (t : State) : t.outIn quiet (execPcieLinkUp rate width t) := by
  simp [execPcieLinkUp]

/-! #### Groom -/

@[simp] theorem State.onlyIn_respond {b proto : Nat} {fields : List Nat} (h : [.groom] ⊆ l) :
    s.onlyIn (t.respond b proto fields) l ↔ s.onlyIn t l :=
  State.onlyIn_iff h (t.respond_only _ _ _)
theorem State.outIn_execSetEndpointId (b : Fin 3) (eid : Nat) (t : State) : t.outIn quiet (execSetEndpointId b eid t) := by
  simp [execSetEndpointId]
theorem State.outIn_execPldmSensorRead (b : Fin 3) (id : Nat) (t : State) : t.outIn quiet (execPldmSensorRead b id t) := by
  unfold execPldmSensorRead
  dsimp only
  (repeat' split) <;> simp
theorem State.outIn_execPlatformEventRetry (id : Nat) (t : State) : t.outIn quiet (execPlatformEventRetry id t) := by
  unfold execPlatformEventRetry
  split <;> simp
@[simp] theorem State.onlyIn_ackEvent {id : Nat} (h : [.groom] ⊆ l) : s.onlyIn (t.ackEvent id) l ↔ s.onlyIn t l :=
  State.onlyIn_iff h (by simp [State.ackEvent])
theorem State.outIn_execPlatformEventAck (id : Nat) (t : State) : t.outIn quiet (execPlatformEventAck id t) := by
  simp [execPlatformEventAck]
theorem State.outIn_execSetStateEffecterStates (b : Fin 3) (eff st : Nat) (t : State) :
    t.outIn quiet (execSetStateEffecterStates b eff st t) := by
  simp [execSetStateEffecterStates]
@[simp] theorem State.onlyIn_logUpdate {comp res : Nat} (h : [.day, .daySeq] ⊆ l) : s.onlyIn (t.logUpdate comp res) l ↔ s.onlyIn t l :=
  State.onlyIn_iff h (by simp [State.logUpdate])
@[simp] theorem State.onlyIn_takeImage {y : Tbl Byte} (h : [.phys, .boot, .groom, .day, .daySeq] ⊆ l) :
    s.onlyIn (t.takeImage y).1 l ↔ s.onlyIn t l :=
  State.onlyIn_iff h (by simp [State.takeImage])
@[simp] theorem State.onlyIn_takeMap {b : List Byte} (h : [.phys, .store, .boot, .groom, .day, .daySeq] ⊆ l) :
    s.onlyIn (t.takeMap b).1 l ↔ s.onlyIn t l :=
  State.onlyIn_iff h <| by
    unfold State.takeMap
    extract_lets hd u
    have hu : t.onlyIn u [.phys, .store, .boot, .groom, .day, .daySeq] := (State.onlyIn_store (by decide)).2 (t.onlyIn_refl _)
    (repeat' split) <;> simp [hu]
theorem State.outIn_execPldmFirmwareUpdate (b : Fin 3) (comp : Nat) (data : List Byte) (t : State) :
    t.outIn quiet (execPldmFirmwareUpdate b comp data t) := by
  unfold execPldmFirmwareUpdate
  dsimp only
  (repeat' split) <;> simp
theorem State.outIn_execActivateFirmware (b : Fin 3) (t : State) : t.outIn quiet (execActivateFirmware b t) := by
  simp [execActivateFirmware]
theorem State.outIn_spdm {s : State} {b : Nat} {o : Bool} {f : State → State} {l : List Area} (hl : [.groom] ⊆ l)
    (hf : s.onlyIn (f s) l) : s.outIn l (s.spdm b o f) := by
  simp [State.spdm, hl, hf]
theorem State.outIn_execSpdmGetVersion (b : Fin 4) (t : State) : t.outIn quiet (execSpdmGetVersion b t) := by
  unfold execSpdmGetVersion
  exact State.outIn_spdm (by simp) (by simp)
theorem State.outIn_execSpdmGetCapabilities (b : Fin 4) (t : State) : t.outIn quiet (execSpdmGetCapabilities b t) := by
  unfold execSpdmGetCapabilities
  exact State.outIn_spdm (by simp) (by simp)
theorem State.outIn_execSpdmNegotiateAlgorithms (b : Fin 4) (sha3 mldsa : Bool) (t : State) :
    t.outIn quiet (execSpdmNegotiateAlgorithms b sha3 mldsa t) := by
  unfold execSpdmNegotiateAlgorithms
  exact State.outIn_spdm (by simp) (by simp)
theorem State.outIn_execSpdmGetCertificate (b : Fin 4) (slot : Nat) (t : State) : t.outIn quiet (execSpdmGetCertificate b slot t) := by
  unfold execSpdmGetCertificate
  exact State.outIn_spdm (by simp) (by simp)
theorem State.outIn_execSpdmChallenge (b : Fin 4) (slot nonce : Nat) (t : State) : t.outIn quiet (execSpdmChallenge b slot nonce t) := by
  unfold execSpdmChallenge
  exact State.outIn_spdm (by simp) (by simp)
theorem State.outIn_execSpdmGetMeasurements (b : Fin 4) (idx slot : Nat) (t : State) :
    t.outIn quiet (execSpdmGetMeasurements b idx slot t) := by
  unfold execSpdmGetMeasurements
  exact State.outIn_spdm (by simp) (by simp)
@[simp] theorem State.onlyIn_markRead {b : Nat} {es : List DayEntry} (h : [.groom] ⊆ l) : s.onlyIn (t.markRead b es) l ↔ s.onlyIn t l :=
  State.onlyIn_iff h <| by
    unfold State.markRead
    split <;> simp
theorem State.outIn_execReadLog (b : Fin 3) (seq count : Nat) (t : State) : t.outIn quiet (execReadLog b seq count t) := by
  simp [execReadLog]
theorem State.outIn_execDaybookHighWater (t : State) : t.outIn quiet (execDaybookHighWater t) := by
  simp [execDaybookHighWater]
@[simp] theorem State.onlyIn_mail {status : Nat} {body : List Byte} (h : [.groom] ⊆ l) : s.onlyIn (t.mail status body) l ↔ s.onlyIn t l :=
  State.onlyIn_iff h (by simp [State.mail])
theorem State.outIn_mailbox {s : State} {f : State → State} {l : List Area} (hl : [.groom] ⊆ l)
    (hf : s.onlyIn (f s) l) : s.outIn l (s.mailbox f) := by
  simp [State.mailbox, hl, hf]
theorem State.outIn_execGetStatus (t : State) : t.outIn quiet (execGetStatus t) := by
  simp [execGetStatus]
theorem State.outIn_execGetIdentity (t : State) : t.outIn quiet (execGetIdentity t) := by
  unfold execGetIdentity
  exact State.outIn_mailbox (by simp) (by simp)
theorem State.outIn_execReadSensor (id : Nat) (t : State) : t.outIn quiet (execReadSensor id t) := by
  unfold execReadSensor
  refine State.outIn_mailbox (by simp) ?_
  (repeat' split) <;> simp
theorem State.outIn_execMailboxReadLog (seq count : Nat) (t : State) : t.outIn quiet (execMailboxReadLog seq count t) := by
  unfold execMailboxReadLog
  exact State.outIn_mailbox (by simp) (by simp)
theorem State.outIn_execGetPower (t : State) : t.outIn quiet (execGetPower t) := by
  unfold execGetPower
  exact State.outIn_mailbox (by simp) (by simp)
theorem State.outIn_execGetThermal (t : State) : t.outIn quiet (execGetThermal t) := by
  unfold execGetThermal
  exact State.outIn_mailbox (by simp) (by simp)
theorem State.outIn_execGetAlert (t : State) : t.outIn quiet (execGetAlert t) := by
  unfold execGetAlert
  exact State.outIn_mailbox (by simp) (by simp)
theorem State.outIn_execClearAlert (bits : Nat) (t : State) : t.outIn quiet (execClearAlert bits t) := by
  unfold execClearAlert
  exact State.outIn_mailbox (by simp) (by simp)
theorem State.outIn_execRequestReset (v : Nat) (t : State) : t.outIn quiet (execRequestReset v t) := by
  unfold execRequestReset
  exact State.outIn_mailbox (by simp) (by simp)
theorem State.outIn_execFwStart (len : Nat) (t : State) : t.outIn quiet (execFwStart len t) := by
  unfold execFwStart
  exact State.outIn_mailbox (by simp) (by simp)
theorem State.outIn_execFwData (off : Nat) (data : List Byte) (t : State) : t.outIn quiet (execFwData off data t) := by
  unfold execFwData
  exact State.outIn_mailbox (by simp) (by simp)
theorem State.outIn_execFwFinish (t : State) : t.outIn quiet (execFwFinish t) := by
  unfold execFwFinish
  exact State.outIn_mailbox (by simp) (by simp)
theorem State.outIn_execMailboxReadResponse (t : State) : t.outIn quiet (execMailboxReadResponse t) := by
  unfold execMailboxReadResponse
  split <;> simp
theorem State.outIn_execMailboxBadCmd (code : Nat) (t : State) : t.outIn quiet (execMailboxBadCmd code t) := by
  unfold execMailboxBadCmd
  split
  · simp
  · exact State.outIn_mailbox (by simp) (by simp)

/-! #### Rack -/

@[simp] theorem State.onlyIn_logRack {kind : Nat} (h : [.day, .daySeq] ⊆ l) : s.onlyIn (t.logRack kind) l ↔ s.onlyIn t l :=
  State.onlyIn_iff h (t.logRack_only _)
theorem State.outIn_execSvcPress (t : State) : t.outIn quiet (execSvcPress t) := by
  simp [execSvcPress]
@[simp] theorem State.onlyIn_refusePress (h : [.day, .daySeq, .rack] ⊆ l) : s.onlyIn t.refusePress l ↔ s.onlyIn t l :=
  State.onlyIn_iff h (by simp [State.refusePress])
@[simp] theorem State.onlyIn_withdraw (h : [.parts, .fab, .day, .daySeq, .rack, .gctr] ⊆ l) : s.onlyIn t.withdraw l ↔ s.onlyIn t l :=
  State.onlyIn_iff h (by simp [State.withdraw])
theorem State.outIn_execShortPress (t : State) : t.outIn quiet (execShortPress t) := by
  simp [execShortPress]
theorem State.outIn_execLongPress (t : State) : t.outIn quiet (execLongPress t) := by
  simp [execLongPress]
@[simp] theorem State.onlyIn_leave (h : [.cells, .phys, .repair, .parts, .funcs, .recs, .mem, .hostMem, .fab, .groom, .day, .daySeq, .rack,
    .gctr] ⊆ l) :
    s.onlyIn t.leave l ↔ s.onlyIn t l :=
  State.onlyIn_iff h <| by
    unfold State.leave
    dsimp only
    split <;> simp
theorem State.outIn_execWithdrawSecured (t : State) : t.outIn allBut (execWithdrawSecured t) := by
  simp [execWithdrawSecured]
theorem State.outIn_execHandleTouch (t : State) : t.outIn quiet (execHandleTouch t) := by
  simp [execHandleTouch]
theorem State.outIn_execTouchLapse (t : State) : t.outIn quiet (execTouchLapse t) := by
  simp [execTouchLapse]
theorem State.outIn_execLatchOpen (t : State) : t.outIn quiet (execLatchOpen t) := by
  simp [execLatchOpen]
theorem State.outIn_execLatchClosed (t : State) : t.outIn quiet (execLatchClosed t) := by
  simp [execLatchClosed]
theorem State.outIn_execSafeLogWaitExpiry (t : State) : t.outIn quiet (execSafeLogWaitExpiry t) := by
  unfold execSafeLogWaitExpiry
  split <;> simp
theorem State.outIn_execLedFlashEnd (t : State) : t.outIn quiet (execLedFlashEnd t) := by
  simp [execLedFlashEnd]

/-! #### Regs -/

theorem State.outIn_execCounterLowRead (fn : Pn) (i : Nat) (user : Bool) (t : State) : t.outIn quiet (execCounterLowRead fn i user t) := by
  unfold execCounterLowRead
  dsimp only
  (repeat' split) <;> simp
theorem State.outIn_execCellSampleRead (fn : Pn) (c : Cid) (t : State) : t.outIn quiet (execCellSampleRead fn c t) := by
  simp [execCellSampleRead]
theorem State.outIn_execMonWrIndexRead (d : DieN) (t : State) : t.outIn quiet (execMonWrIndexRead d t) := by
  simp [execMonWrIndexRead]
@[simp] theorem State.onlyIn_reserved {off w mask ok : Nat} (h : [.day, .daySeq] ⊆ l) :
    s.onlyIn (t.reserved off w mask ok) l ↔ s.onlyIn t l :=
  State.onlyIn_iff h (by simp [State.reserved])
@[simp] theorem State.onlyIn_writeFunc {fn p off o len v : Nat} (h : [.funcs, .day, .daySeq, .gctr] ⊆ l) :
    s.onlyIn (t.writeFunc fn p off o len v) l ↔ s.onlyIn t l :=
  State.onlyIn_iff h (by simp [State.writeFunc])
@[simp] theorem State.onlyIn_writeShadow {fn p off o len v : Nat} (h : [.funcs, .day, .daySeq, .gctr] ⊆ l) :
    s.onlyIn (t.writeShadow fn p off o len v) l ↔ s.onlyIn t l :=
  State.onlyIn_iff h (by simp [State.writeShadow])
theorem State.outIn_execRegisterWrite (fn : Pn) (off len v : Nat) (t : State) : t.outIn quiet (execRegisterWrite fn off len v t) := by
  unfold execRegisterWrite
  dsimp only
  (repeat' split) <;> simp
@[simp] theorem State.onlyIn_takeSelection {p : Nat} (h : [.parts] ⊆ l) : s.onlyIn (t.takeSelection p) l ↔ s.onlyIn t l :=
  State.onlyIn_iff h (by simp [State.takeSelection])
@[simp] theorem State.onlyIn_dumpTo {k base slots size : Nat} {over_ : Bool} {data : List Byte} (h : [.parts, .mem] ⊆ l) :
    s.onlyIn (t.dumpTo k base slots size over_ data).1 l ↔ s.onlyIn t l :=
  State.onlyIn_iff h <| by
    unfold State.dumpTo
    repeat' split <;> simp
@[simp] theorem State.onlyIn_moduleDump (h : [.parts, .mem] ⊆ l) : s.onlyIn t.moduleDump l ↔ s.onlyIn t l :=
  State.onlyIn_iff h (by simp [State.moduleDump])
theorem State.outIn_execDumpInstant (p : Pn) (t : State) : t.outIn allBut (execDumpInstant p t) := by
  simp [execDumpInstant]
theorem State.outIn_execTagRecordWrite (c : Cid) (t : State) : t.outIn allBut (execTagRecordWrite c t) := by
  simp [execTagRecordWrite]
theorem State.outIn_execFeedIdChange (v : Fin 16) (t : State) : t.outIn quiet (execFeedIdChange v t) := by
  simp [execFeedIdChange]

end

end Sys2Proof.Machine
end

section
/-! SUPPORT. Laws/Canonical: the operations and commands that can write module memory keep it canonical. -/

namespace Sys2Proof.Machine

/-! ### Module memory stays canonical -/

/-- Module memory is canonical, said through a frame: so the rules of frames pass over whatever leaves memory alone. -/
abbrev State.canon (t : State) : Prop := ∃ s : State, s.memoryCanonical ∧ s.onlyIn t quiet

theorem State.canon_iff (t : State) : t.canon ↔ t.memoryCanonical := by
  refine ⟨fun ⟨s, hs, h⟩ => ?_, fun ht => ⟨t, ht, t.onlyIn_refl _⟩⟩
  rw [State.memoryCanonical, h.mem (by decide)]
  exact hs

theorem State.onlyIn.canon {s t : State} (h : s.onlyIn t quiet) (hs : s.canon) : t.canon := by
  obtain ⟨u, hu, hus⟩ := hs
  exact ⟨u, hu, hus.trans h⟩

theorem State.canon_foldl {α : Type} {f : State → α → State} {xs : List α} {t : State} (h : t.canon)
    (hf : ∀ (u : State) x, u.canon → (f u x).canon) : (xs.foldl f t).canon := by
  induction xs generalizing t with
  | nil => exact h
  | cons x r ih => exact ih (hf t x h)

/-- An outcome that is a state has canonical memory. -/
def State.canonOut : Out → Prop
  | .next t => t.canon
  | .fault _ => True
  | .refused _ => True

@[simp] theorem State.canonOut_next (t : State) : State.canonOut (.next t) ↔ t.canon := Iff.rfl
@[simp] theorem State.canonOut_fault (r : Fault) : State.canonOut (.fault r) ↔ True := Iff.rfl
@[simp] theorem State.canonOut_refused (r : Refusal) : State.canonOut (.refused r) ↔ True := Iff.rfl
@[simp] theorem State.canonOut_ite {a b : Out} {p : Prop} [Decidable p] :
    State.canonOut (if p then a else b) ↔ if p then State.canonOut a else State.canonOut b := by
  split <;> rfl

theorem State.canon_mem {t : State} {m : List Host.Cell} (h : Memory.wf m = true) : ({ t with mem := m } : State).canon :=
  (State.canon_iff _).2 h

theorem State.outIn.canonOut {t : State} {o : Out} (h : t.outIn quiet o) (ht : t.canon) : State.canonOut o := by
  cases o with
  | next u => exact (State.canonOut_next u).2 (State.onlyIn.canon ((t.outIn_next u _).1 h) ht)
  | fault r => exact (State.canonOut_fault r).2 trivial
  | refused r => exact (State.canonOut_refused r).2 trivial

/-! ### The operations that can write module memory, and their commands -/

@[simp] theorem State.canon_wrMem {t : State} {a : Nat} {xs : List Byte} (h : t.canon) : (t.wrMem a xs).canon :=
  (State.canon_iff _).2 (t.wrMem_wf a xs ((State.canon_iff t).1 h))
@[simp] theorem State.canon_wrDev {t : State} {a : Nat} {xs : List Byte} (h : t.canon) : (t.wrDev a xs).canon := by
  unfold State.wrDev
  (repeat' split) <;> simp [State.canon, h]
@[simp] theorem State.canon_wrOp {t : State} {c : Nat} {dev : Bool} {a : Nat} {xs : List Byte} (h : t.canon) :
    (t.wrOp c dev a xs).canon := by
  unfold State.wrOp
  (repeat' split) <;> simp [State.canon, h]
theorem State.canonOut_receive {t : State} {hd : Hdr} {f : State → State} (h : t.canon) (hf : (f t).canon) :
    State.canonOut (t.receive hd f) := by
  unfold State.receive
  (repeat' split)
  · simp [State.canon, h]
  · simp [State.canon, h]
  · simpa using h
  · simpa using hf
@[simp] theorem State.canon_wrElem {t : State} {c : Nat} {d : Desc} {r i w : Nat} (h : t.canon) : (t.wrElem c d r i w).canon := by
  unfold State.wrElem
  dsimp only
  (repeat' split) <;> simp [State.canon, h]
@[simp] theorem State.canon_wrWideAt {t : State} {c : Nat} {d : Desc} {ps : List (Nat × Nat)} {vs : List Fv} (h : t.canon) :
    (t.wrWideAt c d ps vs).canon := by
  induction ps generalizing t vs with
  | nil => simpa [State.wrWideAt] using h
  | cons p ps ih =>
    cases vs with
    | nil => simpa [State.wrWideAt] using h
    | cons v vs => exact ih (State.canon_wrElem h)
@[simp] theorem State.canon_wrWide {t : State} {c : Nat} {d : Desc} {vs : List Fv} (h : t.canon) : (t.wrWide c d vs).canon := by
  unfold State.wrWide
  simp [State.canon, h]
@[simp] theorem State.canon_wrBlock {t : State} {c : Nat} {d : Desc} {line b : Nat} {blk : Nat × List Nat × Nat} (h : t.canon) :
    (t.wrBlock c d line b blk).canon := by
  unfold State.wrBlock
  exact State.canon_foldl (State.canon_wrOp h) fun u x hu => State.canon_wrElem hu
@[simp] theorem State.canon_wrNarrowRow {t : State} {c : Nat} {d : Desc} {tag : Nat} {share : Bool} {r : Nat} {vs : List Fv} {ds : List
    (Option Nat)} (h : t.canon) :
    (t.wrNarrowRow c d tag share r vs ds).canon := by
  unfold State.wrNarrowRow
  dsimp only
  split
  · exact State.canon_foldl h fun u x hu => by simp [State.canon, hu]
  · refine State.canon_foldl h fun u x hu => ?_
    split <;> simp [State.canon, hu]
theorem State.canon_issueUnit {t : State} {c w : Nat} {i : Iss} {ready : Bool} {f : State → State} (h : t.canon)
    (hf : ∀ u : State, u.canon → (f u).canon) : (t.issueUnit c w i ready f).canon := by
  unfold State.issueUnit
  extract_lets u cl
  have he : (f (t.enter c w i)).canon := hf _ (by simp [State.canon, h])
  clear_value cl
  (repeat' split) <;> first | exact he | simp [State.canon, h]
@[simp] theorem State.canon_matRow {t : State} {c w : Nat} {i : Iss} {o : MatOp} {m : Nat} {vs : List Fv} (h : t.canon) :
    (t.matRow c w i o m vs).canon := by
  unfold State.matRow
  (repeat' split) <;> simp [State.canon, h]
@[simp] theorem State.canon_matEffect {t : State} {c w : Nat} {i : Iss} {o : MatOp} {k : Nat} (h : t.canon) :
    (t.matEffect c w i o k).canon := by
  unfold State.matEffect
  extract_lets mb pos zfill tally u
  have hu : u.canon := by
    refine State.canon_foldl h fun v m hv => ?_
    dsimp only
    (repeat' split) <;> simp [State.canon, hv]
  clear_value u
  simp [State.canon, hu]
theorem State.canonOut_execDmm {t : State} {c : Cid} (h : t.canon) : State.canonOut (execDmm c t) := by
  unfold execDmm
  split
  · exact State.canon_issueUnit h fun u hu => State.canon_matEffect hu
  · exact h
theorem State.canonOut_execDconv {t : State} {c : Cid} (h : t.canon) : State.canonOut (execDconv c t) := by
  unfold execDconv
  split
  · exact State.canon_issueUnit h fun u hu => State.canon_matEffect hu
  · exact h
@[simp] theorem State.canon_landElems {t : State} {c : Nat} {d : Desc} {off : Nat} {es ss : List Nat} (h : t.canon) :
    (t.landElems c d off es ss).canon := by
  unfold State.landElems
  exact State.canon_foldl (State.canon_foldl h fun u x hu => State.canon_wrElem hu) fun u x hu => State.canon_wrOp hu
@[simp] theorem State.canon_copyStream {t : State} {c : Nat} {a d : Desc} (h : t.canon) : (t.copyStream c a d).canon := by
  unfold State.copyStream
  simp [State.canon, h]
theorem State.canonOut_execLds {t : State} {c : Cid} (h : t.canon) : State.canonOut (execLds c t) := by
  unfold execLds
  split
  · exact State.canon_issueUnit h fun u hu => State.canon_copyStream hu
  · exact h
theorem State.canonOut_execSts {t : State} {c : Cid} (h : t.canon) : State.canonOut (execSts c t) := by
  unfold execSts
  split
  · dsimp only
    split
    · refine State.canon_issueUnit h fun u hu => ?_
      simp [State.canon, hu]
    · exact State.canon_issueUnit h fun u hu => State.canon_copyStream hu
  · exact h
theorem State.canonOut_execCopy {t : State} {c : Cid} (h : t.canon) : State.canonOut (execCopy c t) := by
  unfold execCopy
  split
  · exact State.canon_issueUnit h fun u hu => State.canon_copyStream hu
  · exact h
theorem State.canonOut_execGather {t : State} {c : Cid} (h : t.canon) : State.canonOut (execGather c t) := by
  unfold execGather
  split
  · refine State.canon_issueUnit h fun u hu => State.canon_foldl hu fun v x hv => ?_
    simp [State.canon, hv]
  · exact h
@[simp] theorem State.canon_scatterRow {t : State} {c : Nat} {y : Desc} {p : ParamBlk} {mb k : Nat} {g : List Fv} (h : t.canon) :
    (t.scatterRow c y p mb k g).canon := by
  unfold State.scatterRow
  extract_lets sums ds u cut
  have hu : u.canon := by simp [State.canon, u, h]
  split
  · exact State.canon_foldl hu fun v x hv => State.canon_wrBlock hv
  · exact State.canon_foldl hu fun v x hv => State.canon_wrElem hv
theorem State.canonOut_execScatter {t : State} {c : Cid} (h : t.canon) : State.canonOut (execScatter c t) := by
  unfold execScatter
  split
  · refine State.canon_issueUnit h fun u hu => State.canon_foldl hu fun v x hv => ?_
    dsimp only
    split
    · exact hv
    · split
      · refine State.canon_foldl hv fun w y hw => ?_
        split <;> simp [State.canon, hw]
      · split <;> simp [State.canon, hv]
  · exact h
theorem State.canonOut_execMessageLands {t : State} {c : Cid} {i : Nat} (h : t.canon) : State.canonOut (execMessageLands c i t) := by
  unfold execMessageLands
  dsimp only
  (repeat' split) <;> simp [State.canon, h]
@[simp] theorem State.canon_writeOut {t : State} {c : Nat} {f : Flight} {v : Vect} {out : List Fv} (h : t.canon) :
    (t.writeOut c f v out).canon := by
  unfold State.writeOut
  extract_lets w k a es zfill
  split
  · simp [State.canon, h]
  · refine State.canon_foldl h fun u x hu => ?_
    (repeat' split) <;> simp [State.canon, hu]
@[simp] theorem State.canon_finishVect {t : State} {c : Nat} {f : Flight} {v : Vect} {x : List Int} {e : Int} {y : List Rat} {analogue :
    Bool} {y8 : List Rat} {npos : Nat} (h : t.canon) :
    (t.finishVect c f v x e y analogue y8 npos).canon := by
  unfold State.finishVect
  dsimp only
  (repeat' split) <;> simp [State.canon, h]
@[simp] theorem State.canon_readVect {t : State} {c : Nat} {f : Flight} {v : Vect} {vix : Nat} {x : List Int} {e : Int} {codes : List Int}
    {npos : Nat} (h : t.canon) :
    (t.readVect c f v vix x e codes npos).canon := by
  unfold State.readVect
  dsimp only
  (repeat' split) <;> simp [State.canon, h]
@[simp] theorem State.canon_startVect {t : State} {c : Nat} {f : Flight} {vix : Nat} {path : Path} {codes : List Int} (h : t.canon) :
    (t.startVect c f vix path codes).canon := by
  unfold State.startVect
  extract_lets v px b mb npos u
  have hu : u.canon := by
    unfold u
    generalize 512 = n
    split <;> simp [State.canon, h]
  clear_value u
  split
  · refine State.canon_writeOut ?_
    simp [State.canon, hu]
  · exact State.canon_finishVect hu
  · extract_lets ys
    split
    · exact State.canon_finishVect hu
    · split
      · exact State.canon_readVect hu
      · simp [State.canon, hu]
      · simp [State.canon, hu]
@[simp] theorem State.canon_startVects {t : State} {fuel c key : Nat} {codes : List Int} (h : t.canon) :
    (t.startVects fuel c key codes).canon := by
  induction fuel generalizing t with
  | zero => exact h
  | succ n ih =>
    unfold State.startVects
    split
    · exact h
    · split
      · exact h
      · extract_lets w lx u v
        refine ih ?_
        have hu : u.canon := by simp [State.canon, u, h]
        unfold v
        split
        · exact State.canon_startVect hu
        · exact hu
theorem State.canonOut_execProductStart {t : State} {c : Cid} {codes : List Int} (h : t.canon) :
    State.canonOut (execProductStart c codes t) := by
  unfold execProductStart
  dsimp only
  (repeat' split) <;> simp [State.canon, h]
theorem State.canonOut_execInsertedProduct {t : State} {c : Cid} (h : t.canon) : State.canonOut (execInsertedProduct c t) := by
  unfold execInsertedProduct
  extract_lets cl
  split
  · exact h
  next j rest hins =>
    split
    · exact h
    · extract_lets u u1 u2 u3
      have hu : u.canon := by simp [State.canon, u, h]
      have h2 : u2.canon := by
        unfold u2
        generalize 2048 = n
        split <;> simp [State.canon, hu, u1]
      have h3 : u3.canon := by simp [State.canon, u3, h2]
      clear_value u u1 u2 u3
      split
      · exact hu
      · simp [State.canon, hu, h3]
theorem State.canonOut_execReferenceProductReturn {t : State} {c : Cid} (h : t.canon) :
    State.canonOut (execReferenceProductReturn c t) := by
  unfold execReferenceProductReturn
  extract_lets cl r ok
  split
  · exact h
  · extract_lets px drop b y tol u1
    have hdrop : drop.canon := by simp [State.canon, drop, h]
    have h1 : u1.canon := by unfold u1; split <;> simp [State.canon, hdrop]
    clear_value drop u1
    split
    · exact hdrop
    · extract_lets v0 v yr agree u2
      have h2 : u2.canon := by
        unfold u2
        split <;> simp [State.canon, h1]
      clear_value u2
      split
      · split <;> simp [State.canon, hdrop, h]
      · simp [State.canon, hdrop, h2]
@[simp] theorem State.canon_putCarry {t : State} {c x base k : Nat} {v : Rat} (h : t.canon) : (t.putCarry c x base k v).canon := by
  unfold State.putCarry
  simp [State.canon, h]
@[simp] theorem State.canon_beginRow {t : State} {c : Nat} (h : t.canon) : (t.beginRow c).canon := by
  unfold State.beginRow
  (repeat' split) <;> simp [State.canon, h]
@[simp] theorem State.canon_carryAdd {t : State} {c : Nat} {j : WriteJob} (h : t.canon) : (t.carryAdd c j).canon := by
  unfold State.carryAdd
  dsimp only
  refine State.canon_foldl h fun u x hu => ?_
  split <;> simp [State.canon, hu]
@[simp] theorem State.canon_startUpdate {t : State} {c : Nat} {j : WriteJob} (h : t.canon) : (t.startUpdate c j).canon := by
  unfold State.startUpdate
  dsimp only
  (repeat' split) <;> simp [State.canon, h]
@[simp] theorem State.canon_startLoad {t : State} {c : Nat} {j : WriteJob} (h : t.canon) : (t.startLoad c j).canon := by
  unfold State.startLoad
  dsimp only
  (repeat' split) <;> simp [State.canon, h]
theorem State.canonOut_execWriteStart {t : State} {c : Cid} (h : t.canon) : State.canonOut (execWriteStart c t) := by
  unfold execWriteStart
  extract_lets cl rx
  split
  · exact h
  next j l hl =>
    split
    · exact h
    · extract_lets absent u1 relay ph u2 u3 j2 u4
      have h2 : u2.canon := by
        unfold u2 u1
        split <;> simp [State.canon, h]
      have h4 : u4.canon := by
        unfold u4 u3
        split <;> simp [State.canon, h2]
      clear_value u4
      split
      · simp [State.canon, h4]
      · split
        · exact State.canon_startLoad (by split <;> simp [State.canon, h4])
        · exact State.canon_startUpdate (by simp [State.canon, h4])
@[simp] theorem State.canon_landRow {t : State} {c : Nat} {j : WriteJob} {i : Nat} {levels : List Int} (h : t.canon) :
    (t.landRow c j i levels).canon := by
  unfold State.landRow
  refine State.canon_foldl h fun u x hu => ?_
  (repeat' split) <;> simp [State.canon, hu]
theorem State.canonOut_execRowWriteDone {t : State} {c : Cid} {ok : Bool} {rounds : Nat} {levels : List Int} (h : t.canon) :
    State.canonOut (execRowWriteDone c ok rounds levels t) := by
  unfold execRowWriteDone
  split
  · exact h
  next j l hl =>
    split
    · exact h
    next i rest hr =>
      extract_lets r b p target u1 u2 u3 u4 u5 u6
      have h2 : u2.canon := by simp [State.canon, u2, u1, h]
      have h3 : u3.canon := by simp [State.canon, u3, u1, h]
      have h5 : u5.canon := by
        unfold u5 u4
        split <;> simp [State.canon, h3]
      have h6 : u6.canon := by simp [State.canon, u6, h5]
      clear_value u2 u6
      (repeat' split) <;> simp [State.canon, h, h2, h6]
theorem State.canonOut_execAread {t : State} {c : Cid} {levels : List Int} (h : t.canon) : State.canonOut (execAread c levels t) := by
  unfold execAread
  split
  · extract_lets cl i x ready
    refine State.canon_issueUnit h fun u hu => ?_
    extract_lets b
    clear_value b
    split
    · simp [State.canon, hu]
    · split
      · simp [State.canon, hu]
      · exact State.canon_foldl hu fun v x hv => State.canon_wrElem hv
  · exact h
@[simp] theorem State.canon_vecEffect {t : State} {c : Nat} {o : Op} {w : Nat} {i : Iss} (h : t.canon) : (t.vecEffect c o w i).canon := by
  unfold State.vecEffect
  (repeat' split) <;> simp [State.canon, h]
@[simp] theorem State.canon_vecIssue {t : State} {c : Nat} {o : Op} (h : t.canon) : (t.vecIssue c o).canon := by
  unfold State.vecIssue
  split
  · exact State.canon_issueUnit h fun u hu => State.canon_vecEffect hu
  · exact h
theorem State.canonOut_execVadd {t : State} {c : Cid} (h : t.canon) : State.canonOut (execVadd c t) := by
  unfold execVadd
  simp [State.canon, h]
theorem State.canonOut_execVmul {t : State} {c : Cid} (h : t.canon) : State.canonOut (execVmul c t) := by
  unfold execVmul
  simp [State.canon, h]
theorem State.canonOut_execVfma {t : State} {c : Cid} (h : t.canon) : State.canonOut (execVfma c t) := by
  unfold execVfma
  simp [State.canon, h]
theorem State.canonOut_execVcmp {t : State} {c : Cid} (h : t.canon) : State.canonOut (execVcmp c t) := by
  unfold execVcmp
  simp [State.canon, h]
theorem State.canonOut_execVsel {t : State} {c : Cid} (h : t.canon) : State.canonOut (execVsel c t) := by
  unfold execVsel
  simp [State.canon, h]
theorem State.canonOut_execVmin {t : State} {c : Cid} (h : t.canon) : State.canonOut (execVmin c t) := by
  unfold execVmin
  simp [State.canon, h]
theorem State.canonOut_execVmax {t : State} {c : Cid} (h : t.canon) : State.canonOut (execVmax c t) := by
  unfold execVmax
  simp [State.canon, h]
@[simp] theorem State.canon_accrdOne {t : State} {c : Nat} {i : Iss} {clear : Bool} {k r e : Nat} (h : t.canon) :
    (t.accrdOne c i clear k r e).canon := by
  unfold State.accrdOne
  simp [State.canon, h]
theorem State.canonOut_execAccrd {t : State} {c : Cid} (h : t.canon) : State.canonOut (execAccrd c t) := by
  unfold execAccrd
  split
  · refine State.canon_issueUnit h fun u hu => ?_
    refine State.onlyIn.canon ((State.onlyIn_count (by decide)).2 (State.onlyIn_refl _ _)) ?_
    exact State.canon_foldl hu fun v x hv => State.canon_accrdOne hv
  · exact h
@[simp] theorem State.canon_landColl {t : State} {c : Nat} {f : Flight} {r : Nat} {vals : List (List Nat)} (h : t.canon) :
    (t.landColl c f r vals).canon := by
  unfold State.landColl
  dsimp only
  (repeat' split) <;> simp [State.canon, h]
@[simp] theorem State.canon_tryColls {t : State} {g fuel : Nat} (h : t.canon) : (t.tryColls g fuel).canon := by
  induction fuel generalizing t with
  | zero => exact h
  | succ n ih =>
    unfold State.tryColls
    extract_lets gr ms
    split
    · exact h
    · split
      · exact h
      · extract_lets u vals v
        refine ih (State.canon_foldl (by simp [State.canon, u, h]) fun w e hw => ?_)
        split
        · split
          · exact State.canon_landColl hw
          · exact hw
        · exact hw
@[simp] theorem State.canon_contribute {t : State} {g : Nat} {m : CollMsg} (h : t.canon) : (t.contribute g m).canon := by
  unfold State.contribute
  simp [State.canon, h]
@[simp] theorem State.canon_offer {t : State} {g : Nat} {m : CollMsg} (h : t.canon) : (t.offer g m).canon := by
  unfold State.offer
  extract_lets nodes u
  refine State.canon_contribute ?_
  simp [State.canon, u, h]
@[simp] theorem State.canon_collIssue {t : State} {c : Nat} {o : Op} (h : t.canon) : (t.collIssue c o).canon := by
  unfold State.collIssue
  split
  · exact h
  next w hw =>
    extract_lets i g legal mark cl susp
    split
    · exact State.canon_issueUnit h fun u hu => hu
    · extract_lets u
      have hu : u.canon := by
        refine State.canon_issueUnit h fun v hv => ?_
        split
        · simp [State.canon, hv]
        · exact State.canon_offer (by split <;> simp [State.canon, hv])
      clear_value u
      split
      · exact State.canon_offer hu
      · exact hu
theorem State.canonOut_execCred {t : State} {c : Cid} (h : t.canon) : State.canonOut (execCred c t) := by
  unfold execCred
  simp [State.canon, h]
theorem State.canonOut_execCbcast {t : State} {c : Cid} (h : t.canon) : State.canonOut (execCbcast c t) := by
  unfold execCbcast
  simp [State.canon, h]
theorem State.canonOut_execCnorm {t : State} {c : Cid} (h : t.canon) : State.canonOut (execCnorm c t) := by
  unfold execCnorm
  simp [State.canon, h]
theorem State.canonOut_execCfin {t : State} {c : Cid} (h : t.canon) : State.canonOut (execCfin c t) := by
  unfold execCfin
  simp [State.canon, h]
theorem State.canonOut_groupPacket {t : State} {hd : Hdr} {g k r : Nat} {d : List Nat} {f : State → State}
    (h : t.canon) (hf : (f t).canon) : State.canonOut (t.groupPacket hd g k r d f) := by
  unfold State.groupPacket
  refine State.canonOut_receive h ?_
  split
  · exact hf
  · simp [State.canon, h]
  · simp [State.canon, h]
@[simp] theorem State.canon_tookNoPart {t : State} {g rank count : Nat} (h : t.canon) : (t.tookNoPart g rank count).canon := by
  unfold State.tookNoPart
  split
  · refine State.canon_foldl h fun u op hu => ?_
    split
    · exact State.canon_contribute hu
    · exact hu
  · exact h
theorem State.canonOut_execCollCtrl {t : State} {hd : Hdr} {g rank count : Nat} (h : t.canon) :
    State.canonOut (execCollCtrl hd g rank count t) := by
  unfold execCollCtrl
  exact State.canonOut_receive h (by (repeat' split) <;> simp [State.canon, h])
@[simp] theorem State.canon_tryActive {t : State} {g : Nat} (h : t.canon) : (t.tryActive g).canon := by
  unfold State.tryActive
  dsimp only
  (repeat' split) <;> simp [State.canon, h]
@[simp] theorem State.canon_joinGroup {t : State} {p g : Nat} (h : t.canon) : (t.joinGroup p g).canon := by
  unfold State.joinGroup
  extract_lets hh u v
  refine State.canon_tryActive ?_
  simp [State.canon, v, u, h]
@[simp] theorem State.canon_applyRec {t : State} {p : Nat} {k : Cand} (h : t.canon) : (t.applyRec p k).canon := by
  unfold State.applyRec
  extract_lets u v
  have hu : u.canon := (State.canon_iff _).2 ((State.canon_iff t).1 h)
  have hv : v.canon := by
    unfold v
    split
    next w hw => exact ((State.placeLayer_only hw).mono (by decide)).canon hu
    · exact hu
  clear_value u v
  split
  case h_5 => 
    refine State.canon_foldl hu fun w i hw => ?_
    dsimp only
    (repeat' split) <;> simp [State.canon, hw]
  all_goals simp [State.canon, hu, hv]
@[simp] theorem State.canon_applyAll {t : State} {p : Nat} {xs : List Cand} (h : t.canon) : (t.applyAll p xs).canon := by
  unfold State.applyAll
  extract_lets old u1 u2 u3
  have h1 : u1.canon := by
    unfold u1
    split
    · split <;> simp [State.canon, h]
    · exact h
  have h2 : u2.canon := State.canon_foldl h1 fun w k hw => State.canon_applyRec hw
  have h3 : u3.canon := by unfold u3; split <;> simp [State.canon, h2]
  clear_value u3
  simp [State.canon, h3]
@[simp] theorem State.canon_tackImage {t : State} {p : Nat} {program : Bool} {room : Nat} {read : Nat → List Byte} (h : t.canon) :
    (t.tackImage p program room read).1.canon := by
  unfold State.tackImage
  dsimp only
  (repeat' split) <;> simp [State.canon, h]
@[simp] theorem State.canon_commitShadows {t : State} {p ty : Nat} {program : Bool} (h : t.canon) :
    (t.commitShadows p ty program).1.canon := by
  unfold State.commitShadows
  dsimp only
  (repeat' split) <;> simp [State.canon, h]
theorem State.canonOut_execCommit {t : State} {fn : Pn} {ty : Nat} (h : t.canon) : State.canonOut (execCommit fn ty t) := by
  unfold execCommit
  simp [State.canon, h]
theorem State.canonOut_execTack {t : State} {c : Cid} (h : t.canon) : State.canonOut (execTack c t) := by
  unfold execTack
  (repeat' split) <;> simp [State.canon, h]
theorem State.canonOut_execTcommit {t : State} {c : Cid} (h : t.canon) : State.canonOut (execTcommit c t) := by
  unfold execTcommit
  (repeat' split) <;> simp [State.canon, h]
@[simp] theorem State.canon_takeColl {t : State} {g : Nat} {m : CollMsg} (h : t.canon) : (t.takeColl g m).canon := by
  unfold State.takeColl
  (repeat' split) <;> simp [State.canon, h]
theorem State.canonOut_execCollData {t : State} {hd : Hdr} {g : Nat} {m : CollMsg} (h : t.canon) :
    State.canonOut (execCollData hd g m t) := by
  unfold execCollData
  exact State.canonOut_receive h (by (repeat' split) <;> simp [State.canon, h])
@[simp] theorem State.canon_writeBack {t : State} {p : Nat} (h : t.canon) : (t.writeBack p).canon := by
  unfold State.writeBack
  extract_lets q me plane u1 u2 u3 u4 u5 u6 lv
  have hp : ∀ (u : State) c x pl d, u.canon → (plane u c x pl d).canon := fun u c x pl d hu => State.canon_wrMem hu
  clear_value plane
  have h1 : u1.canon := State.canon_foldl h fun v e hv => hp _ _ _ _ _ hv
  have h2 : u2.canon := State.canon_foldl h1 fun v i hv => State.canon_foldl hv fun w pl hw => hp _ _ _ _ _ hw
  have h3 : u3.canon := State.canon_foldl h2 fun v e hv => State.canon_wrMem hv
  have h5 : u5.canon := by simp [State.canon, u5, u4, h3]
  have h6 : u6.canon := State.canon_foldl h5 fun v e hv => State.canon_wrMem hv
  clear_value u6
  simp [State.canon, h6]
@[simp] theorem State.canon_deliver' {t : State} {p kind owner : Nat} {d : List Byte} (h : t.canon) :
    (t.deliver' p kind owner d).canon := by
  unfold State.deliver'
  (repeat' split) <;> simp [State.canon, h]
@[simp] theorem State.canon_landLost {t : State} {p : Nat} (h : t.canon) : (t.landLost p).canon := by
  unfold State.landLost
  extract_lets q me first u1 u2
  have h1 : u1.canon := by simp [State.canon, u1, h]
  have h2 : u2.canon := State.canon_foldl h1 fun w e hw => State.canon_deliver' (State.canon_deliver' hw)
  clear_value u2
  refine State.canon_foldl h2 fun w n hw => ?_
  refine State.canon_foldl hw fun v g hv => ?_
  dsimp only
  generalize (if g.1 = 1 || g.1 = 2 then _ else first) = dst
  split
  · exact State.canon_deliver' hv
  · exact hv
@[simp] theorem State.canon_restoreNow {t : State} {p : Nat} (h : t.canon) : (t.restoreNow p).canon := by
  unfold State.restoreNow
  generalize 2 ^ 32 = big
  extract_lets q me pos own u1 r
  split
  extract_lets u2 u3 u4 u5 u6 u7 gs hit
  have h1 : u1.canon := State.canon_landLost (State.canon_writeBack h)
  have h2 : u2.canon := (State.canon_iff _).2 ((State.canon_iff u1).1 h1)
  have h4 : u4.canon := by simp [State.canon, u4, u3, h2]
  clear_value u4
  have h5 : u5.canon := State.canon_foldl h4 fun v c hv => by
    refine State.onlyIn.canon ((State.onlyIn_dropRelay (by decide)).2 ?_) hv
    simp
  have h7 : u7.canon := by simp [State.canon, u7, u6, h5]
  clear_value u7
  split
  · simp [State.canon, h]
  · simp [State.canon, h7]
theorem State.canonOut_execFetchData {t : State} {hd : Hdr} {p : Pn} {m : FetchMsg} (h : t.canon) :
    State.canonOut (execFetchData hd p m t) := by
  unfold execFetchData
  refine State.canonOut_receive h ?_
  extract_lets q u1 u2 have_ asked u3
  have h2 : u2.canon := by simp [State.canon, u2, u1, h]
  have h3 : u3.canon := by simp [State.canon, u3, h]
  have hr : (if (u3.part p).fetchWant.isEmpty then u3.restoreNow p else u3).canon := by
    split
    · exact State.canon_restoreNow h3
    · exact h3
  clear_value u2 u3
  split
  · exact h
  · split
    · split
      · exact h
      · split
        · split
          · simp [State.canon, h2]
          · split
            · simp [State.canon, h2]
            · extract_lets v
              have hv : v.canon := by simp [State.canon, v, h2]
              split
              · exact State.canon_restoreNow hv
              · exact hv
        · exact h2
    · split
      · exact h
      · split
        · split
          · exact hr
          · exact h
        · split <;> simp [State.canon, h]
theorem State.canonOut_execQrot {t : State} {c : Cid} (h : t.canon) : State.canonOut (execQrot c t) := by
  unfold execQrot
  split
  · refine State.canon_issueUnit h fun u hu => State.canon_foldl hu fun v x hv => ?_
    dsimp only
    (repeat' split) <;> simp [State.canon, hv]
  · exact h
theorem State.canonOut_execQnt {t : State} {c : Cid} (h : t.canon) : State.canonOut (execQnt c t) := by
  unfold execQnt
  split
  · refine State.canon_issueUnit h fun u hu => State.canon_foldl hu fun v x hv => ?_
    simp [State.canon, hv]
  · exact h
theorem State.canonOut_execDqnt {t : State} {c : Cid} (h : t.canon) : State.canonOut (execDqnt c t) := by
  unfold execDqnt
  split
  · exact State.canon_issueUnit h fun u hu => State.canon_wrWide hu
  · exact h
@[simp] theorem State.canon_playHeld {t : State} (h : t.canon) : t.playHeld.canon := by
  unfold State.playHeld
  refine State.canon_foldl h fun u e hu => ?_
  extract_lets v
  have hv : v.canon := by simp [State.canon, v, hu]
  split
  · exact hv
  · refine State.canon_foldl hv fun w m hw => ?_
    (repeat' split) <;> simp [State.canon, hw]
@[simp] theorem State.canon_applyEpoch {t : State} {e : Nat} {chg : List Change} (h : t.canon) : (t.applyEpoch e chg).canon := by
  unfold State.applyEpoch
  extract_lets me pick lost gone dark ms rg u1 u2 u3 u4 u5 u6 u7 u8 u9 u10 u11 u12
  have h3 : u3.canon := by simp [State.canon, u3, u2, u1, h]
  have h8 : u8.canon := by
    unfold u8
    split <;> simp [State.canon, u7, u6, u5, u4, h3]
  have h11 : u11.canon := by simp [State.canon, u11, u10, u9, h8]
  have h12 : u12.canon := State.canon_playHeld h11
  clear_value u12
  split
  · simp [State.canon, h12]
  · split <;> simp [State.canon, h12]
@[simp] theorem State.canon_tryCommit {t : State} (h : t.canon) : t.tryCommit.canon := by
  unfold State.tryCommit
  (repeat' split) <;> simp [State.canon, h]
@[simp] theorem State.canon_sendProposal {t : State} {chg : List Change} (h : t.canon) : (t.sendProposal chg).canon := by
  unfold State.sendProposal
  dsimp only
  (repeat' split) <;> simp [State.canon, h]
@[simp] theorem State.canon_propose {t : State} (h : t.canon) : t.propose.canon := by
  unfold State.propose
  dsimp only
  (repeat' split) <;> first | exact h | exact State.canon_sendProposal h
@[simp] theorem State.canon_commitEpoch {t : State} {e : Nat} {chg : List Change} (h : t.canon) : (t.commitEpoch e chg).canon := by
  unfold State.commitEpoch
  simp [State.canon, h]
theorem State.canonOut_execSuspectGatherEnd {t : State} (h : t.canon) : State.canonOut (execSuspectGatherEnd t) := by
  unfold execSuspectGatherEnd
  (repeat' split) <;> simp [State.canon, h]
theorem State.canonOut_execDeferredAckTest {t : State} (h : t.canon) : State.canonOut (execDeferredAckTest t) := by
  unfold execDeferredAckTest
  split
  · exact State.canon_propose h
  · split
    · exact h
    · extract_lets u
      have hu : u.canon := by simp [State.canon, u, h]
      clear_value u
      split
      · exact State.canon_propose (State.canon_tryCommit (by simp [State.canon, hu]))
      · simp [State.canon, hu]
theorem State.canonOut_execEpochAck {t : State} {hd : Hdr} {e : Nat} (h : t.canon) : State.canonOut (execEpochAck hd e t) := by
  unfold execEpochAck
  refine State.canonOut_receive h ?_
  split
  · exact h
  · split
    · exact h
    · exact State.canon_propose (State.canon_tryCommit (by simp [State.canon, h]))
theorem State.canonOut_execEpochCommit {t : State} {hd : Hdr} {e : Nat} {chg : List Change} (h : t.canon) :
    State.canonOut (execEpochCommit hd e chg t) := by
  unfold execEpochCommit
  refine State.canonOut_receive h ?_
  dsimp only
  (repeat' split) <;> simp [State.canon, h]
theorem State.canonOut_execJoinReq {t : State} {hd : Hdr} {lo hi : Nat} (h : t.canon) : State.canonOut (execJoinReq hd lo hi t) := by
  unfold execJoinReq
  exact State.canonOut_receive h (by (repeat' split) <;> simp [State.canon, h])
theorem State.canonOut_execLeaveReq {t : State} {hd : Hdr} {urgent : Bool} (h : t.canon) : State.canonOut (execLeaveReq hd urgent t) := by
  unfold execLeaveReq
  refine State.canonOut_receive h ?_
  dsimp only
  (repeat' split)
  · exact h
  · simp [State.canon, h]
  · exact State.canon_propose (by simp [State.canon, h])
@[simp] theorem State.canon_dropMain {t : State} : t.dropMain.canon := (State.canon_iff _).2 rfl
theorem State.canonOut_execInputOvervoltage {t : State} {vin : Nat} (h : t.canon) : State.canonOut (execInputOvervoltage vin t) := by
  unfold execInputOvervoltage
  simp [State.canon, h]
theorem State.canonOut_execInputCollapse {t : State} {vin : Nat} (h : t.canon) : State.canonOut (execInputCollapse vin t) := by
  unfold execInputCollapse
  (repeat' split) <;> simp [State.canon, h]
theorem State.canonOut_execMemoryConverterFail {t : State} {k : Fin 16} (h : t.canon) : State.canonOut (execMemoryConverterFail k t) := by
  unfold execMemoryConverterFail
  split
  · exact h
  · extract_lets gone u
    have hu : u.canon := by simp [State.canon, u, h]
    have hm : ({ u with mem := u.mem.filter (fun e => !gone e.1) } : State).canon :=
      State.canon_mem (twf_filter _ ((State.canon_iff _).1 hu))
    simp [State.canon, hm]
theorem State.canonOut_execThermalTrip {t : State} {d : DieN} {y : Fin 64} (h : t.canon) : State.canonOut (execThermalTrip d y t) := by
  unfold execThermalTrip
  simp [State.canon, h]
@[simp] theorem State.canon_powerOff {t : State} : t.powerOff.canon := (State.canon_iff _).2 rfl
theorem State.canonOut_execAuxiliaryRailLoss {t : State} (h : t.canon) : State.canonOut (execAuxiliaryRailLoss t) := by
  unfold execAuxiliaryRailLoss
  (repeat' split) <;> simp [State.canon, h]
theorem State.canon_stageWork {s t : State} (h : s.stageWork = some t) (hs : s.canon) : t.canon := by
  unfold State.stageWork at h
  extract_lets u5 u5' u6 u7 at h
  have h5 : u5'.canon := by simp [State.canon, u5', u5, hs]
  have h6 : u6.canon := by
    refine State.canon_foldl hs fun w d hw => State.canon_foldl hw fun v k hv => ?_
    dsimp only
    split
    · exact hv
    · simp [State.canon, hv]
  have h7 : u7.canon := (State.canon_iff _).2 rfl
  clear_value u5' u6 u7
  split at h
  · split at h
    · obtain rfl := Option.some.inj h; simp [State.canon, hs]
    · cases h
  · split at h
    · cases h
    · obtain rfl := Option.some.inj h; simp [State.canon, hs]
  · obtain rfl := Option.some.inj h; simp [State.canon, h5]
  · obtain rfl := Option.some.inj h; simp [State.canon, h6]
  · obtain rfl := Option.some.inj h
    split
    · exact h7
    · refine State.canon_foldl h7 fun w e hw => State.canon_foldl hw fun v x hv => ?_
      simp [State.canon, hv]
  · obtain rfl := Option.some.inj h; exact hs
theorem State.canonOut_execBootStageComplete {t : State} {ok : Bool} (h : t.canon) : State.canonOut (execBootStageComplete ok t) := by
  unfold execBootStageComplete
  dsimp only
  split
  · exact h
  · split
    · split
      · exact (State.canon_iff _).2 ((State.canon_iff t).1 h)
      · split <;> simp [State.canon, h]
      · split <;> simp [State.canon, h]
      · exact h
    · split
      · simp [State.canon, h]
      next u hu =>
        have hu' : u.canon := State.canon_stageWork hu h
        (repeat' split) <;> simp [State.canon, hu']
@[simp] theorem State.canon_landPacket {t : State} {hd : Hdr} {m : DataMsg} {j : Nat} {r : Msg} (h : t.canon) :
    (t.landPacket hd m j r).canon := by
  unfold State.landPacket
  dsimp only
  (repeat' split) <;> simp [State.canon, h]
theorem State.canonOut_execData {t : State} {hd : Hdr} {m : DataMsg} (h : t.canon) : State.canonOut (execData hd m t) := by
  unfold execData
  refine State.canonOut_receive h ?_
  dsimp only
  split
  · split
    · exact h
    · split <;> simp [State.canon, h]
  · split <;> simp [State.canon, h]
theorem State.canonOut_execGroupDigest {t : State} {hd : Hdr} {g : Nat} {dg : List Byte} (h : t.canon) :
    State.canonOut (execGroupDigest hd g dg t) := by
  unfold execGroupDigest
  exact State.canonOut_receive h (by simp [State.canon, h])
theorem State.canonOut_command {t : State} {p q op : Nat} {f : State → Cmd → State} (h : t.canon)
    (hf : ∀ (u : State) k, u.canon → (f u k).canon) : State.canonOut (t.command p q op f) := by
  unfold State.command
  split
  next u hu => exact ((State.fetchCmd_inl hu).mono (by decide)).canon h
  next u k hu => exact hf u k (((State.fetchCmd_inr hu).mono (by decide)).canon h)
theorem State.canonOut_execDmaCopyDone {t : State} {fn : Pn} {k : Nat} (h : t.canon) : State.canonOut (execDmaCopyDone fn k t) := by
  unfold execDmaCopyDone
  dsimp only
  (repeat' split) <;> simp [State.canon, h]
theorem State.canonOut_execHostReadTimeout {t : State} {fn : Pn} {k done : Nat} (h : t.canon) :
    State.canonOut (execHostReadTimeout fn k done t) := by
  unfold execHostReadTimeout
  (repeat' split) <;> simp [State.canon, h]
theorem State.canonOut_execHostTack {t : State} {fn : Pn} {q : Fin 63} (h : t.canon) : State.canonOut (execHostTack fn q t) := by
  unfold execHostTack
  refine State.canonOut_command h fun u k hu => ?_
  extract_lets len r
  have hr : r.1.canon := State.canon_tackImage hu
  clear_value r
  (repeat' split) <;> simp [State.canon, hu, hr]
theorem State.canonOut_execHostTcommit {t : State} {fn : Pn} {q : Fin 63} (h : t.canon) : State.canonOut (execHostTcommit fn q t) := by
  unfold execHostTcommit
  refine State.canonOut_command h fun u k hu => ?_
  extract_lets r
  have hr : r.1.canon := State.canon_commitShadows hu
  clear_value r
  (repeat' split) <;> simp [State.canon, hr]
theorem State.canonOut_execAttach {t : State} {fn : Pn} {q : Fin 63} (h : t.canon) : State.canonOut (execAttach fn q t) := by
  unfold execAttach
  refine State.canonOut_command h fun u k hu => ?_
  extract_lets c lx extra cl x pl codes hdr carry ach v dv w
  have hv : v.canon := State.canon_wrMem (State.canon_wrMem (State.canon_wrMem hu))
  have hw : w.canon := by simp [State.canon, w, hv]
  clear_value w
  (repeat' split) <;> simp [State.canon, hu, hw]
theorem State.canonOut_execBar4Access {t : State} {fn : Pn} {off len : Nat} {wr : Option (List Byte)} (h : t.canon) :
    State.canonOut (execBar4Access fn off len wr t) := by
  unfold execBar4Access
  rcases wr with _ | l
  · dsimp only
    (repeat' split) <;> simp [State.canon, h]
  · extract_lets a n bad
    split
    · exact h
    · split
      · exact h
      · dsimp only
        have hu : ((List.zip (List.range n) l).foldl (fun u e => if t.ownsMem fn (a + e.1) 1 then u.wrMem (a + e.1) [e.2] else u) t).canon
            := by
          refine State.canon_foldl h fun w e hw => ?_
          split
          · exact State.canon_wrMem hw
          · exact hw
        clear_value n bad
        rcases bad with _ | i <;> simp [State.canon, hu]
@[simp] theorem State.canon_leave {t : State} (h : t.canon) : t.leave.canon := by
  unfold State.leave
  dsimp only
  (repeat' split) <;> simp [State.canon, h]
theorem State.canonOut_execWithdrawSecured {t : State} (h : t.canon) : State.canonOut (execWithdrawSecured t) := by
  unfold execWithdrawSecured
  simp [State.canon, h]
@[simp] theorem State.canon_dumpTo {t : State} {k base slots size : Nat} {over_ : Bool} {data : List Byte} (h : t.canon) :
    (t.dumpTo k base slots size over_ data).1.canon := by
  unfold State.dumpTo
  dsimp only
  (repeat' split) <;> simp [State.canon, h]
@[simp] theorem State.canon_moduleDump {t : State} (h : t.canon) : t.moduleDump.canon := by
  unfold State.moduleDump
  dsimp only
  (repeat' split) <;> simp [State.canon, h]
theorem State.canonOut_execDumpInstant {t : State} {p : Pn} (h : t.canon) : State.canonOut (execDumpInstant p t) := by
  unfold execDumpInstant
  (repeat' split) <;> simp [State.canon, h]
theorem State.canonOut_execTagRecordWrite {t : State} {c : Cid} (h : t.canon) : State.canonOut (execTagRecordWrite c t) := by
  unfold execTagRecordWrite
  simp [State.canon, h]

end Sys2Proof.Machine
end
section
/-! SUPPORT. Proofs of the statements about every step: no command touches the queue and each keeps module memory canonical, so a step
takes the front command alone (log entry 2) and keeps the form. -/

namespace Sys2Proof.Machine

/-- What every command carries from a state to the next: the queue, and the canonical form of module memory. -/
structure State.carried (s t : State) : Prop where
  queue : t.pending = s.pending
  memory : s.memoryCanonical → t.memoryCanonical

/-- An outcome that is a state carries them. -/
def State.keeps (s : State) (o : Out) : Prop := ∀ t, o = .next t → s.carried t

theorem State.outIn.keeps {s : State} {o : Out} (h : s.outIn allBut o) (hc : s.canon → State.canonOut o) : s.keeps o := by
  rintro t rfl
  rw [State.outIn_next] at h
  rw [State.canonOut_next, State.canon_iff, State.canon_iff] at hc
  exact ⟨h.pending (by decide), hc⟩

theorem State.outIn.keepsQuiet {s : State} {o : Out} (h : s.outIn quiet o) : s.keeps o := by
  rintro t rfl
  rw [State.outIn_next] at h
  refine ⟨h.pending (by decide), fun hs => ?_⟩
  rw [State.memoryCanonical, h.mem (by decide)]
  exact hs

/-- Every command leaves the queue alone and keeps module memory canonical: its own rule, command by command.  Three rules are applied
with_reducible: Lean would otherwise run the command to see what kind of proposition the rule proves. -/
theorem exec_keeps (i : Instr) (s : State) : s.keeps (exec i s) := by
  cases i with
  | nop c => exact (State.outIn_execNop c s).keepsQuiet
  | stop c => exact (State.outIn_execStop c s).keepsQuiet
  | br c => exact (State.outIn_execBr c s).keepsQuiet
  | loop c => exact (State.outIn_execLoop c s).keepsQuiet
  | wait c => exact (State.outIn_execWait c s).keepsQuiet
  | waitSatisfied c => exact (State.outIn_execWaitSatisfied c s).keepsQuiet
  | waitTimeout c => exact (State.outIn_execWaitTimeout c s).keepsQuiet
  | signal c => exact (State.outIn_execSignal c s).keepsQuiet
  | fence c => exact (State.outIn_execFence c s).keepsQuiet
  | barrier c => exact (State.outIn_execBarrier c s).keepsQuiet
  | localBarrierComplete p g =>
    rw [exec]
    with_reducible exact (State.outIn_execLocalBarrierComplete p g s).keepsQuiet
  | lds c => exact (State.outIn_execLds c s).keeps State.canonOut_execLds
  | sts c => exact (State.outIn_execSts c s).keeps State.canonOut_execSts
  | copy c => exact (State.outIn_execCopy c s).keeps State.canonOut_execCopy
  | gather c => exact (State.outIn_execGather c s).keeps State.canonOut_execGather
  | scatter c => exact (State.outIn_execScatter c s).keeps State.canonOut_execScatter
  | send c => exact (State.outIn_execSend c s).keepsQuiet
  | recv c => exact (State.outIn_execRecv c s).keepsQuiet
  | amv c => exact (State.outIn_execAmv c s).keepsQuiet
  | amvt c => exact (State.outIn_execAmvt c s).keepsQuiet
  | productStart c codes => exact (State.outIn_execProductStart c codes s).keeps State.canonOut_execProductStart
  | referenceProductReturn c => exact (State.outIn_execReferenceProductReturn c s).keeps State.canonOut_execReferenceProductReturn
  | insertedProduct c => exact (State.outIn_execInsertedProduct c s).keeps State.canonOut_execInsertedProduct
  | convRangeWiden r x g => exact (State.outIn_execConvRangeWiden r x g s).keepsQuiet
  | crossbarSuspect r x => exact (State.outIn_execCrossbarSuspect r x s).keepsQuiet
  | noiseSigmaUpdate r x => exact (State.outIn_execNoiseSigmaUpdate r x s).keepsQuiet
  | outputBaseline r x => exact (State.outIn_execOutputBaseline r x s).keepsQuiet
  | driftRefRead r x codes => exact (State.outIn_execDriftRefRead r x codes s).keepsQuiet
  | aread c levels => exact (State.outIn_execAread c levels s).keeps State.canonOut_execAread
  | aprogUpdate c => exact (State.outIn_execAprogUpdate c s).keepsQuiet
  | aprogLoad c => exact (State.outIn_execAprogLoad c s).keepsQuiet
  | writeStart c => exact (State.outIn_execWriteStart c s).keeps State.canonOut_execWriteStart
  | rowWriteDone c ok rounds levels => exact (State.outIn_execRowWriteDone c ok rounds levels s).keeps State.canonOut_execRowWriteDone
  | writeComplete c => exact (State.outIn_execWriteComplete c s).keepsQuiet
  | aswap c => exact (State.outIn_execAswap c s).keepsQuiet
  | aswapExchange c => exact (State.outIn_execAswapExchange c s).keepsQuiet
  | acal c => exact (State.outIn_execAcal c s).keepsQuiet
  | calibrationStart d => exact (State.outIn_execCalibrationStart d s).keepsQuiet
  | recalSlice r x z m rows sg sgT => exact (State.outIn_execRecalSlice r x z m rows sg sgT s).keepsQuiet
  | dmm c => exact (State.outIn_execDmm c s).keeps State.canonOut_execDmm
  | dconv c => exact (State.outIn_execDconv c s).keeps State.canonOut_execDconv
  | qrot c => exact (State.outIn_execQrot c s).keeps State.canonOut_execQrot
  | qnt c => exact (State.outIn_execQnt c s).keeps State.canonOut_execQnt
  | dqnt c => exact (State.outIn_execDqnt c s).keeps State.canonOut_execDqnt
  | vadd c => exact (State.outIn_execVadd c s).keeps State.canonOut_execVadd
  | vmul c => exact (State.outIn_execVmul c s).keeps State.canonOut_execVmul
  | vfma c => exact (State.outIn_execVfma c s).keeps State.canonOut_execVfma
  | vcmp c => exact (State.outIn_execVcmp c s).keeps State.canonOut_execVcmp
  | vsel c => exact (State.outIn_execVsel c s).keeps State.canonOut_execVsel
  | vmin c => exact (State.outIn_execVmin c s).keeps State.canonOut_execVmin
  | vmax c => exact (State.outIn_execVmax c s).keeps State.canonOut_execVmax
  | acc c => exact (State.outIn_execAcc c s).keepsQuiet
  | accrd c => exact (State.outIn_execAccrd c s).keeps State.canonOut_execAccrd
  | cred c => exact (State.outIn_execCred c s).keeps State.canonOut_execCred
  | cbcast c => exact (State.outIn_execCbcast c s).keeps State.canonOut_execCbcast
  | cnorm c => exact (State.outIn_execCnorm c s).keeps State.canonOut_execCnorm
  | cfin c => exact (State.outIn_execCfin c s).keeps State.canonOut_execCfin
  | topkScan c => exact (State.outIn_execTopkScan c s).keepsQuiet
  | topkMerge c => exact (State.outIn_execTopkMerge c s).keepsQuiet
  | tack c => exact (State.outIn_execTack c s).keeps State.canonOut_execTack
  | tcommit c => exact (State.outIn_execTcommit c s).keeps State.canonOut_execTcommit
  | drill c => exact (State.outIn_execDrill c s).keepsQuiet
  | drillReferenceTimeout c => exact (State.outIn_execDrillReferenceTimeout c s).keepsQuiet
  | digest c => exact (State.outIn_execDigest c s).keepsQuiet
  | illegalInstruction c => exact (State.outIn_execIllegalInstruction c s).keepsQuiet
  | instrComplete c u => exact (State.outIn_execInstrComplete c u s).keepsQuiet
  | executionFault c u code cause addr => exact (State.outIn_execExecutionFault c u code cause addr s).keepsQuiet
  | collectiveTimeout c => exact (State.outIn_execCollectiveTimeout c s).keepsQuiet
  | drillVisit d => exact (State.outIn_execDrillVisit d s).keepsQuiet
  | drillRound d c runs => exact (State.outIn_execDrillRound d c runs s).keepsQuiet
  | govSample vin iin => exact (State.outIn_execGovSample vin iin s).keepsQuiet
  | govWindow => exact (State.outIn_execGovWindow s).keepsQuiet
  | govCeilingRaise => exact (State.outIn_execGovCeilingRaise s).keepsQuiet
  | overcurrentStall iin => exact (State.outIn_execOvercurrentStall iin s).keepsQuiet
  | overcurrentRelease iin => exact (State.outIn_execOvercurrentRelease iin s).keepsQuiet
  | gaitChange r g => exact (State.outIn_execGaitChange r g s).keepsQuiet
  | gaitClockSwitch r => exact (State.outIn_execGaitClockSwitch r s).keepsQuiet
  | droopStretch r mv => exact (State.outIn_execDroopStretch r mv s).keepsQuiet
  | droopDerate r => exact (State.outIn_execDroopDerate r s).keepsQuiet
  | droopDerateEnd r => exact (State.outIn_execDroopDerateEnd r s).keepsQuiet
  | tempSplit hot cold diff => exact (State.outIn_execTempSplit hot cold diff s).keepsQuiet
  | tempSplitClear r diff => exact (State.outIn_execTempSplitClear r diff s).keepsQuiet
  | bridgeFail d e => exact (State.outIn_execBridgeFail d e s).keepsQuiet
  | regulatorFail d pr b why => exact (State.outIn_execRegulatorFail d pr b why s).keepsQuiet
  | senseFault d pr mv => exact (State.outIn_execSenseFault d pr mv s).keepsQuiet
  | jointSample d pr vout vsense amps => exact (State.outIn_execJointSample d pr vout vsense amps s).keepsQuiet
  | jointFault d pr fail => exact (State.outIn_execJointFault d pr fail s).keepsQuiet
  | vcFail d z amps => exact (State.outIn_execVcFail d z amps s).keepsQuiet
  | memoryConverterFail k => exact (State.outIn_execMemoryConverterFail k s).keeps State.canonOut_execMemoryConverterFail
  | regionSwitchOn r neigh zone => exact (State.outIn_execRegionSwitchOn r neigh zone s).keepsQuiet
  | switchOnStage r seg => exact (State.outIn_execSwitchOnStage r seg s).keepsQuiet
  | switchOnFault r => exact (State.outIn_execSwitchOnFault r s).keepsQuiet
  | regionLeaveOn r => exact (State.outIn_execRegionLeaveOn r s).keepsQuiet
  | inputOvervoltage vin => exact (State.outIn_execInputOvervoltage vin s).keeps State.canonOut_execInputOvervoltage
  | inputOvWarn vin => exact (State.outIn_execInputOvWarn vin s).keepsQuiet
  | inputUndervoltage vin => exact (State.outIn_execInputUndervoltage vin s).keepsQuiet
  | powerFailHold vin => exact (State.outIn_execPowerFailHold vin s).keepsQuiet
  | powerFailRelease vin => exact (State.outIn_execPowerFailRelease vin s).keepsQuiet
  | inputCollapse vin => exact (State.outIn_execInputCollapse vin s).keeps State.canonOut_execInputCollapse
  | thermalTrip d t => exact (State.outIn_execThermalTrip d t s).keeps State.canonOut_execThermalTrip
  | monConversion d ch q raw src => exact (State.outIn_execMonConversion d ch q raw src s).keepsQuiet
  | monBurstTrigger p d =>
    rw [exec]
    with_reducible exact (State.outIn_execMonBurstTrigger p d s).keepsQuiet
  | monUrgent d ch => exact (State.outIn_execMonUrgent d ch s).keepsQuiet
  | refinFault d => exact (State.outIn_execRefinFault d s).keepsQuiet
  | refinFaultClear d => exact (State.outIn_execRefinFaultClear d s).keepsQuiet
  | sensorFail d t => exact (State.outIn_execSensorFail d t s).keepsQuiet
  | monitorSelfCal d k ok => exact (State.outIn_execMonitorSelfCal d k ok s).keepsQuiet
  | columnSelfCal r bad => exact (State.outIn_execColumnSelfCal r bad s).keepsQuiet
  | calRecordStore r => exact (State.outIn_execCalRecordStore r s).keepsQuiet
  | portSignalDetect pt => exact (State.outIn_execPortSignalDetect pt s).keepsQuiet
  | linkTrainingEnd pt ok => exact (State.outIn_execLinkTrainingEnd pt ok s).keepsQuiet
  | portDown pt => exact (State.outIn_execPortDown pt s).keepsQuiet
  | linkReplay pt have_ => exact (State.outIn_execLinkReplay pt have_ s).keepsQuiet
  | hello pt m => exact (State.outIn_execHello pt m s).keepsQuiet
  | helloAck pt m => exact (State.outIn_execHelloAck pt m s).keepsQuiet
  | helloResend pt => exact (State.outIn_execHelloResend pt s).keepsQuiet
  | linkState h nbrs => exact (State.outIn_execLinkState h nbrs s).keepsQuiet
  | ping h => exact (State.outIn_execPing h s).keepsQuiet
  | pong h => exact (State.outIn_execPong h s).keepsQuiet
  | pingTimer => exact (State.outIn_execPingTimer s).keepsQuiet
  | lossTimeout n => exact (State.outIn_execLossTimeout n s).keepsQuiet
  | suspect h n => exact (State.outIn_execSuspect h n s).keepsQuiet
  | suspectGatherEnd => exact (State.outIn_execSuspectGatherEnd s).keeps State.canonOut_execSuspectGatherEnd
  | coordinatorLost => exact (State.outIn_execCoordinatorLost s).keepsQuiet
  | epochPropose h e chg => exact (State.outIn_execEpochPropose h e chg s).keepsQuiet
  | deferredAckTest => exact (State.outIn_execDeferredAckTest s).keeps State.canonOut_execDeferredAckTest
  | epochAck h e => exact (State.outIn_execEpochAck h e s).keeps State.canonOut_execEpochAck
  | immediateAckTimeout => exact (State.outIn_execImmediateAckTimeout s).keepsQuiet
  | epochCommit h e chg => exact (State.outIn_execEpochCommit h e chg s).keeps State.canonOut_execEpochCommit
  | joinReq h lo hi => exact (State.outIn_execJoinReq h lo hi s).keeps State.canonOut_execJoinReq
  | joinLockTimeout => exact (State.outIn_execJoinLockTimeout s).keepsQuiet
  | leaveReq h urgent => exact (State.outIn_execLeaveReq h urgent s).keeps State.canonOut_execLeaveReq
  | stepReplay h p step => exact (State.outIn_execStepReplay h p step s).keepsQuiet
  | timeSync pt h t1 grand ftStep => exact (State.outIn_execTimeSync pt h t1 grand ftStep s).keepsQuiet
  | timeReply pt h t1 t2 t3 => exact (State.outIn_execTimeReply pt h t1 t2 t3 s).keepsQuiet
  | timeSyncTimer => exact (State.outIn_execTimeSyncTimer s).keepsQuiet
  | ftimeSet fn v => exact (State.outIn_execFtimeSet fn v s).keepsQuiet
  | ftimeStep => exact (State.outIn_execFtimeStep s).keepsQuiet
  | ppsInEdge => exact (State.outIn_execPpsInEdge s).keepsQuiet
  | ppsOutSecond => exact (State.outIn_execPpsOutSecond s).keepsQuiet
  | data h m => exact (State.outIn_execData h m s).keeps State.canonOut_execData
  | e2eAck h flow seq bad => exact (State.outIn_execE2eAck h flow seq bad s).keepsQuiet
  | e2eResend c n => exact (State.outIn_execE2eResend c n s).keepsQuiet
  | remoteSignal h c k n => exact (State.outIn_execRemoteSignal h c k n s).keepsQuiet
  | barrierArrive h g rank => exact (State.outIn_execBarrierArrive h g rank s).keepsQuiet
  | barrierRelease h g => exact (State.outIn_execBarrierRelease h g s).keepsQuiet
  | collData h g m => exact (State.outIn_execCollData h g m s).keeps State.canonOut_execCollData
  | collCtrl h g rank count => exact (State.outIn_execCollCtrl h g rank count s).keeps State.canonOut_execCollCtrl
  | unknownMessage h ty => exact (State.outIn_execUnknownMessage h ty s).keepsQuiet
  | groupDigest h g dg => exact (State.outIn_execGroupDigest h g dg s).keeps State.canonOut_execGroupDigest
  | snapPlan h p step ival => exact (State.outIn_execSnapPlan h p step ival s).keepsQuiet
  | quiesceDone p =>
    rw [exec]
    with_reducible exact (State.outIn_execQuiesceDone p s).keepsQuiet
  | snapReq h p cause => exact (State.outIn_execSnapReq h p cause s).keepsQuiet
  | remountAsk h size => exact (State.outIn_execRemountAsk h size s).keepsQuiet
  | remountGrant h left => exact (State.outIn_execRemountGrant h left s).keepsQuiet
  | remountDeny h left => exact (State.outIn_execRemountDeny h left s).keepsQuiet
  | snapData h step item off data last => exact (State.outIn_execSnapData h step item off data last s).keepsQuiet
  | snapStored h p step ok => exact (State.outIn_execSnapStored h p step ok s).keepsQuiet
  | snapDone h p step ok => exact (State.outIn_execSnapDone h p step ok s).keepsQuiet
  | snapLeaderTimeout p => exact (State.outIn_execSnapLeaderTimeout p s).keepsQuiet
  | snapSecured h p step => exact (State.outIn_execSnapSecured h p step s).keepsQuiet
  | snapAbort h p step => exact (State.outIn_execSnapAbort h p step s).keepsQuiet
  | emergRecord h data => exact (State.outIn_execEmergRecord h data s).keepsQuiet
  | fetchReq h owner step item off len => exact (State.outIn_execFetchReq h owner step item off len s).keepsQuiet
  | fetchData h p m => exact (State.outIn_execFetchData h p m s).keeps State.canonOut_execFetchData
  | restoreReady h p step ok => exact (State.outIn_execRestoreReady h p step ok s).keepsQuiet
  | resumeMsg h p step t => exact (State.outIn_execResumeMsg h p step t s).keepsQuiet
  | load fn q => exact (State.outIn_execLoad fn q s).keepsQuiet
  | start fn q => exact (State.outIn_execStart fn q s).keepsQuiet
  | startTimeReached c => exact (State.outIn_execStartTimeReached c s).keepsQuiet
  | hostStop fn q => exact (State.outIn_execHostStop fn q s).keepsQuiet
  | resume fn q => exact (State.outIn_execResume fn q s).keepsQuiet
  | resetContext fn q => exact (State.outIn_execResetContext fn q s).keepsQuiet
  | resetEngine fn q => exact (State.outIn_execResetEngine fn q s).keepsQuiet
  | dmaCopy fn q => exact (State.outIn_execDmaCopy fn q s).keepsQuiet
  | dmaCopyDone fn k => exact (State.outIn_execDmaCopyDone fn k s).keeps State.canonOut_execDmaCopyDone
  | hostReadTimeout fn k done => exact (State.outIn_execHostReadTimeout fn k done s).keeps State.canonOut_execHostReadTimeout
  | hostTack fn q => exact (State.outIn_execHostTack fn q s).keeps State.canonOut_execHostTack
  | hostTcommit fn q => exact (State.outIn_execHostTcommit fn q s).keeps State.canonOut_execHostTcommit
  | flag fn q => exact (State.outIn_execFlag fn q s).keepsQuiet
  | attach fn q => exact (State.outIn_execAttach fn q s).keeps State.canonOut_execAttach
  | attachDriftCheck c levels codes => exact (State.outIn_execAttachDriftCheck c levels codes s).keepsQuiet
  | hostSnapReq fn q => exact (State.outIn_execHostSnapReq fn q s).keepsQuiet
  | drillPkg fn q => exact (State.outIn_execDrillPkg fn q s).keepsQuiet
  | shardMap fn q => exact (State.outIn_execShardMap fn q s).keepsQuiet
  | shardCopy p => exact (State.outIn_execShardCopy p s).keepsQuiet
  | planBuf fn q => exact (State.outIn_execPlanBuf fn q s).keepsQuiet
  | status fn q => exact (State.outIn_execStatus fn q s).keepsQuiet
  | sqDoorbell fn q tail entries host => exact (State.outIn_execSqDoorbell fn q tail entries host s).keepsQuiet
  | cqHeadDoorbell fn q head => exact (State.outIn_execCqHeadDoorbell fn q head s).keepsQuiet
  | qCreate fn q => exact (State.outIn_execQCreate fn q s).keepsQuiet
  | qDelete fn q => exact (State.outIn_execQDelete fn q s).keepsQuiet
  | cqCoalesceTimer fn q => exact (State.outIn_execCqCoalesceTimer fn q s).keepsQuiet
  | bar4Access fn off len wr => exact (State.outIn_execBar4Access fn off len wr s).keeps State.canonOut_execBar4Access
  | poisonedTlp fn bar addr => exact (State.outIn_execPoisonedTlp fn bar addr s).keepsQuiet
  | malformedTlp => exact (State.outIn_execMalformedTlp s).keepsQuiet
  | linkLoss => exact (State.outIn_execLinkLoss s).keepsQuiet
  | perstDeassert => exact (State.outIn_execPerstDeassert s).keepsQuiet
  | perstAssert => exact (State.outIn_execPerstAssert s).keepsQuiet
  | pcieLinkUp rate width => exact (State.outIn_execPcieLinkUp rate width s).keepsQuiet
  | functionLevelReset p => exact (State.outIn_execFunctionLevelReset p s).keepsQuiet
  | pcieHotReset => exact (State.outIn_execPcieHotReset s).keepsQuiet
  | moduleReset fn v => exact (State.outIn_execModuleReset fn v s).keepsQuiet
  | moduleResetStage => exact (State.outIn_execModuleResetStage s).keepsQuiet
  | moduleResetOverrun => exact (State.outIn_execModuleResetOverrun s).keepsQuiet
  | pwrCycleReq fn v => exact (State.outIn_execPwrCycleReq fn v s).keepsQuiet
  | supervisorExpiry => exact (State.outIn_execSupervisorExpiry s).keepsQuiet
  | counterLowRead fn n user => exact (State.outIn_execCounterLowRead fn n user s).keepsQuiet
  | cellSampleRead fn c => exact (State.outIn_execCellSampleRead fn c s).keepsQuiet
  | monWrIndexRead d => exact (State.outIn_execMonWrIndexRead d s).keepsQuiet
  | shadowSel fn ty inst => exact (State.outIn_execShadowSel fn ty inst s).keepsQuiet
  | commit fn ty => exact (State.outIn_execCommit fn ty s).keeps State.canonOut_execCommit
  | registerWrite fn off len v => exact (State.outIn_execRegisterWrite fn off len v s).keepsQuiet
  | inputRise => exact (State.outIn_execInputRise s).keepsQuiet
  | bootStageComplete ok => exact (State.outIn_execBootStageComplete ok s).keeps State.canonOut_execBootStageComplete
  | bootStageTimeout => exact (State.outIn_execBootStageTimeout s).keepsQuiet
  | tackStoreWrite => exact (State.outIn_execTackStoreWrite s).keepsQuiet
  | setEndpointId b eid => exact (State.outIn_execSetEndpointId b eid s).keepsQuiet
  | pldmSensorRead b id => exact (State.outIn_execPldmSensorRead b id s).keepsQuiet
  | platformEventRetry id => exact (State.outIn_execPlatformEventRetry id s).keepsQuiet
  | platformEventAck id => exact (State.outIn_execPlatformEventAck id s).keepsQuiet
  | setStateEffecterStates b eff st => exact (State.outIn_execSetStateEffecterStates b eff st s).keepsQuiet
  | pldmFirmwareUpdate b comp data => exact (State.outIn_execPldmFirmwareUpdate b comp data s).keepsQuiet
  | activateFirmware b => exact (State.outIn_execActivateFirmware b s).keepsQuiet
  | spdmGetVersion b => exact (State.outIn_execSpdmGetVersion b s).keepsQuiet
  | spdmGetCapabilities b => exact (State.outIn_execSpdmGetCapabilities b s).keepsQuiet
  | spdmNegotiateAlgorithms b sha3 mldsa => exact (State.outIn_execSpdmNegotiateAlgorithms b sha3 mldsa s).keepsQuiet
  | spdmGetCertificate b slot => exact (State.outIn_execSpdmGetCertificate b slot s).keepsQuiet
  | spdmChallenge b slot nonce => exact (State.outIn_execSpdmChallenge b slot nonce s).keepsQuiet
  | spdmGetMeasurements b idx slot => exact (State.outIn_execSpdmGetMeasurements b idx slot s).keepsQuiet
  | readLog b seq count => exact (State.outIn_execReadLog b seq count s).keepsQuiet
  | daybookHighWater => exact (State.outIn_execDaybookHighWater s).keepsQuiet
  | getStatus => exact (State.outIn_execGetStatus s).keepsQuiet
  | getIdentity => exact (State.outIn_execGetIdentity s).keepsQuiet
  | readSensor id => exact (State.outIn_execReadSensor id s).keepsQuiet
  | mailboxReadLog seq count => exact (State.outIn_execMailboxReadLog seq count s).keepsQuiet
  | getPower => exact (State.outIn_execGetPower s).keepsQuiet
  | getThermal => exact (State.outIn_execGetThermal s).keepsQuiet
  | getAlert => exact (State.outIn_execGetAlert s).keepsQuiet
  | clearAlert bits => exact (State.outIn_execClearAlert bits s).keepsQuiet
  | requestReset v => exact (State.outIn_execRequestReset v s).keepsQuiet
  | fwStart len => exact (State.outIn_execFwStart len s).keepsQuiet
  | fwData off data => exact (State.outIn_execFwData off data s).keepsQuiet
  | fwFinish => exact (State.outIn_execFwFinish s).keepsQuiet
  | mailboxReadResponse => exact (State.outIn_execMailboxReadResponse s).keepsQuiet
  | mailboxBadCmd code => exact (State.outIn_execMailboxBadCmd code s).keepsQuiet
  | svcPress => exact (State.outIn_execSvcPress s).keepsQuiet
  | shortPress => exact (State.outIn_execShortPress s).keepsQuiet
  | longPress => exact (State.outIn_execLongPress s).keepsQuiet
  | handleTouch => exact (State.outIn_execHandleTouch s).keepsQuiet
  | touchLapse => exact (State.outIn_execTouchLapse s).keepsQuiet
  | latchOpen => exact (State.outIn_execLatchOpen s).keepsQuiet
  | latchClosed => exact (State.outIn_execLatchClosed s).keepsQuiet
  | withdrawSecured => exact (State.outIn_execWithdrawSecured s).keeps State.canonOut_execWithdrawSecured
  | safeLogWaitExpiry => exact (State.outIn_execSafeLogWaitExpiry s).keepsQuiet
  | dumpInstant p => exact (State.outIn_execDumpInstant p s).keeps State.canonOut_execDumpInstant
  | tagRecordWrite c => exact (State.outIn_execTagRecordWrite c s).keeps State.canonOut_execTagRecordWrite
  | feedIdChange v => exact (State.outIn_execFeedIdChange v s).keepsQuiet
  | auxConverterFail k => exact (State.outIn_execAuxConverterFail k s).keepsQuiet
  | auxiliaryRailLoss => exact (State.outIn_execAuxiliaryRailLoss s).keeps State.canonOut_execAuxiliaryRailLoss
  | numvfsChange n => exact (State.outIn_execNumvfsChange n s).keepsQuiet
  | snapReqLapse p => exact (State.outIn_execSnapReqLapse p s).keepsQuiet
  | progressWordSample p => exact (State.outIn_execProgressWordSample p s).keepsQuiet
  | policyEngineWindow conf gaits => exact (State.outIn_execPolicyEngineWindow conf gaits s).keepsQuiet
  | messageLands c n => exact (State.outIn_execMessageLands c n s).keeps State.canonOut_execMessageLands
  | resetComplete c => exact (State.outIn_execResetComplete c s).keepsQuiet
  | ledFlashEnd => exact (State.outIn_execLedFlashEnd s).keepsQuiet

theorem State.tick_only (s : State) : s.onlyIn s.tick [.fab, .rack, .time] := (State.onlyIn_tick (by simp)).2 (s.onlyIn_refl _)

/-- Settles O3: the front command leaves the queue it runs on, the rest, and a tick of the clock leaves an empty one. -/
theorem stepTakesOneCommand : Obligations.StepTakesOneCommand := by
  unfold Obligations.StepTakesOneCommand
  intro s t h
  unfold step at h
  split at h
  next hp =>
    obtain rfl := Host.Outcome.next.inj h
    rw [s.tick_only.pending (by decide), hp]
    rfl
  next i rest hp => rw [(exec_keeps i _ t h).queue, hp]; rfl

/-- Settles O4: every command keeps module memory canonical, and a tick of the clock does not touch it. -/
theorem stepKeepsMemoryCanonical : Obligations.StepKeepsMemoryCanonical := by
  unfold Obligations.StepKeepsMemoryCanonical
  intro s t hs h
  unfold step at h
  split at h
  · obtain rfl := Host.Outcome.next.inj h
    rw [State.memoryCanonical, s.tick_only.mem (by decide)]
    exact hs
  next i rest hp => exact (exec_keeps i _ t h).memory hs

end Sys2Proof.Machine
end

section
/-! SUPPORT. Proofs of the statements about a step and a byte: the front command, the idle step (log entry 2) and module memory. -/

namespace Sys2Proof.Machine

/-- Settles O1: a step runs the front command by its definition. -/
theorem stepRunsFrontCommand : Obligations.StepRunsFrontCommand := by
  unfold Obligations.StepRunsFrontCommand
  intro c rest s h
  simp only [step, h]

/-- Without the auxiliary rail no time passes, and with it and no offset to slew one nanosecond does (R323). -/
theorem State.tick_time (s : State) :
    (s.pow.aux = false → s.tick.time = s.time) ∧ (s.pow.aux = true → s.fab.slew = 0 → s.tick.time = (s.time + 1) % 2 ^ 64) := by
  have hw : ∀ u : State, u.watch.time = u.time := fun u => (State.onlyIn_watch (s := u) (by simp)).2 (u.onlyIn_refl [.rack]) .time (by decide)
  unfold State.tick State.count1
  refine ⟨fun h => ?_, fun h hs => ?_⟩
  · simp [h, hw]
  · simp [h, hs, hw]

/-- Settles O2: an empty queue lets the clock tick. -/
theorem idleStepTicks : Obligations.IdleStepTicks := by
  unfold Obligations.IdleStepTicks
  intro s h
  refine ⟨s.tick, by simp only [step, h], s.tick_only.mono (by decide), s.tick_time⟩

/-- Settles O6: the rule of a write of module memory. -/
theorem memoryReadsAsWritten : Obligations.MemoryReadsAsWritten := by
  unfold Obligations.MemoryReadsAsWritten
  exact fun s a l b => s.wrMem_rd8 a b l

end Sys2Proof.Machine
end

section
/-! SUPPORT. Proofs of the statements about instructions that enter a unit's queue: the rule of issue (R29, R33, R58), and what each effect
leaves of a cell's run. -/

namespace Sys2Proof.Machine

/-! ### Issue -/

/-- A cell that may issue stands RUNNING at the word, in a region that is ON (R57). -/
theorem State.atOp_spec {s : State} {c w : Nat} {o : Op} (h : s.atOp c o = some w) :
    (s.cell c).st = 2 ∧ (s.cell c).word.toNat = w ∧ wordOp w = some o ∧ s.regionOn c = true := by
  unfold State.atOp at h
  split at h
  next hi =>
    extract_lets v at h
    split at h
    next ho =>
      obtain rfl := Option.some.inj h
      unfold State.issuing at hi
      exact ⟨by simp_all, rfl, by simpa using ho, by simp_all⟩
    · cases h
  · cases h

/-- What it says that a unit accepts an instruction: the word is legal and faults in nothing, the queue has room and what the instruction
reads and writes is free (R33, R47). -/
structure State.accepted (s : State) (c w : Nat) (i : Iss) (ready : Bool) : Prop where
  cause : i.cause = none
  legal : commonIll w = []
  faultless : i.flt = []
  room : (s.cell c).queued (wordUnit w) < 8
  ready : ready = true
  clear : (s.cell c).clear i.rd i.wr = true

theorem State.accepted_of_accepts {s : State} {c w : Nat} {i : Iss} {ready : Bool} (h : s.accepts c w i ready = true) :
    s.accepted c w i ready := by
  simp only [State.accepts, Bool.and_eq_true, decide_eq_true_eq, beq_iff_eq, List.isEmpty_iff, Option.isNone_iff_eq_none,
    List.length_eq_zero_iff] at h
  obtain ⟨⟨⟨⟨⟨hcause, hlegal⟩, hflt⟩, hroom⟩, hready⟩, hclear⟩ := h
  exact ⟨hcause, hlegal, hflt, hroom, hready, hclear⟩

/-- An instruction that its unit accepts enters the queue, and has its effect unless its count is zero (R33, R48). -/
theorem State.issueUnit_accepts {s : State} {c w : Nat} {i : Iss} {ready : Bool} (h : s.accepts c w i ready = true) (f : State → State) :
    s.issueUnit c w i ready f = if i.zero then s.enter c w i else f (s.enter c w i) := by
  have ha := State.accepted_of_accepts h
  unfold State.issueUnit
  extract_lets u cl
  rw [if_neg (by simp [ha.cause, ha.legal]), ha.faultless]
  dsimp only
  rw [if_neg (by simpa [u, cl] using ha.room), if_neg (by simp [cl, ha.ready, ha.clear])]

theorem State.issueUnit_enters {s : State} {c w : Nat} {i : Iss} {ready : Bool} (h : s.accepts c w i ready = true) (hz : i.zero = false)
    (f : State → State) : s.issueUnit c w i ready f = f (s.enter c w i) := by
  rw [State.issueUnit_accepts h, hz, if_neg Bool.false_ne_true]

/-- An instruction that enters its unit's queue changes its own cell, and of that what a retirement may change, the queue, and the key of
the next entry (R29, R33). -/
theorem State.enter_spec (s : State) (c w : Nat) (i : Iss) :
    s.cellOnly (s.enter c w i) c ∧
      ∃ tag : Bool, ({ s.cell c with
        nextKey := (s.cell c).nextKey + 1
        flight := (s.cell c).flight ++ [{ Flight.reset with
          unit := wordUnit w, word := (s.cell c).word, pc := (s.cell c).pc, status := if i.zero then 1 else 0, src := i.a, dst := i.d
          par := i.par, rd := if i.zero then [] else i.rd, wr := if i.zero then [] else i.wr, tag := tag, at_ := s.time
          key := (s.cell c).nextKey }] } : Cell).sameBody ((s.enter c w i).cell c) := by
  unfold State.enter
  extract_lets cl
  split
  next u t hu =>
  extract_lets v fl
  have hv : s.cellOnly v c := by
    have := s.sampleTag_cellOnly c; rw [hu] at this
    exact this.trans (State.tagged_cellOnly u c t _)
  have hrun : (s.cell c).sameRun (v.cell c) := by
    have := s.sampleTag_sameRun c; rw [hu] at this
    exact this.trans (State.tagged_sameRun u c t _ fun x => ⟨rfl, rfl, rfl, rfl, rfl, rfl, rfl⟩)
  have htime : v.time = s.time := hv.1 .time (by decide)
  clear_value v
  refine ⟨hv.trans (v.modCell_cellOnly c _), t, ?_⟩
  rw [State.modCell_cell_self]
  obtain ⟨hbody, -⟩ := hrun
  unfold Cell.sameBody at hbody ⊢
  rw [hbody]
  simp [Cell.advance, fl, cl, htime]

/-- The entry an instruction makes: it stands last in the queue, and its cell's tables are as they were. -/
theorem State.enter_cell (s : State) (c w : Nat) (i : Iss) :
    ((s.enter c w i).cell c).nextKey = (s.cell c).nextKey + 1 ∧ ((s.enter c w i).cell c).sends = (s.cell c).sends ∧
      ((s.enter c w i).cell c).recvs = (s.cell c).recvs ∧ ((s.enter c w i).cell c).st = (s.cell c).st ∧
      ((s.enter c w i).cell c).xbind = (s.cell c).xbind ∧
      ∃ f : Flight, ((s.enter c w i).cell c).flight = (s.cell c).flight ++ [f] ∧ f.dst = i.d ∧ f.src = i.a := by
  obtain ⟨-, tag, h⟩ := s.enter_spec c w i
  rw [h]
  exact ⟨rfl, rfl, rfl, rfl, rfl, _, rfl, rfl, rfl⟩

/-- A state that differs from another in its cells alone is that state with those cells. -/
theorem State.onlyIn.eq_cells {s t : State} (h : s.onlyIn t [.cells]) : t = { s with cells := t.cells } := by
  have hs : ∀ a, a ≠ .cells → s.same t a := fun a ha => h a (by simpa using ha)
  cases t
  have hpart : ∀ a, a ≠ .cells → s.same _ a := hs
  simp only [State.mk.injEq, true_and]
  exact ⟨hpart .pending nofun, hpart .time nofun, hpart .phys nofun, hpart .repair nofun, hpart .parts nofun, hpart .funcs nofun,
    hpart .recs nofun, hpart .store nofun, hpart .mem nofun, hpart .badMem nofun, hpart .hostMem nofun, hpart .fab nofun, hpart .dies nofun,
    hpart .pow nofun, hpart .boot nofun, hpart .hif nofun, hpart .groom nofun, hpart .day nofun, hpart .daySeq nofun, hpart .rack nofun,
    hpart .gctr nofun⟩

/-! ### What the effects leave: the key of the next entry -/

@[simp] theorem Cell.wrLoc_nextKey (cl : Cell) (a : Nat) (l : List Byte) : (cl.wrLoc a l).nextKey = cl.nextKey := by
  induction l generalizing cl a with
  | nil => rfl
  | cons b r ih =>
    rw [Cell.wrLoc, ih]
    unfold Cell.wrLoc8
    repeat' split
    all_goals rfl

/-- A cell's update that leaves the key of the next entry leaves that of every cell. -/
theorem State.modCell_nextKey (t : State) (c d : Nat) (f : Cell → Cell) (h : (f (t.cell c)).nextKey = (t.cell c).nextKey) :
    ((t.modCell c f).cell d).nextKey = (t.cell d).nextKey := by
  rw [State.modCell_cell]
  split
  next hd => rw [hd, h]
  · rfl

/-- A fold of operations that leave the key of a cell's next entry leaves it. -/
@[simp] theorem State.foldl_nextKey {α : Type} {t : State} {f : State → α → State} {xs : List α} {d : Nat}
    (hf : ∀ (u : State) x, ((f u x).cell d).nextKey = (u.cell d).nextKey) : ((xs.foldl f t).cell d).nextKey = (t.cell d).nextKey := by
  induction xs generalizing t with
  | nil => rfl
  | cons x r ih => exact (ih (t := f t x)).trans (hf t x)

section
variable (t : State) (c d : Nat)

@[simp] theorem State.count_nextKey (ev n : Nat) (l : List (Nat × Nat)) : ((t.count c ev n l).cell d).nextKey = (t.cell d).nextKey := by
  by_cases h : d = c
  · rw [h, State.count_cell]
  · rw [(t.count_cellOnly c ev n l).2 d h]
@[simp] theorem State.modPart_nextKey (p : Nat) (f : Part → Part) : ((t.modPart p f).cell d).nextKey = (t.cell d).nextKey := rfl
@[simp] theorem State.wrDev_nextKey (a : Nat) (l : List Byte) : ((t.wrDev a l).cell d).nextKey = (t.cell d).nextKey := by
  unfold State.wrDev
  split
  · exact t.modCell_nextKey _ _ _ (Cell.wrLoc_nextKey _ _ _)
  · rfl
@[simp] theorem State.wrOp_nextKey (dev : Bool) (a : Nat) (l : List Byte) : ((t.wrOp c dev a l).cell d).nextKey = (t.cell d).nextKey := by
  unfold State.wrOp
  split
  · exact t.wrDev_nextKey _ _ _
  · exact t.modCell_nextKey _ _ _ (Cell.wrLoc_nextKey _ _ _)
@[simp] theorem State.wrElem_nextKey (e : Desc) (r i w : Nat) : ((t.wrElem c e r i w).cell d).nextKey = (t.cell d).nextKey := by
  unfold State.wrElem
  extract_lets n a b
  split <;> exact t.wrOp_nextKey _ _ _ _ _
@[simp] theorem State.wrWideAt_nextKey (e : Desc) (ps : List (Nat × Nat)) (vs : List Fv) :
    ((t.wrWideAt c e ps vs).cell d).nextKey = (t.cell d).nextKey := by
  induction ps generalizing t vs with
  | nil => simp [State.wrWideAt]
  | cons p ps ih =>
    cases vs with
    | nil => simp [State.wrWideAt]
    | cons v vs => rw [State.wrWideAt, ih, State.wrElem_nextKey]
@[simp] theorem State.wrBlock_nextKey (e : Desc) (line b : Nat) (blk : Nat × List Nat × Nat) :
    ((t.wrBlock c e line b blk).cell d).nextKey = (t.cell d).nextKey := by
  simp [State.wrBlock]
@[simp] theorem State.tagCount_nextKey (tag kind n : Nat) : ((t.tagCount c tag kind n).cell d).nextKey = (t.cell d).nextKey := by
  unfold State.tagCount
  dsimp only
  split <;> simp
@[simp] theorem State.wrNarrowRow_nextKey (e : Desc) (tag : Nat) (share : Bool) (r : Nat) (vs : List Fv) (ds : List (Option Nat)) :
    ((t.wrNarrowRow c e tag share r vs ds).cell d).nextKey = (t.cell d).nextKey := by
  unfold State.wrNarrowRow
  dsimp only
  split
  · simp
  · refine State.foldl_nextKey fun u x => ?_
    split <;> simp
@[simp] theorem State.countDraws_nextKey (sr : Bool) (l : List Fv) : ((t.countDraws c sr l).cell d).nextKey = (t.cell d).nextKey := by
  unfold State.countDraws
  split <;> simp
@[simp] theorem State.tallyCommit_nextKey (e : Nat) (x : Fv) (stream mb ix : Nat) :
    ((t.tallyCommit c e x stream mb ix).cell d).nextKey = (t.cell d).nextKey := by
  unfold State.tallyCommit
  dsimp only
  repeat' split
  all_goals
    simp only [State.count_nextKey]
    exact t.modCell_nextKey c d _ rfl
@[simp] theorem State.noiseMove_nextKey (mb n : Nat) : ((t.noiseMove c mb n).cell d).nextKey = (t.cell d).nextKey :=
  t.modCell_nextKey c d _ rfl
@[simp] theorem State.matRow_nextKey (w : Nat) (i : Iss) (o : MatOp) (m : Nat) (vs : List Fv) :
    ((t.matRow c w i o m vs).cell d).nextKey = (t.cell d).nextKey := by
  unfold State.matRow
  dsimp only
  repeat' split
  all_goals simp
@[simp] theorem State.matCount_nextKey (w : Nat) (i : Iss) (o : MatOp) (k : Nat) :
    ((t.matCount c w i o k).cell d).nextKey = (t.cell d).nextKey := by
  unfold State.matCount
  dsimp only
  repeat' split
  all_goals simp
@[simp] theorem State.matEffect_nextKey (w : Nat) (i : Iss) (o : MatOp) (k : Nat) :
    ((t.matEffect c w i o k).cell d).nextKey = (t.cell d).nextKey := by
  unfold State.matEffect
  dsimp only
  rw [State.noiseMove_nextKey, State.matCount_nextKey]
  refine State.foldl_nextKey fun u m => ?_
  repeat' split
  all_goals simp
@[simp] theorem State.scatterRow_nextKey (e : Desc) (p : ParamBlk) (mb k : Nat) (g : List Fv) :
    ((t.scatterRow c e p mb k g).cell d).nextKey = (t.cell d).nextKey := by
  unfold State.scatterRow
  dsimp only
  split <;> simp

end

/-! ### The rule of the instructions with an effect -/

/-- An accepted instruction changes its queue and what its effect may change, and gives its entry the next key. -/
theorem State.issueUnit_runs {s : State} {c w : Nat} {i : Iss} {ready : Bool} {f : State → State} {l : List Area}
    (h : s.accepts c w i ready = true) (hl : [.cells] ⊆ l) (hf : (s.enter c w i).onlyIn (f (s.enter c w i)) l)
    (hk : ((f (s.enter c w i)).cell c).nextKey = ((s.enter c w i).cell c).nextKey) :
    s.onlyIn (s.issueUnit c w i ready f) l ∧ ((s.issueUnit c w i ready f).cell c).nextKey = (s.cell c).nextKey + 1 := by
  have he := (s.enter_spec c w i).1.1.mono (fun _ ha => hl ha)
  have hkey := (s.enter_cell c w i).1
  rw [State.issueUnit_accepts h]
  split
  · exact ⟨he, hkey⟩
  · exact ⟨he.trans hf, hk.trans hkey⟩

end Sys2Proof.Machine
end

section
/-! SUPPORT. Proofs of the statements about the movement, matrix, quantise and array units: each instruction that its unit accepts, from the
rule of issue. -/

namespace Sys2Proof.Machine

/-! ### Tables and messages (R220 to R222, R276 to R279) -/

theorem gather_completes {c : Cid} {s : State} {w : Nat} (hw : s.atOp c .gather = some w) (h : s.accepts c w (s.issGather c w) true = true) :
    Completes (.gather c) s (fun t => s.onlyIn t [.cells, .mem] ∧ (t.cell c).nextKey = (s.cell c).nextKey + 1) := by
  refine ⟨_, by simp only [exec, execGather, hw]; rfl, State.issueUnit_runs h (by decide) ?_ ?_⟩
  · refine (State.onlyIn_foldl_iff fun v x => ?_).2 (State.onlyIn_refl _ _)
    simp
  · refine State.foldl_nextKey fun v x => ?_
    rw [State.wrWideAt_nextKey]
    repeat' split
    all_goals simp

theorem scatter_completes {c : Cid} {s : State} {w : Nat} (hw : s.atOp c .scatter = some w)
    (h : s.accepts c w (s.issScatter c w) true = true) :
    Completes (.scatter c) s (fun t => s.onlyIn t [.cells, .mem] ∧ (t.cell c).nextKey = (s.cell c).nextKey + 1) := by
  refine ⟨_, by simp only [exec, execScatter, hw]; rfl, State.issueUnit_runs h (by decide) ?_ ?_⟩
  · refine (State.onlyIn_foldl_iff fun v x => ?_).2 (State.onlyIn_refl _ _)
    repeat' split
    all_goals simp
  · refine State.foldl_nextKey fun v x => ?_
    split
    · rfl
    · split
      · refine State.foldl_nextKey fun u y => ?_
        split <;> simp
      · split <;> simp

/-- A message's entry in its cell's table, after the entry of the instruction in its unit's queue. -/
theorem send_completes {c : Cid} {s : State} {w : Nat} (hw : s.atOp c .send = some w) (hz : (s.issMsg c w false).zero = false)
    (h : s.accepts c w (s.issMsg c w false) (decide ((s.cell c).sends.length < 16)) = true) :
    Completes (.send c) s (fun t => s.cellOnly t c ∧ (t.cell c).sends = (s.cell c).sends ++ [s.msgOf c w (s.issMsg c w false).a] ∧
      (t.cell c).recvs = (s.cell c).recvs) := by
  obtain ⟨-, hsends, hrecvs, -⟩ := s.enter_cell c w (s.issMsg c w false)
  refine ⟨_, by simp only [exec, execSend, hw]; rw [State.issueUnit_enters h hz],
    (s.enter_spec c w _).1.trans (State.modCell_cellOnly _ c _), ?_⟩
  rw [State.modCell_cell_self]
  exact ⟨by rw [hsends], hrecvs⟩

theorem recv_completes {c : Cid} {s : State} {w : Nat} (hw : s.atOp c .recv = some w) (hz : (s.issMsg c w true).zero = false)
    (hroom : (s.cell c).recvs.length < 64) (h : s.accepts c w (s.issMsg c w true) true = true) :
    Completes (.recv c) s (fun t => s.cellOnly t c ∧ (t.cell c).recvs = (s.cell c).recvs ++ [s.msgOf c w (s.issMsg c w true).d] ∧
      (t.cell c).sends = (s.cell c).sends) := by
  obtain ⟨-, hsends, hrecvs, -⟩ := s.enter_cell c w (s.issMsg c w true)
  have hfit : ∀ p : Msg → Bool, decide (((s.cell c).recvs.filter p).length < 64) = true := fun p =>
    decide_eq_true ((List.length_filter_le p _).trans_lt hroom)
  refine ⟨_, by simp only [exec, execRecv, hw]; rw [hfit, State.issueUnit_enters h hz],
    (s.enter_spec c w _).1.trans (State.modCell_cellOnly _ c _), ?_⟩
  rw [State.modCell_cell_self]
  exact ⟨by rw [hrecvs], hsends⟩

/-- Settles O13: GATHER and SCATTER by the rule of issue, SEND and RECV by the entry they make. -/
theorem tablesAndMessagesRun : Obligations.TablesAndMessagesRun := by
  unfold Obligations.TablesAndMessagesRun
  exact fun c s w => ⟨gather_completes, scatter_completes, send_completes, recv_completes⟩

/-! ### Matrix products and the quantiser (R164 to R178, R203, R230 to R232) -/

theorem dmm_completes {c : Cid} {s : State} {w : Nat} (hw : s.atOp c .dmm = some w) (h : s.accepts c w (s.issMat c w false).1 true = true) :
    Completes (.dmm c) s (fun t => s.onlyIn t [.cells, .parts, .mem] ∧ (t.cell c).nextKey = (s.cell c).nextKey + 1) :=
  ⟨_, by simp only [exec, execDmm, hw]; rfl, State.issueUnit_runs h (by decide) (by simp) (State.matEffect_nextKey ..)⟩

theorem dconv_completes {c : Cid} {s : State} {w : Nat} (hw : s.atOp c .dconv = some w) (h : s.accepts c w (s.issMat c w true).1 true = true) :
    Completes (.dconv c) s (fun t => s.onlyIn t [.cells, .parts, .mem] ∧ (t.cell c).nextKey = (s.cell c).nextKey + 1) :=
  ⟨_, by simp only [exec, execDconv, hw]; rfl, State.issueUnit_runs h (by decide) (by simp) (State.matEffect_nextKey ..)⟩

theorem qrot_completes {c : Cid} {s : State} {w : Nat} (hw : s.atOp c .qrot = some w) (h : s.accepts c w (s.issQrot c w) true = true) :
    Completes (.qrot c) s (fun t => s.onlyIn t [.cells, .parts, .mem] ∧ (t.cell c).nextKey = (s.cell c).nextKey + 1) := by
  refine ⟨_, by simp only [exec, execQrot, hw]; rfl, State.issueUnit_runs h (by decide) ?_ ?_⟩
  · refine (State.onlyIn_foldl_iff fun v r => ?_).2 (State.onlyIn_refl _ _)
    split <;> simp
  · refine State.foldl_nextKey fun v r => ?_
    split <;> simp

theorem qnt_completes {c : Cid} {s : State} {w : Nat} (hw : s.atOp c .qnt = some w) (h : s.accepts c w (s.issQnt c w) true = true) :
    Completes (.qnt c) s (fun t => s.onlyIn t [.cells, .parts, .mem] ∧ (t.cell c).nextKey = (s.cell c).nextKey + 1) := by
  refine ⟨_, by simp only [exec, execQnt, hw]; rfl, State.issueUnit_runs h (by decide) ?_ ?_⟩
  · refine (State.onlyIn_foldl_iff fun v l => ?_).2 (State.onlyIn_refl _ _)
    simp
  · exact State.foldl_nextKey fun v l => by simp

/-- Two states whose operands read alike byte by byte read every stream alike. -/
theorem State.streamOf_congr {s t : State} (hmem : t.mem = s.mem) (hloc : ∀ c a, t.rdLoc8 c a = s.rdLoc8 c a) (c : Nat) (d : Desc) :
    t.streamOf c d = s.streamOf c d := by
  have hcell : ∀ c a n, t.rdLoc c a n = s.rdLoc c a n := fun c a n => List.map_congr_left fun i _ => hloc c (a + i)
  have hop : ∀ a n, t.rdOp c d.dev a n = s.rdOp c d.dev a n := fun a n => by
    simp only [State.rdOp, State.rdDev, State.rdMem, hmem, hcell]
  unfold State.streamOf State.rowOf State.elem State.elemX State.rawElem State.scaleOf
  simp only [hop]

/-- A byte of a cell's local address space, read with other cells in the state: what counts is that cell's memories and program (R529). -/
theorem State.rdLoc8_cells {s : State} {x : Tbl Cell} {c : Nat} (hspad : (tget x c Cell.reset).spad = (s.cell c).spad)
    (htally : (tget x c Cell.reset).tally = (s.cell c).tally) (hibuf : (tget x c Cell.reset).ibuf = (s.cell c).ibuf)
    (hprog : (tget x c Cell.reset).progId = (s.cell c).progId) (a : Nat) : ({ s with cells := x } : State).rdLoc8 c a = s.rdLoc8 c a := by
  have hcell : ({ s with cells := x } : State).cell c = tget x c Cell.reset := rfl
  have hpage : ({ s with cells := x } : State).idPage c = s.idPage c := by
    unfold State.idPage
    dsimp only
    rw [hcell, hprog]
    rfl
  unfold State.rdLoc8
  dsimp only
  rw [hcell, hspad, htally, hibuf, hpage]

/-- The entry of an instruction leaves every stream as it reads (R33, R529). -/
theorem State.enter_streamOf (s : State) (c w : Nat) (i : Iss) (d : Desc) : (s.enter c w i).streamOf c d = s.streamOf c d := by
  obtain ⟨⟨honly, hne⟩, tag, hbody⟩ := s.enter_spec c w i
  have hkept : ∀ e, ((s.enter c w i).cell e).spad = (s.cell e).spad ∧ ((s.enter c w i).cell e).tally = (s.cell e).tally ∧
      ((s.enter c w i).cell e).ibuf = (s.cell e).ibuf ∧ ((s.enter c w i).cell e).progId = (s.cell e).progId := fun e => by
    by_cases he : e = c
    · rw [he, hbody]; exact ⟨rfl, rfl, rfl, rfl⟩
    · rw [hne e he]; exact ⟨rfl, rfl, rfl, rfl⟩
  refine State.streamOf_congr (honly.mem (by decide)) (fun e a => ?_) c d
  obtain ⟨hspad, htally, hibuf, hprog⟩ := hkept e
  rw [honly.eq_cells]
  exact State.rdLoc8_cells hspad htally hibuf hprog a

theorem dqnt_completes {c : Cid} {s : State} {w : Nat} (hw : s.atOp c .dqnt = some w) (hz : (s.issDqnt c w).zero = false)
    (h : s.accepts c w (s.issDqnt c w) true = true) :
    Completes (.dqnt c) s (fun t => t = (s.enter c w (s.issDqnt c w)).wrWide c (s.issDqnt c w).d
      ((s.enter c w (s.issDqnt c w)).streamOf c (s.issDqnt c w).a)) :=
  ⟨_, by simp only [exec, execDqnt, hw]; rw [State.issueUnit_enters h hz], by rw [State.enter_streamOf]⟩

/-- Settles O16: each instruction by the rule of issue, and DQNT by its own effect on the streams its entry leaves. -/
theorem matrixAndQuantiseInstructionsRun : Obligations.MatrixAndQuantiseInstructionsRun := by
  unfold Obligations.MatrixAndQuantiseInstructionsRun
  exact fun c s w => ⟨dmm_completes, dconv_completes, qrot_completes, qnt_completes, dqnt_completes⟩

/-! ### Arrays (R72 to R76, R116, R228) -/

/-- A change of the newest entry of a queue. -/
theorem Cell.modLast_append {cl : Cell} {l : List Flight} {f : Flight} (h : cl.flight = l ++ [f]) (g : Flight → Flight) :
    cl.modLast g = { cl with flight := l ++ [g f] } := by
  unfold Cell.modLast
  rw [h, List.reverse_append]
  simp

/-- An accepted instruction whose effect is on its own entry: the queue gains that entry. -/
theorem State.issueUnit_modLast {s : State} {c w : Nat} {i : Iss} {ready : Bool} (h : s.accepts c w i ready = true) (g : Flight → Flight) :
    s.cellOnly (s.issueUnit c w i ready fun t => t.modCell c fun cl => cl.modLast g) c ∧
      ∃ f : Flight, (((s.issueUnit c w i ready fun t => t.modCell c fun cl => cl.modLast g).cell c).flight =
        (s.cell c).flight ++ [if i.zero then f else g f]) := by
  obtain ⟨-, -, -, -, -, f, hflight, -⟩ := s.enter_cell c w i
  rw [State.issueUnit_accepts h]
  split
  next hz => exact ⟨(s.enter_spec c w i).1, f, hflight⟩
  next hz =>
    refine ⟨(s.enter_spec c w i).1.trans (State.modCell_cellOnly _ c _), f, ?_⟩
    rw [State.modCell_cell_self, Cell.modLast_append hflight]

theorem amv_completes {c : Cid} {s : State} {w : Nat} (hw : s.atOp c .amv = some w) (h : s.accepts c w (s.issAmv c w).1 true = true) :
    Completes (.amv c) s (fun t => s.cellOnly t c ∧ (t.cell c).flight.length = (s.cell c).flight.length + 1 ∧
      ((s.issAmv c w).1.zero = false → ((t.cell c).flight.getLast?.map (fun f => f.dw8)) = some (s.issAmv c w).2)) := by
  obtain ⟨honly, f, hflight⟩ := State.issueUnit_modLast h fun f => { f with dw8 := (s.issAmv c w).2 }
  refine ⟨_, by simp only [exec, execAmv, State.amvIssue, hw], honly, ?_, fun hz => ?_⟩
  · rw [hflight]; simp
  · rw [hflight, hz]; simp

theorem amvt_completes {c : Cid} {s : State} {w : Nat} (hw : s.atOp c .amvt = some w) (h : s.accepts c w (s.issAmv c w).1 true = true) :
    Completes (.amvt c) s (fun t => s.cellOnly t c ∧ (t.cell c).flight.length = (s.cell c).flight.length + 1 ∧
      ((s.issAmv c w).1.zero = false → ((t.cell c).flight.getLast?.map (fun f => f.dw8)) = some (s.issAmv c w).2)) := by
  obtain ⟨honly, f, hflight⟩ := State.issueUnit_modLast h fun f => { f with dw8 := (s.issAmv c w).2 }
  refine ⟨_, by simp only [exec, execAmvt, State.amvIssue, hw], honly, ?_, fun hz => ?_⟩
  · rw [hflight]; simp
  · rw [hflight, hz]; simp

theorem aswap_completes {c : Cid} {s : State} {w : Nat} (hw : s.atOp c .aswap = some w) (hrsv : rsvIll w [(95, 92)] = [])
    (hlx : bits w 95 92 < 8) (hill : commonIll w = []) (hroom : (s.cell c).queued 1 < 8) (hunit : wordUnit w = 1) :
    Completes (.aswap c) s (fun t => s.cellOnly t c ∧
      ((t.cell c).flight.getLast?.map (fun f => (f.left, f.lx))) = some (1, bits w 95 92)) := by
  have hcause : rsvIll w [(95, 92)] ++ cz (8 ≤ bits w 95 92) 6 = [] := by
    rw [hrsv, decide_eq_false (by omega)]; rfl
  have h : s.accepts c w { Iss.none with ill := rsvIll w [(95, 92)] ++ cz (8 ≤ bits w 95 92) 6 } true = true := by
    rw [hcause]
    simp [State.accepts, Iss.none, Iss.cause, hill, hunit, hroom, Cell.clear]
  obtain ⟨honly, f, hflight⟩ := State.issueUnit_modLast h fun f => { f with left := 1, lx := bits w 95 92 }
  refine ⟨_, by simp only [exec, execAswap, hw], honly, ?_⟩
  rw [hflight]
  simp [Iss.none]

/-- Settles O18: each instruction by the change of its own entry. -/
theorem arrayInstructionsEnter : Obligations.ArrayInstructionsEnter := by
  unfold Obligations.ArrayInstructionsEnter
  exact fun c s w => ⟨amv_completes, amvt_completes, aswap_completes⟩

/-! ### AREAD (R98, R227) -/

/-- Settles O22: the read of a usable crossbar is a row of writes of elements, that of a STALE one a fault of its cell. -/
theorem areadReadsOrFaults : Obligations.AreadReadsOrFaults := by
  unfold Obligations.AreadReadsOrFaults
  intro c levels s w hw hq hidle hslots h
  have hready : ((s.cell c).queued 1 == 0 && (s.cell c).wq.all (fun j => !j.running) && decide ((s.die (dieOf c)).slots < 256)) = true := by
    simp [hq, hidle, hslots]
  have hphys : ∀ r x, (s.enter c w (s.issAread c w)).xbar r x = s.xbar r x := fun r x => by
    unfold State.xbar State.phy; rw [(s.enter_spec c w _).1.1 .phys (by decide)]
  have hreg : (s.enter c w (s.issAread c w)).reg c = s.reg c := by
    unfold State.reg; rw [(s.enter_spec c w _).1.1 .repair (by decide)]
  have hrun : ((s.enter c w (s.issAread c w)).cell c).st ≠ 4 := by
    obtain ⟨-, -, -, hst, -⟩ := s.enter_cell c w (s.issAread c w)
    rw [hst, (State.atOp_spec hw).1]
    decide
  refine ⟨fun hst => ?_, fun hz hst => ?_⟩
  · refine ⟨_, by simp only [exec, execAread, hw, hready]; rfl, State.issueUnit_runs h (by decide) ?_ ?_⟩
    · rw [hphys, hreg, if_neg (by omega), if_neg (by omega)]
      simp
    · rw [hphys, hreg, if_neg (by omega), if_neg (by omega)]
      exact State.foldl_nextKey fun u k => by simp
  · refine ⟨_, by simp only [exec, execAread, hw, hready]; rw [State.issueUnit_enters h hz], ?_⟩
    dsimp only
    rw [hphys, hreg, if_pos hst]
    obtain ⟨hf, hcode, -⟩ := (s.enter c w (s.issAread c w)).faultAt_spec c Fc.analogue 0 (s.cell c).pc (s.cell c).word 0 1 (hrun)
    exact ⟨hf, by rw [hcode]⟩

/-! ### Where a copy writes (R187, R218) -/

@[simp] theorem leBytes_length (n v : Nat) : (leBytes n v).length = n := by simp [leBytes]

section
variable {s : State} {c : Nat} {d : Desc}

/-- A fold of operations that change one cell alone changes that cell alone. -/
theorem State.cellOnly_foldl {α : Type} {f : State → α → State} {xs : List α} {t : State} (hf : ∀ (u : State) x, u.cellOnly (f u x) c) :
    t.cellOnly (xs.foldl f t) c := by
  induction xs generalizing t with
  | nil => exact t.cellOnly_refl c
  | cons x r ih => exact (hf t x).trans (ih (t := f t x))

theorem State.wrOp_cellOnly (s : State) (c a : Nat) (l : List Byte) : s.cellOnly (s.wrOp c false a l) c := by
  rw [State.wrOp, if_neg Bool.false_ne_true]
  exact s.modCell_cellOnly c _

theorem State.wrElem_cellOnly (hd : d.dev = false) (r i w : Nat) : s.cellOnly (s.wrElem c d r i w) c := by
  unfold State.wrElem
  extract_lets n a b
  rw [hd]
  split <;> exact s.wrOp_cellOnly c _ _

theorem State.wrWideAt_cellOnly (hd : d.dev = false) (ps : List (Nat × Nat)) (vs : List Fv) : s.cellOnly (s.wrWideAt c d ps vs) c := by
  induction ps generalizing s vs with
  | nil => simpa [State.wrWideAt] using s.cellOnly_refl c
  | cons p ps ih =>
    cases vs with
    | nil => simpa [State.wrWideAt] using s.cellOnly_refl c
    | cons v vs => exact (State.wrElem_cellOnly hd _ _ _).trans (ih vs)

/-- A copy into its own cell changes that cell alone. -/
theorem State.copyStream_cellOnly (hd : d.dev = false) (a : Desc) : s.cellOnly (s.copyStream c a d) c := by
  unfold State.copyStream State.landElems
  refine State.cellOnly.trans (State.cellOnly_foldl fun u x => State.wrElem_cellOnly hd _ _ _) (State.cellOnly_foldl fun u x => ?_)
  rw [hd]
  exact u.wrOp_cellOnly c _ _

/-- Two states with the same cells that read alike at the bytes of P of module memory. -/
structure State.bytesKept (P : Nat → Prop) (s t : State) : Prop where
  cells : t.cells = s.cells
  bytes : ∀ b, P b → t.rd8 b = s.rd8 b

theorem State.bytesKept.trans {P : Nat → Prop} {s t u : State} (h : s.bytesKept P t) (k : t.bytesKept P u) : s.bytesKept P u :=
  ⟨k.cells.trans h.cells, fun b hb => (k.bytes b hb).trans (h.bytes b hb)⟩

theorem State.bytesKept_foldl {α : Type} {P : Nat → Prop} {f : State → α → State} {xs : List α} {t : State}
    (hf : ∀ (u : State), ∀ x ∈ xs, u.bytesKept P (f u x)) : t.bytesKept P (xs.foldl f t) := by
  induction xs generalizing t with
  | nil => exact ⟨rfl, fun _ _ => rfl⟩
  | cons x r ih =>
    exact (hf t x (List.mem_cons_self ..)).trans (ih (t := f t x) fun u y hy => hf u y (List.mem_cons_of_mem x hy))

/-- A write at a device address outside the cells' windows changes the bytes from that address on. -/
theorem State.wrOp_bytesKept (s : State) (c : Nat) {P : Nat → Prop} {a : Nat} {l : List Byte} (ha : spadWindow a = none)
    (hP : ∀ b, P b → b < a ∨ a + l.length ≤ b) : s.bytesKept P (s.wrOp c true a l) := by
  have hop : s.wrOp c true a l = s.wrMem a l := by simp [State.wrOp, State.wrDev, ha]
  rw [hop]
  refine ⟨rfl, fun b hb => ?_⟩
  rw [State.wrMem_rd8, if_neg (by have := hP b hb; omega)]

/-- An element written changes its own bytes. -/
theorem State.wrElem_bytesKept (hd : d.dev = true) {P : Nat → Prop} {r i w : Nat} (ha : spadWindow (d.addr r i) = none)
    (hP : ∀ b, P b → b < d.addr r i ∨ d.addr r i + max 1 (fmtBits d.fmt / 8) ≤ b) : s.bytesKept P (s.wrElem c d r i w) := by
  unfold State.wrElem
  extract_lets n a v
  rw [hd]
  split <;> refine s.wrOp_bytesKept c ha fun b hb => ?_ <;> have := hP b hb <;> rw [leBytes_length] <;> omega

/-- A copy into module memory changes the bytes of its elements and scales. -/
theorem State.copyStream_bytesKept (hd : d.dev = true) (a : Desc) (hpos : ∀ x ∈ d.pos, spadWindow (d.addr x.1 x.2) = none)
    (hblk : ∀ x ∈ d.blocks, spadWindow (d.scaleAddr x.1 x.2) = none) :
    s.bytesKept (fun b => (∀ x ∈ d.pos, b < d.addr x.1 x.2 ∨ d.addr x.1 x.2 + max 1 (fmtBits d.fmt / 8) ≤ b) ∧
      ∀ x ∈ d.blocks, b ≠ d.scaleAddr x.1 x.2) (s.copyStream c a d) := by
  unfold State.copyStream State.landElems
  refine State.bytesKept.trans (State.bytesKept_foldl fun u x hx => ?_) (State.bytesKept_foldl fun u x hx => ?_)
  · have hx' : x.1 ∈ d.pos := List.mem_of_mem_drop (List.of_mem_zip hx).1
    exact State.wrElem_bytesKept hd (hpos _ hx') fun b hb => hb.1 _ hx'
  · have hx' : x.1 ∈ d.blocks := (List.of_mem_zip hx).1
    rw [hd]
    refine u.wrOp_bytesKept c (hblk _ hx') fun b hb => ?_
    have := hb.2 _ hx'
    rw [leBytes_length]
    omega

end

/-- Settles O12: element by element and scale by scale. -/
theorem copyFrame : Obligations.CopyFrame := by
  unfold Obligations.CopyFrame
  refine fun s c a d => ⟨by simp, fun hd => State.copyStream_cellOnly hd a, fun hd hpos hblk => ?_,
    fun vs hd => State.wrWideAt_cellOnly hd _ vs⟩
  obtain ⟨hcells, hbytes⟩ := State.copyStream_bytesKept (s := s) (c := c) hd a hpos hblk
  exact ⟨hcells, fun b hb hs => hbytes b ⟨hb, hs⟩⟩

end Sys2Proof.Machine
end

section
/-! SUPPORT. Proofs of the quantiser's statement (R132 to R135): powers of two and binary logarithms, the scale of a block, and the table of
R135 row by row. -/

namespace Sys2Proof.Machine

/-! ### Powers of two -/

theorem pow2_eq (e : Int) : pow2 e = (2 : Rat) ^ e := by
  unfold pow2
  split
  next h =>
    lift e to Nat using h
    rw [Int.toNat_natCast, Nat.cast_pow, zpow_natCast]
    rfl
  next h =>
    obtain ⟨n, rfl⟩ : ∃ n : Nat, e = -(n : Int) := ⟨(-e).toNat, by omega⟩
    rw [neg_neg, Int.toNat_natCast, zpow_neg, zpow_natCast, Rat.mkRat_eq_div]
    push_cast
    rw [one_div]

theorem pow2_pos (e : Int) : 0 < pow2 e := by rw [pow2_eq]; positivity

theorem pow2_le_pow2 {a b : Int} (h : a ≤ b) : pow2 a ≤ pow2 b := by
  rw [pow2_eq, pow2_eq]; exact zpow_le_zpow_right₀ (by norm_num) h

theorem pow2_lt_pow2 {a b : Int} : pow2 a < pow2 b ↔ a < b := by
  rw [pow2_eq, pow2_eq]; exact zpow_lt_zpow_iff_right₀ (by norm_num)

/-- The binary logarithm of a positive value, rounded down. -/
theorem flog2_spec {v : Rat} (hv : 0 < v) : pow2 (flog2 v) ≤ v ∧ v < pow2 (flog2 v + 1) := by
  have hnum : 0 < v.num := Rat.num_pos.2 hv
  obtain ⟨a, ha⟩ : ∃ a : Nat, v.num = a := ⟨v.num.natAbs, by omega⟩
  have ha0 : a ≠ 0 := by omega
  have hval : v = (a : Rat) / v.den := by
    conv_lhs => rw [← Rat.num_div_den v, ha]
    rfl
  have hden : (0 : Rat) < v.den := by exact_mod_cast v.den_pos
  have hlo : ∀ n : Nat, n ≠ 0 → (2 : Rat) ^ Nat.log2 n ≤ n := fun n hn => by exact_mod_cast Nat.log2_self_le hn
  have hhi : ∀ n : Nat, (n : Rat) < 2 ^ (Nat.log2 n + 1) := fun n => by exact_mod_cast Nat.lt_log2_self
  have hpow : ∀ i j : Nat, pow2 ((i : Int) - j) = 2 ^ i / 2 ^ j := fun i j => by
    rw [pow2_eq, zpow_sub₀ (by norm_num), zpow_natCast, zpow_natCast]
  have hlow : pow2 ((Nat.log2 a : Int) - (Nat.log2 v.den + 1 : Nat)) ≤ v := by
    rw [hpow]
    conv_rhs => rw [hval]
    exact div_le_div₀ (by positivity) (hlo a ha0) hden (hhi v.den).le
  have hhigh : v < pow2 ((Nat.log2 a + 1 : Nat) - (Nat.log2 v.den : Int)) := by
    rw [hpow]
    conv_lhs => rw [hval]
    exact div_lt_div₀ (hhi a) (hlo v.den v.den_nz) (by positivity) (by positivity)
  have habs : v.num.natAbs = a := by omega
  unfold flog2
  rw [habs]
  dsimp only
  split
  next h => exact ⟨h, by convert hhigh using 2; push_cast; ring⟩
  next h => exact ⟨by convert hlow using 2; push_cast; ring, by rw [sub_add_cancel]; exact not_le.1 h⟩

/-! ### The scale of a block (R132) -/

theorem fmtEmax_pos {f : Nat} (hf : f ∈ [1, 2, 3, 4, 5]) : 0 < fmtEmax f := by
  fin_cases hf <;> decide

/-- The exponent of the smallest power of two that a positive value does not pass. -/
def ceilLog2 (q : Rat) : Int := if pow2 (flog2 q) = q then flog2 q else flog2 q + 1

theorem ceilLog2_spec {q : Rat} (hq : 0 < q) : q ≤ pow2 (ceilLog2 q) ∧ pow2 (ceilLog2 q - 1) < q := by
  obtain ⟨hlo, hhi⟩ := flog2_spec hq
  unfold ceilLog2
  split
  next h =>
    refine ⟨h.ge, ?_⟩
    conv_rhs => rw [← h]
    exact pow2_lt_pow2.2 (by omega)
  next h => exact ⟨hhi.le, by rw [add_sub_cancel_right]; exact lt_of_le_of_ne hlo h⟩

theorem scaleFor_eq {f lo hi : Nat} {a : Rat} (ha : a ≠ 0) :
    scaleFor f lo hi a = (clampI lo hi (ceilLog2 (a / fmtEmax f) + 127)).toNat := by
  rw [scaleFor, if_neg ha]
  rfl

/-- The bound a scale sets on a block, said of its exponent. -/
theorem le_emax_iff {f : Nat} (hf : f ∈ [1, 2, 3, 4, 5]) {a : Rat} {e : Int} : a ≤ fmtEmax f * pow2 e ↔ a / fmtEmax f ≤ pow2 e := by
  rw [div_le_iff₀' (fmtEmax_pos hf)]

/-- A block beyond EMAX at SCALE_HI is written at SCALE_HI. -/
theorem scaleFor_clamped {f lo hi : Nat} (hf : f ∈ [1, 2, 3, 4, 5]) (hlh : lo ≤ hi) {a : Rat} (ha : 0 < a)
    (hbig : fmtEmax f * pow2 ((hi : Int) - 127) < a) : scaleFor f lo hi a = hi := by
  have hq : 0 < a / fmtEmax f := div_pos ha (fmtEmax_pos hf)
  have hlt : pow2 ((hi : Int) - 127) < pow2 (ceilLog2 (a / fmtEmax f)) :=
    lt_of_lt_of_le (not_le.1 fun h => not_le.2 hbig ((le_emax_iff hf).2 h)) (ceilLog2_spec hq).1
  rw [pow2_lt_pow2] at hlt
  rw [scaleFor_eq ha.ne', clampI, if_neg (by omega), if_pos (by omega)]
  rfl

/-- Any other block is written at the smallest scale of the window that holds it. -/
theorem scaleFor_smallest {f lo hi : Nat} (hf : f ∈ [1, 2, 3, 4, 5]) (hlh : lo ≤ hi) {a : Rat} (ha : 0 < a)
    (hfit : a ≤ fmtEmax f * pow2 ((hi : Int) - 127)) :
    lo ≤ scaleFor f lo hi a ∧ scaleFor f lo hi a ≤ hi ∧ a ≤ fmtEmax f * pow2 ((scaleFor f lo hi a : Int) - 127) ∧
      (lo < scaleFor f lo hi a → fmtEmax f * pow2 ((scaleFor f lo hi a : Int) - 128) < a) := by
  have hq : 0 < a / fmtEmax f := div_pos ha (fmtEmax_pos hf)
  obtain ⟨hle, hgt⟩ := ceilLog2_spec hq
  have hhi : ceilLog2 (a / fmtEmax f) - 1 < (hi : Int) - 127 := pow2_lt_pow2.1 (hgt.trans_le ((le_emax_iff hf).1 hfit))
  rw [scaleFor_eq ha.ne', clampI]
  split
  next h =>
    refine ⟨by omega, by omega, (le_emax_iff hf).2 (hle.trans (pow2_le_pow2 (by omega))), by omega⟩
  next h =>
    rw [if_neg (by omega)]
    have hnat : ((ceilLog2 (a / fmtEmax f) + 127).toNat : Int) = ceilLog2 (a / fmtEmax f) + 127 := by omega
    refine ⟨by omega, by omega, (le_emax_iff hf).2 ?_, fun _ => not_le.1 fun hc => not_le.2 hgt ?_⟩
    · rw [hnat, add_sub_cancel_right]; exact hle
    · have := (le_emax_iff hf).1 hc
      rw [hnat] at this
      rwa [show ceilLog2 (a / fmtEmax f) + 127 - 128 = ceilLog2 (a / fmtEmax f) - 1 by omega] at this

/-! ### The block table (R135) -/

theorem amaxOf_nonneg (l : List Fv) : 0 ≤ amaxOf l := by
  have h : ∀ (l : List Fv) (m : Rat), 0 ≤ m → 0 ≤ l.foldl (fun m x => let r := rabs x.rat; if m < r then r else m) m := by
    intro l
    induction l with
    | nil => exact fun m hm => hm
    | cons x r ih =>
      intro m hm
      refine ih _ ?_
      dsimp only
      split
      next hlt => exact hm.trans hlt.le
      · exact hm
  exact h l 0 le_rfl

/-- What a block of finite elements counts as. -/
theorem blockKind_fin {f lo hi : Nat} {ds : List (Option Nat)} {l : List Fv} (h : ∀ x ∈ l, x.fin = true) :
    blockKind f lo hi ds l = if amaxOf l = 0 then 1 else if (quantAt f lo ds l).all (fun k => k == 0) then 2
      else if fmtEmax f * pow2 ((hi : Int) - 127) < amaxOf l then 3 else 0 := by
  have hfin : l.any (fun x => !x.fin) = false := by
    rw [List.any_eq_false]
    exact fun x hx => by simp [h x hx]
  simp only [blockKind, hfin, Bool.false_eq_true, if_false]

theorem quantBlock_nonfinite {f lo hi : Nat} {ds : List (Option Nat)} {l : List Fv} (h : ∃ x ∈ l, x.fin = false) :
    quantBlock f lo hi ds l = (255, l.map (fun _ => 0), 4) := by
  have hk : blockKind f lo hi ds l = 4 := by
    obtain ⟨x, hx, hfin⟩ := h
    rw [blockKind, if_pos (List.any_eq_true.2 ⟨x, hx, by simp [hfin]⟩)]
  simp [quantBlock, hk]

section
variable {f lo hi : Nat} {ds : List (Option Nat)} {l : List Fv} (hfin : ∀ x ∈ l, x.fin = true)
include hfin

theorem quantBlock_zero (ha : amaxOf l = 0) : quantBlock f lo hi ds l = (0, l.map (fun _ => 0), 1) := by
  simp [quantBlock, blockKind_fin hfin, ha]

theorem quantBlock_under (ha : amaxOf l ≠ 0) (hz : ∀ e ∈ quantAt f lo ds l, e = 0) :
    quantBlock f lo hi ds l = (0, l.map (fun _ => 0), 2) := by
  have hall : (quantAt f lo ds l).all (fun k => k == 0) = true := List.all_eq_true.2 fun e he => by simp [hz e he]
  simp [quantBlock, blockKind_fin hfin, ha, hall]

theorem quantBlock_scaled (ha : amaxOf l ≠ 0) (hz : ∃ e ∈ quantAt f lo ds l, e ≠ 0) :
    quantBlock f lo hi ds l = (scaleFor f lo hi (amaxOf l), quantAt f (scaleFor f lo hi (amaxOf l)) ds l,
      if fmtEmax f * pow2 ((hi : Int) - 127) < amaxOf l then 3 else 0) := by
  have hall : (quantAt f lo ds l).all (fun k => k == 0) = false := by
    obtain ⟨e, he, hne⟩ := hz
    exact List.all_eq_false.2 ⟨e, he, by simp [hne]⟩
  by_cases hbig : fmtEmax f * pow2 ((hi : Int) - 127) < amaxOf l
  · simp [quantBlock, blockKind_fin hfin, ha, hall, hbig]
  · simp [quantBlock, blockKind_fin hfin, ha, hall, hbig]

end

/-! ### Elements beyond EMAX (R133, R134) -/

/-- EMAX of the integer formats is the code `quantElem` clamps at. -/
theorem fmtEmax_int {f : Nat} (hf : f = 2 ∨ f = 5) : fmtEmax f = ((if f = 2 then 7 else 127 : Nat) : Rat) := by
  rcases hf with rfl | rfl <;> norm_num [fmtEmax]

/-- Beyond EMAX neither the value nor the draw matters, only the sign. -/
theorem quantElem_saturated {f : Nat} {m n : Option Nat} {v w : Rat} (hv : fmtEmax f ≤ rabs v) (hw : fmtEmax f ≤ rabs w)
    (hs : v < 0 ↔ w < 0) : quantElem f m v = quantElem f n w := by
  by_cases hint : f = 2 ∨ f = 5
  · rw [fmtEmax_int hint] at hv hw
    simp only [quantElem, hs, if_pos hv, if_pos hw]
    simp [hint]
  · simp only [quantElem, hs, if_pos hv, if_pos hw]
    simp [hint]

theorem rabs_of_pos {v : Rat} (hv : 0 < v) : rabs v = v := if_neg (not_lt.2 hv.le)

theorem rabs_of_neg {v : Rat} (hv : v < 0) : rabs v = -v := if_pos hv

theorem quantElem_above {f : Nat} (hf : f ∈ [1, 2, 3, 4, 5]) (m : Option Nat) {v : Rat} (hv : fmtEmax f ≤ v) :
    quantElem f m v = quantElem f none (fmtEmax f) := by
  have hpos := fmtEmax_pos hf
  have hv0 := hpos.trans_le hv
  exact quantElem_saturated (by rwa [rabs_of_pos hv0]) (rabs_of_pos hpos).ge (by simp [not_lt.2 hv0.le, not_lt.2 hpos.le])

theorem quantElem_below {f : Nat} (hf : f ∈ [1, 2, 3, 4, 5]) (m : Option Nat) {v : Rat} (hv : v ≤ -fmtEmax f) :
    quantElem f m v = quantElem f none (-fmtEmax f) := by
  have hneg : -fmtEmax f < 0 := neg_lt_zero.2 (fmtEmax_pos hf)
  have hv0 := hv.trans_lt hneg
  exact quantElem_saturated (by rw [rabs_of_neg hv0]; exact le_neg.2 hv) (by rw [rabs_of_neg hneg, neg_neg]) (iff_of_true hv0 hneg)

/-- Settles O17: the rows of R135 in its order, then R132's scale for the rest, then the elements beyond EMAX. -/
theorem quantiserMarksSpecialBlocks : Obligations.QuantiserMarksSpecialBlocks := by
  unfold Obligations.QuantiserMarksSpecialBlocks
  intro f lo hi ds l hf hlh
  refine ⟨quantBlock_nonfinite, fun hfin => ⟨quantBlock_zero hfin, quantBlock_under hfin, fun ha hz hbig => ?_, fun ha hz hfit => ?_⟩,
    fun m v => quantElem_above hf m, fun m v => quantElem_below hf m⟩
  · have hpos : 0 < amaxOf l := lt_of_le_of_ne (amaxOf_nonneg l) (Ne.symm ha)
    rw [quantBlock_scaled hfin ha hz, if_pos hbig, scaleFor_clamped hf hlh hpos hbig]
  · have hpos : 0 < amaxOf l := lt_of_le_of_ne (amaxOf_nonneg l) (Ne.symm ha)
    obtain ⟨hlo, hhi, hholds, hleast⟩ := scaleFor_smallest hf hlh hpos hfit
    exact ⟨_, hlo, hhi, hholds, hleast, by rw [quantBlock_scaled hfin ha hz, if_neg (not_lt.2 hfit)]⟩

end Sys2Proof.Machine
end

section
/-! SUPPORT. Readings that depend on one part of the state, for operations known by the parts they change; and the reads of a cell across the
event counters. -/

namespace Sys2Proof.Machine

/-! ### A reading of one part -/

section
variable {s t : State} {l : List Area} (h : s.onlyIn t l)
include h

theorem State.onlyIn.pow (k : .pow ∉ l) : t.pow = s.pow := h _ k
theorem State.onlyIn.fab (k : .fab ∉ l) : t.fab = s.fab := h _ k
theorem State.onlyIn.time (k : .time ∉ l) : t.time = s.time := h _ k
theorem State.onlyIn.phy (k : .phys ∉ l) (r : Nat) : t.phy r = s.phy r := by
  unfold State.phy; rw [show t.phys = s.phys from h _ k]
theorem State.onlyIn.xbar (k : .phys ∉ l) (r x : Nat) : t.xbar r x = s.xbar r x := by
  unfold State.xbar; rw [h.phy k]
theorem State.onlyIn.die (k : .dies ∉ l) (d : Nat) : t.die d = s.die d := by
  unfold State.die; rw [show t.dies = s.dies from h _ k]
theorem State.onlyIn.part (k : .parts ∉ l) (p : Nat) : t.part p = s.part p := by
  unfold State.part; rw [show t.parts = s.parts from h _ k]
theorem State.onlyIn.func (k : .funcs ∉ l) (p : Nat) : t.func p = s.func p := by
  unfold State.func; rw [show t.funcs = s.funcs from h _ k]
theorem State.onlyIn.grp (k : .fab ∉ l) (g : Nat) : t.grp g = s.grp g := by
  unfold State.grp; rw [h.fab k]
theorem State.onlyIn.reg (k : .repair ∉ l) (c : Nat) : t.reg c = s.reg c := by
  unfold State.reg; rw [show t.repair = s.repair from h _ k]
theorem State.onlyIn.rcd (k : .recs ∉ l) (p ty i : Nat) : t.rcd p ty i = s.rcd p ty i := by
  unfold State.rcd; rw [show t.recs = s.recs from h _ k]
theorem State.onlyIn.fld (k : .recs ∉ l) (p ty i o n : Nat) : t.fld p ty i o n = s.fld p ty i o n := by
  unfold State.fld; rw [h.rcd k]
theorem State.onlyIn.owner (k : .recs ∉ l) (c : Nat) : t.owner c = s.owner c := h.fld k ..

end

/-- What each step of a fold keeps, the fold keeps. -/
theorem State.foldl_read {α β : Type} {f : State → β → State} (g : State → α) (hf : ∀ u x, g (f u x) = g u) (l : List β) (s : State) :
    g (l.foldl f s) = g s := by
  induction l generalizing s with
  | nil => rfl
  | cons x r ih => rw [List.foldl_cons, ih, hf]

/-! ### A cell across the event counters -/

section
variable (t : State) (c d ev n : Nat) (l : List (Nat × Nat))

/-- What does not read the event counters of a cell reads the same after an event is counted. -/
theorem State.count_read {α : Type} (f : Cell → α) (hf : ∀ (x : Cell) y, f { x with ctr := y } = f x) :
    f ((t.count c ev n l).cell d) = f (t.cell d) := by
  by_cases h : d = c
  · rw [h, State.count_cell, hf]
  · rw [(t.count_cellOnly c ev n l).2 d h]

@[simp] theorem State.count_wq : ((t.count c ev n l).cell d).wq = (t.cell d).wq := t.count_read c d ev n l _ fun _ _ => rfl
@[simp] theorem State.count_xbind : ((t.count c ev n l).cell d).xbind = (t.cell d).xbind := t.count_read c d ev n l _ fun _ _ => rfl
@[simp] theorem State.count_pbind : ((t.count c ev n l).cell d).pbind = (t.cell d).pbind := t.count_read c d ev n l _ fun _ _ => rfl
@[simp] theorem State.count_flags : ((t.count c ev n l).cell d).flags = (t.cell d).flags := t.count_read c d ev n l _ fun _ _ => rfl
@[simp] theorem State.count_subst : ((t.count c ev n l).cell d).subst = (t.cell d).subst := t.count_read c d ev n l _ fun _ _ => rfl
@[simp] theorem State.count_st : ((t.count c ev n l).cell d).st = (t.cell d).st := t.count_read c d ev n l _ fun _ _ => rfl
@[simp] theorem State.count_wait : ((t.count c ev n l).cell d).wait = (t.cell d).wait := t.count_read c d ev n l _ fun _ _ => rfl
@[simp] theorem State.count_flight : ((t.count c ev n l).cell d).flight = (t.cell d).flight := t.count_read c d ev n l _ fun _ _ => rfl
@[simp] theorem State.count_fault : ((t.count c ev n l).cell d).fault = (t.cell d).fault := t.count_read c d ev n l _ fun _ _ => rfl

end

end Sys2Proof.Machine
end

section
/-! SUPPORT. Proofs of the statements about crossbars and writes (R88 to R93, R110 to R120): ranges and suspicion, statistics, write slots and
the exchange of bindings. -/

namespace Sys2Proof.Machine

/-! ### Ranges, suspicion and recalibration (R75, R90) -/

/-- A crossbar for which calibration is requested waits for it or is in it. -/
theorem State.requestCal_asked (s : State) (cls r x e : Nat) :
    (((s.requestCal cls r x e).die (r / 272)).calQ.any (fun q => q.2.1 == r && q.2.2.1 == x) = true ∨
      ((s.requestCal cls r x e).die (r / 272)).calRun.contains (r, x) = true) := by
  unfold State.requestCal
  extract_lets d
  split
  next h => simpa [d] using h
  next h => left; simp

theorem convRangeWiden_completes (r : Rid) (x : Xb) (s : State) (g : Fin 16) (hp : 65536 ≤ (s.xbar r x).prods)
    (hsat : tget (s.xbar r x).conv g 0 < 1000 * tget (s.xbar r x).sat g 0) (hr : 0 < tget (s.xbar r x).rng g 2) :
    Completes (.convRangeWiden r x g) s (fun t => s.onlyIn t [.phys] ∧
      tget (t.xbar r x).rng g 2 = tget (s.xbar r x).rng g 2 - 1 ∧ (t.xbar r x).cond = (s.xbar r x).cond ∧
      ∀ h : Nat, h ≠ g → tget (t.xbar r x).rng h 2 = tget (s.xbar r x).rng h 2) := by
  refine ⟨_, by simp only [exec, execConvRangeWiden]; rw [if_pos (by simp [hp, hsat, hr])], by simp, ?_⟩
  rw [State.modXbar_xbar_self]
  exact ⟨tget_tset_self .., rfl, fun h hne => tget_tset_ne _ _ _ hne⟩

theorem crossbarSuspect_completes (r : Rid) (x : Xb) (s : State) (hredos : 16 < (s.xbar r x).redos) (hst : (s.xbar r x).st = 0) :
    Completes (.crossbarSuspect r x) s (fun t => s.onlyIn t [.phys, .dies] ∧ (t.xbar r x).st = 2 ∧ (t.xbar r x).cond = (s.xbar r x).cond ∧
      ((t.die (r / 272)).calQ.any (fun q => q.2.1 == r.val && q.2.2.1 == x.val) = true ∨
        (t.die (r / 272)).calRun.contains (r.val, x.val) = true)) := by
  refine ⟨_, by simp only [exec, execCrossbarSuspect]; rw [if_pos (by simp [hredos, hst])], by simp, ?_⟩
  rw [State.onlyIn.xbar (t := (State.requestCal _ 2 r x 0)) (l := [.dies])
    ((State.onlyIn_requestCal (by simp)).2 (State.onlyIn_refl _ _)) (by decide), State.modXbar_xbar_self]
  exact ⟨rfl, rfl, State.requestCal_asked _ 2 r x 0⟩

/-- Settles O20: each is one change of the crossbar, the second with its request. -/
theorem crossbarsWidenAndTurnSuspect : Obligations.CrossbarsWidenAndTurnSuspect := by
  unfold Obligations.CrossbarsWidenAndTurnSuspect
  exact fun r x s => ⟨convRangeWiden_completes r x s, crossbarSuspect_completes r x s⟩

/-! ### Statistics (R88, R91, R93) -/

theorem le_rneNat {n : Nat} {v : Rat} (h : (n : Rat) ≤ v) : n ≤ rneNat v := by
  have hfloor : n ≤ (Rat.floor v).toNat := by
    have : (n : Int) ≤ Rat.floor v := Rat.le_floor_iff.2 (by exact_mod_cast h)
    omega
  unfold rneNat
  extract_lets f q
  (repeat' split) <;> omega

theorem rneNat_le {n : Nat} {v : Rat} (h0 : 0 ≤ v) (h : v ≤ n) : rneNat v ≤ n := by
  have hfl : (0 : Int) ≤ Rat.floor v := Rat.le_floor_iff.2 (by exact_mod_cast h0)
  have hlt : ((Rat.floor v).toNat : Rat) ≤ v := by
    have := Rat.floor_le v
    rw [← Int.toNat_of_nonneg hfl] at this
    exact_mod_cast this
  unfold rneNat
  extract_lets f q
  have hfn : f ≤ n := by exact_mod_cast hlt.trans h
  rcases hfn.lt_or_eq with hlt' | heq
  · (repeat' split) <;> omega
  · have hq : q ≤ 0 := by simp only [q, heq]; linarith
    have : q < mkRat 1 2 := hq.trans_lt (by decide)
    rw [if_pos this, heq]

/-- A drift factor is set within its bounds, whatever was computed (R88). -/
theorem State.setK_k (s : State) (r x : Nat) (k : Rat) :
    29491 ≤ ((s.setK r x k).xbar r x).k ∧ ((s.setK r x k).xbar r x).k ≤ 36045 ∧
      ((s.setK r x k).xbar r x).refAt = (s.xbar r x).refAt := by
  unfold State.setK
  extract_lets lo hi h u
  have hlh : lo ≤ hi := by decide
  have hlo : lo ≤ h ∧ h ≤ hi := by
    simp only [h]
    split
    · exact ⟨le_rfl, hlh⟩
    next hk =>
      split
      · exact ⟨hlh, le_rfl⟩
      next hk' => exact ⟨not_lt.1 hk, not_lt.1 hk'⟩
  have h1 : (29491 : Nat) ≤ h * 32768 := by
    have : lo * 32768 ≤ h * 32768 := by nlinarith [hlo.1]
    exact le_trans (by simp only [lo]; norm_num [Rat.mkRat_eq_div]) this
  have h2 : h * 32768 ≤ (36045 : Nat) := by
    have : h * 32768 ≤ hi * 32768 := by nlinarith [hlo.2]
    exact le_trans this (by simp only [hi]; norm_num [Rat.mkRat_eq_div])
  have hu : (u.xbar r x).k = rneNat (h * 32768) ∧ (u.xbar r x).refAt = (s.xbar r x).refAt := by
    simp only [u, State.modXbar_xbar_self]; trivial
  have hx : ∀ t : State, u.onlyIn t [.dies, .day, .daySeq] → 29491 ≤ (t.xbar r x).k ∧ (t.xbar r x).k ≤ 36045 ∧
      (t.xbar r x).refAt = (s.xbar r x).refAt := fun t ht => by
    rw [ht.xbar (by decide), hu.1, hu.2]
    exact ⟨le_rneNat h1, rneNat_le (by linarith [h1]) h2, rfl⟩
  split
  · exact hx _ (State.onlyIn_refl _ _)
  · exact hx _ (by simp)

theorem noiseSigmaUpdate_completes (r : Rid) (x : Xb) (s : State) (hp : 65536 ≤ (s.xbar r x).prods) :
    Completes (.noiseSigmaUpdate r x) s (fun t => s.onlyIn t [.phys, .dies, .day, .daySeq] ∧
      (0 < (s.xbar r x).sigmaCal → ((s.xbar r x).sigmaCal + 1) / 2 ≤ (t.xbar r x).sigma) ∧
      (t.xbar r x).sigma ≤ 2 * (s.xbar r x).sigmaCal ∧ (t.xbar r x).prods = 0 ∧ (t.xbar r x).redos = 0) := by
  unfold Completes
  simp only [exec]
  unfold execNoiseSigmaUpdate
  extract_lets b q n lo hi out u
  rw [if_neg (not_lt.2 hp)]
  have hu : ∀ t : State, u.onlyIn t [.dies, .day, .daySeq] → (0 < (s.xbar r x).sigmaCal → lo ≤ (t.xbar r x).sigma) ∧
      (t.xbar r x).sigma ≤ hi ∧ (t.xbar r x).prods = 0 ∧ (t.xbar r x).redos = 0 := fun t ht => by
    rw [ht.xbar (by decide)]
    simp only [u, State.modXbar_xbar_self, and_true]
    exact ⟨fun h0 => by omega, Nat.min_le_right _ _⟩
  refine ⟨_, rfl, ?_, hu _ ?_⟩
  · simp only [u]; simp
  · split <;> simp

theorem outputBaseline_completes (r : Rid) (x : Xb) (s : State) (hb : (s.xbar r x).base = []) (hn : 65536 ≤ (s.xbar r x).outN) :
    Completes (.outputBaseline r x) s (fun t => s.onlyIn t [.phys] ∧ (t.xbar r x).base.length = 16 ∧ (t.xbar r x).outN = 0) := by
  refine ⟨_, by simp only [exec, execOutputBaseline]; rw [if_pos (by simp [hb, hn])], by simp, ?_⟩
  rw [State.modXbar_xbar_self]
  exact ⟨by simp, rfl⟩

theorem driftRefRead_completes (r : Rid) (x : Xb) (s : State) (codes : List Int) (c : Nat) (hc : s.cellOf r = some c)
    (hf : s.fld (s.owner c) Ty.arrayRead (s.owner c) 5 1 ≠ 0) (hon : s.regionOn c = true) (hl : (s.cell c).logical x ≠ 8)
    (hst : (s.xbar r x).st ≤ 2)
    (hp : s.passed (s.xbar r x).refAt (s.fld (s.owner c) Ty.arrayRead (s.owner c) 12 4 * 1000000) = true) :
    Completes (.driftRefRead r x codes) s (fun t => s.onlyIn t [.cells, .phys, .dies, .day, .daySeq] ∧
      (t.xbar r x).refAt = s.time ∧ 29491 ≤ (t.xbar r x).k ∧ (t.xbar r x).k ≤ 36045) := by
  obtain ⟨hlo, hhi, href⟩ := State.setK_k ((s.count c Ev.driftRefReads 1 (xq x)).modXbar r x (fun b => { b with refAt := s.time })) r x
    (s.refK r x codes)
  refine ⟨_, by simp only [exec, execDriftRefRead, hc]; rw [if_neg (by simp [hf, hon, hl, hst, hp])], by simp, ?_, hlo, hhi⟩
  rw [href, State.modXbar_xbar_self]

/-- Settles O21: the bounds are those the updates clamp to. -/
theorem crossbarStatisticsStayInBounds : Obligations.CrossbarStatisticsStayInBounds := by
  unfold Obligations.CrossbarStatisticsStayInBounds
  exact fun r x s => ⟨noiseSigmaUpdate_completes r x s, outputBaseline_completes r x s, driftRefRead_completes r x s⟩

end Sys2Proof.Machine
end

section
/-! SUPPORT. Proofs of the statements about writes and swaps (R110 to R120): the slots of a die, the rows of a write, and the exchange of
bindings. -/

namespace Sys2Proof.Machine

/-! ### The exchange of bindings (R116) -/

/-- A write at one key leaves the reading at another, whatever that reading's default. -/
theorem tget_tset_other {α : Type} [DecidableEq α] (t : Tbl α) {k j : Nat} (v d e : α) (h : j ≠ k) : tget (tset t k v d) j e = tget t j e := by
  unfold tset
  split
  · rw [tget_tdel, if_neg h]
  · rw [tget_tins, if_neg h]

/-- The state in which an exchange is made: the swap has left its work done. -/
theorem State.modFlight_cell (s : State) (c k : Nat) (g : Flight → Flight) :
    (s.modFlight c k g).cell c =
      { s.cell c with flight := (s.cell c).flight.map (fun f => if f.key = k then g f else f) } := State.modCell_cell_self _ _ _

theorem State.modXbar_cond (s : State) {r x q y : Nat} {f : Xbar → Xbar} (hf : ∀ b, (f b).cond = b.cond) :
    ((s.modXbar r x f).xbar q y).cond = (s.xbar q y).cond := by
  rw [State.modXbar_xbar]
  split
  next h => rw [hf, h.1, h.2]
  · rfl

theorem State.exchange_spec (s : State) (c lx : Nat) (hlx : lx ≠ 8) (hne : (s.cell c).phys lx ≠ (s.cell c).phys 8) :
    s.onlyIn (s.exchange c lx) [.cells, .phys, .parts] ∧ ((s.exchange c lx).cell c).phys lx = (s.cell c).phys 8 ∧
      ((s.exchange c lx).cell c).phys 8 = (s.cell c).phys lx ∧ ((s.exchange c lx).cell c).set lx = (s.cell c).set 8 ∧
      ((s.exchange c lx).cell c).set 8 = (s.cell c).set lx ∧ ((s.exchange c lx).cell c).relayImg = 0 ∧
      ((s.exchange c lx).xbar (s.reg c) ((s.cell c).phys 8)).st = 0 ∧
      ∀ x, ((s.exchange c lx).xbar (s.reg c) x).cond = (s.xbar (s.reg c) x).cond := by
  unfold State.exchange
  extract_lets cl r old new u
  have hcell : ∀ f g, ((((u.markDirty c lx).modXbar r new f).modXbar r old g).cell c) = u.cell c := fun f g => rfl
  have hphys : ∀ y, (u.markDirty c lx).xbar r y = s.xbar r y := fun y => rfl
  have hbind : ∀ (b : Tbl Nat) (v w : Nat), tget (tset (tset b lx v lx) 8 w 8) lx lx = v ∧ tget (tset (tset b lx v lx) 8 w 8) 8 8 = w :=
    fun b v w => ⟨by rw [tget_tset_other _ _ _ _ hlx, tget_tset_self], tget_tset_self ..⟩
  rw [hcell]
  simp only [u, State.setCell_cell_self, Cell.phys, Cell.set, (hbind _ _ _).1, (hbind _ _ _).2]
  refine ⟨by simp, rfl, rfl, rfl, rfl, trivial, ?_, fun x => ?_⟩
  · rw [State.modXbar_xbar, if_neg (by rintro ⟨-, h⟩; exact hne h.symm), State.modXbar_xbar, if_pos ⟨rfl, rfl⟩]
  · refine (State.modXbar_cond _ ?_).trans ((State.modXbar_cond _ ?_).trans (congrArg Xbar.cond (hphys x)))
    all_goals exact fun _ => rfl

/-- Settles O24: the swap has a completed image, so its last step is the exchange. -/
theorem aswapExchangesBindings : Obligations.AswapExchangesBindings := by
  unfold Obligations.AswapExchangesBindings
  intro c s f hhead hop hleft hlx hon hhalt hover hhold hrep hst hwq himg hne
  have hcell := s.modFlight_cell c f.key fun f => { f with left := 0 }
  have hphys : ∀ y, ((s.modFlight c f.key fun f => { f with left := 0 }).cell c).phys y = (s.cell c).phys y := fun y => by rw [hcell]; rfl
  have hset : ∀ y, ((s.modFlight c f.key fun f => { f with left := 0 }).cell c).set y = (s.cell c).set y := fun y => by rw [hcell]; rfl
  obtain ⟨honly, h1, h2, h3, h4, h5, h6, h7⟩ := (s.modFlight c f.key fun f => { f with left := 0 }).exchange_spec c f.lx (by omega)
    (by rwa [hphys, hphys])
  rw [hphys] at h1 h2 h6
  rw [hset] at h3 h4
  refine ⟨_, ?_, ?_, h1, h2, h3, h4, h5, h6, h7⟩
  · simp only [exec, execAswapExchange, hhead]
    rw [if_neg (by simp [hop, hleft, hon, hhalt, hover, hhold]), if_neg (by simp [hrep, hst]), if_neg (by simp [hwq]),
      if_neg (by omega), if_pos himg]
  · exact ((s.modCell_only c _).mono (by simp)).trans honly

end Sys2Proof.Machine
end

section
/-! SUPPORT. Proofs of the statement about write slots (R110 to R120): how a write leaves its engine's queue, and the start, the rows and the
end of a write. -/

namespace Sys2Proof.Machine

/-! ### The end of a write -/

/-- What a cell's fault does not write reads as before. -/
theorem State.faultAt_read {α : Type} (s : State) (c code cause pc : Nat) (w : BitVec 128) (a u d : Nat) (f : Cell → α)
    (hf : ∀ (x : Cell) st fl wt dr sp hs fg, f { x with
      st := st, fault := fl, wait := wt, draining := dr, startPend := sp, hostStopBy := hs, flight := fg } = f x)
    (hc : ∀ (x : Cell) y, f { x with ctr := y } = f x) : f ((s.faultAt c code cause pc w a u).cell d) = f (s.cell d) := by
  by_cases h : (s.cell c).st = 4
  · rw [s.faultAt_faulted c code cause pc w a u h]
  · rw [s.faultAt_cell c code cause pc w a u d h, State.count_read _ _ _ _ _ _ _ hc, State.setCell_cell]
    split
    next hd => rw [hf, hd]
    · rfl

@[simp] theorem State.precise_wq (s : State) (c code cause d : Nat) : ((s.precise c code cause).cell d).wq = (s.cell d).wq :=
  s.faultAt_read c code cause _ _ _ _ d (fun x => x.wq) (fun _ _ _ _ _ _ _ _ => rfl) fun _ _ => rfl

@[simp] theorem State.addFlag_wq (s : State) (c k n : Nat) : ((s.addFlag c k n).cell c).wq = (s.cell c).wq := by
  unfold State.addFlag
  extract_lets v
  (repeat' split) <;> simp

@[simp] theorem Cell.swapLost_wq (cl : Cell) (lx : Nat) : (cl.swapLost lx).wq = cl.wq := by
  unfold Cell.swapLost
  (repeat' split) <;> rfl

@[simp] theorem Cell.tagDone_wq (cl : Cell) (hit : Bool) (now : Nat) : (cl.tagDone hit now).wq = cl.wq := by
  unfold Cell.tagDone
  split <;> rfl

/-- A write that ends gives its slot back; those behind it stay in the queue. -/
theorem State.endWrite_spec (s : State) (c : Nat) (j : WriteJob) (res : Nat) (hrun : j.running = true) :
    ((s.endWrite c j res).cell c).wq.length = (s.cell c).wq.length ∧
      ((s.endWrite c j res).die (dieOf c)).slots = (s.die (dieOf c)).slots - 1 := by
  unfold State.endWrite
  rw [if_pos hrun]
  extract_lets u v x
  have hv : (v.cell c).wq.length = (s.cell c).wq.length ∧ (v.die (dieOf c)).slots = (s.die (dieOf c)).slots - 1 := by
    constructor
    · simp only [v, State.modCell_cell_self]
      have hu : (u.cell c).wq = (s.cell c).wq := rfl
      rw [hu]
      split <;> simp_all
    · have hd : v.die (dieOf c) = u.die (dieOf c) := rfl
      rw [hd, State.modDie_die_self]
  have hx : (x.cell c).wq = (v.cell c).wq ∧ v.onlyIn x [.cells] := by
    simp only [x]
    split <;> simp
  clear_value v x
  split
  · exact hv
  · constructor
    · rw [State.addFlag_wq, State.modCell_cell_self]
      simpa [hx.1] using hv.1
    · rw [State.onlyIn.die (s := v) (l := [.cells, .funcs, .hostMem, .day, .daySeq])
        ((State.onlyIn_addFlag (by simp)).2 ((State.onlyIn_modCell (by simp)).2 (hx.2.mono (by simp)))) (by decide)]
      exact hv.2

theorem State.dropJob_spec (s : State) (c res : Nat) {j : WriteJob} {rest : List WriteJob} (hwq : (s.cell c).wq = j :: rest)
    (hrun : j.running = true) : ((s.dropJob c res).cell c).wq.length = rest.length ∧
      ((s.dropJob c res).die (dieOf c)).slots = (s.die (dieOf c)).slots - 1 := by
  unfold State.dropJob
  rw [hwq]
  obtain ⟨hlen, hslots⟩ := (s.modCell c fun cl => { cl with wq := rest }).endWrite_spec c j res hrun
  exact ⟨by dsimp only; rw [hlen, State.modCell_cell_self], hslots⟩

/-- A write of the program's own that is not for the relay ends with its WDONE counted and nothing but its cell and its slot changed. -/
theorem State.dropJob_counts (s : State) (c res : Nat) {j : WriteJob} {rest : List WriteJob} (hwq : (s.cell c).wq = j :: rest)
    (hrep : j.repair = false) (hspare : j.spare = false) (hrest : j.restore = false) (hrelay : j.relay = false) (hdone : j.wdone ≠ 0)
    (hfit : tget (s.cell c).flags j.wdone 0 + 1 < 2 ^ 32) : s.onlyIn (s.dropJob c res) [.cells, .dies] ∧
      tget ((s.dropJob c res).cell c).flags j.wdone 0 = tget (s.cell c).flags j.wdone 0 + 1 := by
  unfold State.dropJob
  rw [hwq]
  dsimp only
  unfold State.endWrite
  extract_lets u v x
  have hv : s.onlyIn v [.cells, .dies] ∧ (v.cell c).flags = (s.cell c).flags := by
    constructor
    · simp only [v, u]
      split <;> simp
    · have hu : u.cell c = { s.cell c with wq := rest } := by
        have hdie : ∀ (t : State) d f, (t.modDie d f).cell c = t.cell c := fun _ _ _ => rfl
        simp only [u]
        split <;> simp only [hdie, State.modCell_cell_self]
      simp only [v, State.modCell_cell_self, hu]
  have hx : x = v := by simp [x, hrelay]
  rw [if_neg (by simp [hrep, hspare, hrest]), hx]
  have hflags : ∀ (cl : Cell) hit now w, ({ cl.tagDone hit now with wrStatus := w } : Cell).flags = cl.flags := fun cl hit now w => by
    unfold Cell.tagDone
    split <;> rfl
  clear_value v
  rw [State.addFlag_fits _ c _ (.inr (by rw [State.modCell_cell_self, hflags, hv.2]; exact hfit)), if_neg hdone]
  refine ⟨by simp [hv.1], ?_⟩
  rw [State.modCell_cell_self, tget_tset_self, State.modCell_cell_self, hflags, hv.2]

/-! ### The start of a write -/

/-- A write of its crossbar, with the slot it takes: what the head of the queue becomes when it starts and is not for the relay. -/
def State.startedJob (s : State) (c : Nat) (j : WriteJob) : WriteJob :=
  { j with running := true, relay := false, phys := (s.cell c).phys j.lx }

/-- The state in which the head of the queue has its slot. -/
def State.slotTaken (s : State) (c : Nat) (j : WriteJob) : State :=
  ((((s.count c Ev.wrSlotWaitNs (s.time - j.slotWaitFrom) (xq ((s.cell c).phys j.lx))).modDie (dieOf c)
    (fun d => { d with slots := d.slots + 1 })).setJob c (s.startedJob c j)).modCell c
      (fun cl => { cl with wrStatus := writeWord (s.startedJob c j) ((cl.wrStatus / 16) % 4) (cl.wq.length - 1) true }))

section
variable {c : Cid} {s : State} {j : WriteJob} {rest : List WriteJob}

/-- What the start of a write does where a slot is free: a FAILED crossbar ends it at once, another takes the load or the update. -/
theorem writeStart_eq (hwq : (s.cell c).wq = j :: rest) (hrun : j.running = false) (hhold : s.pow.hold = false) (hon : s.regionOn c = true)
    (hslot : s.slotFor (dieOf c) j = true) (hspare : j.spare = false) (hrelay : j.relay = false) :
    exec (.writeStart c) s =
      if (s.xbar (s.reg c) ((s.cell c).phys j.lx)).st = 3 then .next ((s.slotTaken c j).dropJob c 1)
      else if j.load then .next (((s.slotTaken c j).markDirty c j.lx).startLoad c (s.startedJob c j))
      else .next (((s.slotTaken c j).markDirty c j.lx).startUpdate c (s.startedJob c j)) := by
  have hxbar : (s.slotTaken c j).xbar ((s.slotTaken c j).jobRegion c (s.startedJob c j)) ((s.cell c).phys j.lx) =
      s.xbar (s.reg c) ((s.cell c).phys j.lx) := by
    have ht : s.onlyIn (s.slotTaken c j) [.cells, .dies] := by simp [State.slotTaken]
    rw [State.jobRegion, show (s.startedJob c j).spare = false from hspare, if_neg Bool.false_ne_true, ht.reg (by decide), ht.xbar (by decide)]
  rw [show exec (.writeStart c) s = execWriteStart c s from rfl]
  unfold execWriteStart
  extract_lets cl rx
  have hcl : cl.wq = j :: rest := hwq
  rw [hcl]
  conv => simp_match
  rw [if_neg (by simp [hrun, hhold, hon, hslot])]
  extract_lets absent t1 relay phys t2 t3 j1 t4
  have hrel : relay = false := by simp [relay, hrelay]
  have h1 : t1 = s := by simp [t1, absent, hrelay]
  have hphys : phys = (s.cell c).phys j.lx := by simp [phys, hspare, hrel, cl]
  have h3 : t3 = t2 := by simp [t3, hrel]
  have hj : j1 = s.startedJob c j := by simp only [j1, hrel, hphys]; rfl
  have h4 : t4 = s.slotTaken c j := by simp only [t4, h3, t2, h1, hj, hphys]; rfl
  have hown : (relay || j1.spare) = false := by rw [hrel, hj]; exact hspare
  rw [hown, h4, hj, hphys, hxbar]
  rfl

theorem State.slotTaken_wq (hwq : (s.cell c).wq = j :: rest) : ((s.slotTaken c j).cell c).wq = s.startedJob c j :: rest := by
  unfold State.slotTaken State.setJob
  have hdie : ∀ (t : State) d f, (t.modDie d f).cell c = t.cell c := fun _ _ _ => rfl
  simp only [State.modCell_cell_self, hdie, State.count_wq, hwq]

/-- What does not read the queue, the write status or the event counters of a cell reads as before. -/
theorem State.slotTaken_read {α : Type} (s : State) (c : Nat) (j : WriteJob) (d : Nat) (f : Cell → α)
    (hf : ∀ (x : Cell) q w y, f { x with wq := q, wrStatus := w, ctr := y } = f x) : f ((s.slotTaken c j).cell d) = f (s.cell d) := by
  have hmod : ∀ (t : State) (g : Cell → Cell), (∀ x, f (g x) = f x) → f ((t.modCell c g).cell d) = f (t.cell d) := fun t g hg => by
    rw [State.modCell_cell]
    split
    next hd => rw [hg, hd]
    · rfl
  refine (hmod _ _ fun x => ?_).trans ((hmod _ _ fun x => ?_).trans (State.count_read s c d _ _ _ f ?_))
  · exact hf x x.wq _ x.ctr
  · exact hf x _ x.wrStatus x.ctr
  · exact fun x y => hf x x.wq x.wrStatus y

@[simp] theorem State.slotTaken_slots : ((s.slotTaken c j).die (dieOf c)).slots = (s.die (dieOf c)).slots + 1 := by
  unfold State.slotTaken
  have hdie : ∀ (t : State) x f, (((t.setJob c x).modCell c f).die (dieOf c)) = t.die (dieOf c) := fun _ _ _ => rfl
  rw [hdie, State.modDie_die_self, State.onlyIn.die (s := s) (l := [.cells]) (by simp) (by decide)]

end

theorem State.setJob_wq {s : State} {c : Nat} {j : WriteJob} {rest : List WriteJob} (hwq : (s.cell c).wq = j :: rest) (k : WriteJob) :
    ((s.setJob c k).cell c).wq = k :: rest := by
  unfold State.setJob
  rw [State.modCell_cell_self, hwq]

/-- A row's checks leave the conductances. -/
@[simp] theorem checkRow_cond (b : Xbar) (i : Nat) (old new : List Int) : (checkRow b i old new).cond = b.cond := by
  have hfold : ∀ (l : List Nat) (f : Xbar → Nat → Xbar), (∀ x k, (f x k).cond = x.cond) → ∀ x, (l.foldl f x).cond = x.cond := by
    intro l f hf
    induction l with
    | nil => exact fun _ => rfl
    | cons k r ih => exact fun x => (ih _).trans (hf x k)
  exact hfold (List.range 4) _ (fun x k => rfl) b

/-- A row that is prepared leaves the queue's head what it programs and every conductance as it is. -/
theorem State.beginRow_spec {s : State} {c : Nat} {j : WriteJob} {rest : List WriteJob} (hwq : (s.cell c).wq = j :: rest) :
    (∃ k : WriteJob, ((s.beginRow c).cell c).wq = k :: rest ∧ k.rows = j.rows ∧ k.running = j.running ∧ k.phys = j.phys) ∧
      ∀ r x, ((s.beginRow c).xbar r x).cond = (s.xbar r x).cond := by
  have hself : ∃ k : WriteJob, (s.cell c).wq = k :: rest ∧ k.rows = j.rows ∧ k.running = j.running ∧ k.phys = j.phys :=
    ⟨j, hwq, rfl, rfl, rfl⟩
  unfold State.beginRow
  rw [hwq]
  conv => simp_match
  split
  next => exact ⟨hself, fun _ _ => rfl⟩
  next i _ hrows =>
    extract_lets cl r live dst row0 old new v1 row b b' v2 v3
    split
    next =>
      exact ⟨hself, fun _ _ => State.modXbar_cond _ fun _ => rfl⟩
    next =>
      have hv2 : (v2.cell c).wq = j :: rest ∧ ∀ q x, v2.xbar q x = s.xbar q x :=
        ⟨by simp only [v2, v1, State.count_wq, hwq], (State.onlyIn.xbar (l := [.cells]) (by simp [v2, v1]) (by decide))⟩
      have hb' : b'.cond = (s.xbar r j.phys).cond := by
        have hv1 : s.onlyIn v1 [.cells] := by simp [v1]
        simp only [b', checkRow_cond, b, hv1.xbar (by decide)]
      have hv3 : (v3.cell c).wq = j :: rest ∧ ∀ q x, (v3.xbar q x).cond = (s.xbar q x).cond := by
        have hmem : (v2.modXbar r j.phys fun _ => b').onlyIn v3 [.mem] := by simp [v3]
        refine ⟨by rw [hmem.cell (by decide)]; exact hv2.1, fun q x => ?_⟩
        rw [hmem.xbar (by decide), State.modXbar_xbar]
        split
        next h => rw [h.1, h.2, hb']
        · rw [hv2.2]
      clear_value v3
      refine ⟨⟨{ j with old := tputs [] (i * 512) old 0 }, ?_, rfl, rfl, rfl⟩, hv3.2⟩
      rw [State.setJob, State.modCell_cell_self, hv3.1]

/-- The codes a load takes are read from module memory and its own cell's memories. -/
theorem State.loadCodes_congr {s t : State} {c : Nat} {j k : WriteJob} (hmem : t.mem = s.mem) (hrecs : t.recs = s.recs)
    (hloc : ∀ c a, t.rdLoc8 c a = s.rdLoc8 c a) (hset : (t.cell c).set j.lx = (s.cell c).set j.lx)
    (hk : k.lx = j.lx ∧ k.src = j.src ∧ k.repair = j.repair ∧ k.spare = j.spare ∧ k.restore = j.restore) :
    t.loadCodes c k = s.loadCodes c j := by
  obtain ⟨hlx, hsrc, hrep, hspare, hrest⟩ := hk
  have hcell : ∀ c a n, t.rdLoc c a n = s.rdLoc c a n := fun c a n => List.map_congr_left fun i _ => hloc c (a + i)
  have hop : ∀ d a n, t.rdOp c d a n = s.rdOp c d a n := fun d a n => by
    simp only [State.rdOp, State.rdDev, State.rdMem, hmem, hcell]
  have hcode : ∀ b r i, t.codeAt b r i = s.codeAt b r i := fun b r i => by rw [State.codeAt, State.codeAt, State.rd8, State.rd8, hmem]
  have hraw : ∀ d r i, t.rawElem c d r i = s.rawElem c d r i := fun d r i => by simp only [State.rawElem, hop]
  have hfld : ∀ p ty i o n, t.fld p ty i o n = s.fld p ty i o n := fun p ty i o n => by
    rw [State.fld, State.fld, State.rcd, State.rcd, hrecs]
  have hbase : ∀ x pl, t.planeBase c x pl = s.planeBase c x pl := fun x pl => by
    rw [State.planeBase, State.planeBase, State.hasRec, State.hasRec, hrecs, hfld]
  simp only [State.loadCodes, hlx, hsrc, hrep, hspare, hrest, hset, hcode, hraw, hbase]

/-- A cell's local bytes are those of its memories, its program and its identity page (R529). -/
theorem State.rdLoc8_congr {s t : State} {c : Nat} (hspad : (t.cell c).spad = (s.cell c).spad) (htally : (t.cell c).tally = (s.cell c).tally)
    (hibuf : (t.cell c).ibuf = (s.cell c).ibuf) (hpage : t.idPage c = s.idPage c) (a : Nat) : t.rdLoc8 c a = s.rdLoc8 c a := by
  simp only [State.rdLoc8, hspad, htally, hibuf, hpage]

/-- The identity page names the cell's places, its program, the step and the time. -/
theorem State.idPage_congr {s t : State} {l : List Area} (h : s.onlyIn t l)
    (hl : .repair ∉ l ∧ .recs ∉ l ∧ .fab ∉ l ∧ .time ∉ l) {c : Nat} (hprog : (t.cell c).progId = (s.cell c).progId)
    (hstep : ∀ p, (t.part p).trainStep = (s.part p).trainStep) : t.idPage c = s.idPage c := by
  obtain ⟨hrepair, hrecs, hfab, htime⟩ := hl
  have howner : t.owner c = s.owner c := h.owner hrecs c
  simp only [State.idPage, h.reg hrepair, howner, h.fab hfab, h.time htime, hprog, hstep]

/-- A load of codes that the array holds, with its carries zeroed, programs every row. -/
theorem State.startLoad_spec {s : State} {c : Nat} {j h : WriteJob} {rest : List WriteJob} (hwq : (s.cell c).wq = h :: rest)
    (hcodes : (s.loadCodes c j).all (fun k => decide (k.natAbs ≤ 15)) = true) (hzero : j.zeroCarry = true) :
    s.onlyIn (s.startLoad c j) [.cells, .phys, .mem] ∧
      (((s.startLoad c j).cell c).wq.head?.map fun k => (k.running, k.phys, k.rows)) = some (j.running, j.phys, List.range 512) := by
  have hany : ¬ (s.loadCodes c j).any (fun k => decide (15 < k.natAbs)) = true := by
    rw [List.any_eq_true]
    rintro ⟨k, hk, hbig⟩
    have := List.all_eq_true.1 hcodes k hk
    simp only [decide_eq_true_eq] at hbig this
    omega
  unfold State.startLoad
  extract_lets cl own live codes old dst v1 from_ dv v2
  rw [if_neg hany, if_neg (by simp [hzero])]
  have hv2 : s.onlyIn v2 [.phys, .mem] := by simp [v2, v1]
  have hq : ∀ k, ((v2.setJob c k).cell c).wq = k :: rest := fun k => by
    rw [State.setJob, State.modCell_cell_self, hv2.cell (by decide), hwq]
  clear_value v2 old
  obtain ⟨⟨k, hk, hrows, hrun, hphys⟩, -⟩ := State.beginRow_spec (hq { j with
    rows := List.range 512, old := if j.zeroCarry then [] else tputs [] 0 old 0 })
  refine ⟨?_, ?_⟩
  · rw [State.onlyIn_beginRow (by simp), State.onlyIn_setJob (by simp)]
    exact hv2.mono (by simp)
  · rw [hk, List.head?_cons, Option.map_some, hrows, hrun, hphys]

/-- The write at the head of the queue, on a FAILED crossbar and on a usable one (R110, R113, R120). -/
theorem writeStart_failed {c : Cid} {s : State} {j : WriteJob} {rest : List WriteJob} (hwq : (s.cell c).wq = j :: rest)
    (hrun : j.running = false) (hhold : s.pow.hold = false) (hon : s.regionOn c = true) (hslot : s.slotFor (dieOf c) j = true)
    (hspare : j.spare = false) (hrelay : j.relay = false) (hst : (s.xbar (s.reg c) ((s.cell c).phys j.lx)).st = 3) :
    Completes (.writeStart c) s (fun t => (t.die (dieOf c)).slots = (s.die (dieOf c)).slots ∧ (t.cell c).wq.length = rest.length) := by
  obtain ⟨hlen, hslots⟩ := (s.slotTaken c j).dropJob_spec c 1 (State.slotTaken_wq hwq) rfl
  refine ⟨_, by rw [writeStart_eq hwq hrun hhold hon hslot hspare hrelay, if_pos hst], ?_, hlen⟩
  rw [hslots, State.slotTaken_slots, Nat.add_sub_cancel]

/-- A plane marked for the next snapshot changes its partition alone. -/
@[simp] theorem State.markDirty_cell (t : State) (c x d : Nat) : (t.markDirty c x).cell d = t.cell d := rfl
@[simp] theorem State.markDirty_die (t : State) (c x d : Nat) : (t.markDirty c x).die d = t.die d := rfl

theorem writeStart_load {c : Cid} {s : State} {j : WriteJob} {rest : List WriteJob} (hwq : (s.cell c).wq = j :: rest)
    (hrun : j.running = false) (hhold : s.pow.hold = false) (hon : s.regionOn c = true) (hslot : s.slotFor (dieOf c) j = true)
    (hspare : j.spare = false) (_ : j.repair = false) (hrelay : j.relay = false) (hload : j.load = true) (hzero : j.zeroCarry = true)
    (hst : (s.xbar (s.reg c) ((s.cell c).phys j.lx)).st ≠ 3)
    (hcodes : (s.loadCodes c j).all (fun k => decide (k.natAbs ≤ 15)) = true) :
    Completes (.writeStart c) s (fun t => s.onlyIn t [.cells, .phys, .parts, .mem, .dies] ∧
      (t.die (dieOf c)).slots = (s.die (dieOf c)).slots + 1 ∧
      ((t.cell c).wq.head?.map (fun k => (k.running, k.phys, k.rows))) = some (true, (s.cell c).phys j.lx, List.range 512)) := by
  have honly : s.onlyIn ((s.slotTaken c j).markDirty c j.lx) [.cells, .parts, .dies] := by simp [State.slotTaken]
  have hcodes' : ((s.slotTaken c j).markDirty c j.lx).loadCodes c (s.startedJob c j) = s.loadCodes c j := by
    refine State.loadCodes_congr (honly.mem (by decide)) (honly .recs (by decide)) (fun d a => ?_) ?_ ⟨rfl, rfl, rfl, rfl, rfl⟩
    · refine State.rdLoc8_congr ?_ ?_ ?_ (State.idPage_congr honly (by decide) ?_ fun p => ?_) a
      case refine_5 =>
        rw [State.markDirty, State.modPart_part]
        have hparts : s.onlyIn (s.slotTaken c j) [.cells, .dies] := by simp [State.slotTaken]
        split
        next hp => rw [hp, hparts.part (by decide)]
        · rw [hparts.part (by decide)]
      all_goals
        rw [State.markDirty_cell]
        exact s.slotTaken_read c j d _ (fun _ _ _ _ => rfl)
    · rw [State.markDirty_cell]
      exact congrArg (tget · j.lx j.lx) (s.slotTaken_read c j c Cell.pbind (fun _ _ _ _ => rfl))
  obtain ⟨hframe, hq⟩ := State.startLoad_spec (s := (s.slotTaken c j).markDirty c j.lx) (j := s.startedJob c j)
    (by rw [State.markDirty_cell, State.slotTaken_wq hwq]) (by rw [hcodes']; exact hcodes) hzero
  refine ⟨_, by rw [writeStart_eq hwq hrun hhold hon hslot hspare hrelay, if_neg hst, if_pos hload], ?_, ?_, hq⟩
  · exact (honly.mono (by simp)).trans (hframe.mono (by simp))
  · rw [hframe.die (by decide), State.markDirty_die, State.slotTaken_slots]

/-! ### The rows and the end of a write -/

section
variable {c : Cid} {s : State} {j : WriteJob} {rest : List WriteJob} {i n : Nat} {rows : List Nat} {levels : List Int}

/-- What a row's programming does while its write runs and the row's wear allows the rounds it took. -/
theorem rowWriteDone_eq (ok : Bool) (hwq : (s.cell c).wq = j :: rest) (hrun : j.running = true) (hrows : j.rows = i :: rows)
    (htry : j.retried = false) (hgo : s.pow.hold = false ∨ j.paused = false) (hn : n ≤ 80)
    (hwear : n = 0 ∨ tget (s.xbar (s.jobRegion c j) j.phys).wear i 0 < 1000000)
    (hok : ok = true → verified (s.fld (s.owner c) Ty.arrayWrite (s.owner c) 0 1)
      (s.codeRow (s.planeBase c ((s.cell c).jobSet j) 0) i ++
        (List.range 4).map (fun k => tget (s.xbar (s.jobRegion c j) j.phys).qc (i * 4 + k) 0)) levels = true) :
    exec (.rowWriteDone c ok n levels) s =
      let t := s.count c Ev.wrRounds n (xq j.phys)
      if !ok then .next ((t.count c Ev.wrRowFail 1 (xq j.phys)).setJob c { j with retried := true })
      else
        let t := t.count c Ev.wrRows 1 (xq j.phys)
        let t := if 0 < n || j.retried then t.wearRow (s.jobRegion c j) j.phys i else t
        let t := (t.modXbar (s.jobRegion c j) j.phys (fun b => { b with cond := tputs b.cond (i * 516) levels 0 })).landRow c j i levels
        .next ((t.setJob c { j with rows := rows, retried := false, paused := s.pow.hold }).beginRow c) := by
  have hpause : (s.pow.hold && j.paused) = false := by rcases hgo with h | h <;> simp [h]
  have hver : (ok && !verified (s.fld (s.owner c) Ty.arrayWrite (s.owner c) 0 1)
      (s.codeRow (s.planeBase c ((s.cell c).jobSet j) 0) i ++
        (List.range 4).map (fun k => tget (s.xbar (s.jobRegion c j) j.phys).qc (i * 4 + k) 0)) levels) = false := by
    cases ok with
    | false => rfl
    | true => simp [hok rfl]
  rw [show exec (.rowWriteDone c ok n levels) s = execRowWriteDone c ok n levels s from rfl]
  unfold execRowWriteDone
  rw [hwq]
  conv => simp_match
  rw [hrows]
  conv => simp_match
  extract_lets r b p target t1 t2 t3 t4
  have hskip : (!j.running || (s.pow.hold && j.paused) || decide (80 < n) ||
      (ok && !verified (s.fld p Ty.arrayWrite p 0 1) target levels)) = false := by
    rw [hrun, hpause, decide_eq_false (by omega)]
    simpa using hver
  have hfail : (decide (0 < n) && !j.retried && decide (1000000 ≤ tget b.wear i 0)) = false := by
    rcases hwear with h | h
    · simp [h]
    · rw [decide_eq_false (p := 1000000 ≤ _) (not_le.2 h), Bool.and_false]
  rw [hskip, hfail]
  simp only [Bool.false_eq_true, if_false, htry]
  rfl

theorem rowWriteDone_fails (hwq : (s.cell c).wq = j :: rest) (hrun : j.running = true) (hrows : j.rows = i :: rows)
    (htry : j.retried = false) (hgo : s.pow.hold = false ∨ j.paused = false) (hn : n ≤ 80)
    (hwear : n = 0 ∨ tget (s.xbar (s.jobRegion c j) j.phys).wear i 0 < 1000000) :
    Completes (.rowWriteDone c false n levels) s (fun t => s.cellOnly t c ∧ (t.cell c).wq = { j with retried := true } :: rest) := by
  refine ⟨_, by rw [rowWriteDone_eq false hwq hrun hrows htry hgo hn hwear nofun]; rfl,
    ((s.count_cellOnly c _ _ _).trans (State.count_cellOnly _ c _ _ _)).trans (State.modCell_cellOnly _ c _), ?_⟩
  exact State.setJob_wq ((State.count_wq ..).trans ((State.count_wq ..).trans hwq)) _

/-- A row that wears leaves every conductance, every region and every cell. -/
@[simp] theorem State.wearRow_cond (t : State) (r x y q z : Nat) : ((t.wearRow r x y).xbar q z).cond = (t.xbar q z).cond := by
  unfold State.wearRow
  extract_lets b k u
  have hu : (u.xbar q z).cond = (t.xbar q z).cond := State.modXbar_cond _ fun _ => rfl
  split
  · rw [State.onlyIn.xbar (s := u.modXbar r x fun b => { b with wearWarned := true }) (l := [.day, .daySeq]) (by simp) (by decide),
      ← hu]
    exact State.modXbar_cond _ fun _ => rfl
  · exact hu

/-- What the new codes leave in the carries and the achieved values leaves the queue. -/
@[simp] theorem State.landRow_wq (t : State) (k : WriteJob) (i : Nat) (lv : List Int) (d : Nat) :
    ((t.landRow c k i lv).cell d).wq = (t.cell d).wq := by
  unfold State.landRow
  extract_lets cl p live dst codes repro carryL achL carryD achD
  refine State.foldl_read (fun u => (u.cell d).wq) (fun u m => ?_) _ t
  extract_lets e cn on v w
  have hw : ∀ (u : State) a b, (u.wrMem a b).cell d = u.cell d := fun _ _ _ => rfl
  split
  · rw [hw, hw]
  · unfold State.putCarry
    extract_lets
    split <;> rw [State.count_wq, hw, hw]

theorem rowWriteDone_verified (hwq : (s.cell c).wq = j :: rest) (hrun : j.running = true) (hrows : j.rows = i :: rows)
    (htry : j.retried = false) (hgo : s.pow.hold = false ∨ j.paused = false) (hn : n ≤ 80)
    (hwear : n = 0 ∨ tget (s.xbar (s.jobRegion c j) j.phys).wear i 0 < 1000000)
    (hok : verified (s.fld (s.owner c) Ty.arrayWrite (s.owner c) 0 1) (s.codeRow (s.planeBase c ((s.cell c).jobSet j) 0) i ++
      (List.range 4).map (fun k => tget (s.xbar (s.jobRegion c j) j.phys).qc (i * 4 + k) 0)) levels = true) :
    Completes (.rowWriteDone c true n levels) s (fun t => s.onlyIn t [.cells, .phys, .mem, .day, .daySeq] ∧
      ((t.cell c).wq.head?.map (fun k => k.rows)) = some rows ∧
      (t.xbar (s.jobRegion c j) j.phys).cond = tputs (s.xbar (s.jobRegion c j) j.phys).cond (i * 516) levels 0) := by
  refine ⟨_, by rw [rowWriteDone_eq true hwq hrun hrows htry hgo hn hwear fun _ => hok]; rfl, ?_⟩
  have hwear : ∀ u : State, s.onlyIn u [.cells] → (u.cell c).wq = j :: rest →
      let v := if 0 < n || j.retried then u.wearRow (s.jobRegion c j) j.phys i else u
      s.onlyIn v [.cells, .phys, .day, .daySeq] ∧ (v.cell c).wq = j :: rest ∧ ∀ q x, (v.xbar q x).cond = (s.xbar q x).cond :=
    fun u hu hq => by
      dsimp only
      split
      · refine ⟨by simp [hu.mono], ?_, fun q x => ?_⟩
        · rw [State.onlyIn.cell (s := u) (l := [.phys, .day, .daySeq]) (by simp) (by decide), hq]
        · rw [State.wearRow_cond, hu.xbar (by decide)]
      · exact ⟨hu.mono (by simp), hq, fun q x => by rw [hu.xbar (by decide)]⟩
  obtain ⟨honly, hq, hcond⟩ := hwear ((s.count c Ev.wrRounds n (xq j.phys)).count c Ev.wrRows 1 (xq j.phys)) (by simp)
    (by rw [State.count_wq, State.count_wq, hwq])
  generalize (if (0 < n || j.retried) = true then _ else _) = v at honly hq hcond ⊢
  generalize hu : (v.modXbar (s.jobRegion c j) j.phys fun b => { b with cond := tputs b.cond (i * 516) levels 0 }) = u
  generalize hw : u.landRow c j i levels = w
  have hux : (u.xbar (s.jobRegion c j) j.phys).cond = tputs (s.xbar (s.jobRegion c j) j.phys).cond (i * 516) levels 0 := by
    rw [← hu, State.modXbar_xbar_self, ← hcond]
  have huq : v.onlyIn u [.phys] := by simp [← hu]
  have hland : u.onlyIn w [.cells, .mem] := by simp [← hw]
  have hwq' : (w.cell c).wq = j :: rest := by rw [← hw, State.landRow_wq, huq.cell (by decide), hq]
  obtain ⟨⟨k, hk, hkrows, -, -⟩, hkcond⟩ := State.beginRow_spec (State.setJob_wq hwq' { j with
    rows := rows, retried := false, paused := s.pow.hold })
  refine ⟨?_, ?_, ?_⟩
  · rw [State.onlyIn_beginRow (by simp), State.onlyIn_setJob (by simp)]
    exact (honly.mono (by simp)).trans ((huq.mono (by simp)).trans (hland.mono (by simp)))
  · rw [hk, List.head?_cons, Option.map_some, hkrows]
  · rw [hkcond]
    exact (congrArg Xbar.cond (hland.xbar (by decide) _ _)).trans hux

theorem writeComplete_counts (hwq : (s.cell c).wq = j :: rest) (hrun : j.running = true) (hrows : j.rows = []) (hcut : j.cut = false)
    (hload : j.load = false) (hrelay : j.relay = false) (hrep : j.repair = false) (hspare : j.spare = false) (hrest : j.restore = false)
    (hdone : j.wdone ≠ 0) (hfit : tget (s.cell c).flags j.wdone 0 + 1 < 2 ^ 32) :
    Completes (.writeComplete c) s (fun t => s.onlyIn t [.cells, .phys, .dies] ∧ (t.cell c).wq.length = rest.length ∧
      (t.die (dieOf c)).slots = (s.die (dieOf c)).slots - 1 ∧
      tget (t.cell c).flags j.wdone 0 = tget (s.cell c).flags j.wdone 0 + 1) := by
  generalize hu : (s.modXbar (s.jobRegion c j) j.phys fun b => { b with st := if b.st = 4 then 0 else b.st }) = u
  have hphys : s.onlyIn u [.phys] := by simp [← hu]
  have hcell : u.cell c = s.cell c := hphys.cell (by decide) c
  obtain ⟨hlen, hslots⟩ := u.dropJob_spec c 0 (by rw [hcell, hwq]) hrun
  obtain ⟨honly, hflag⟩ := u.dropJob_counts c 0 (by rw [hcell, hwq]) hrep hspare hrest hrelay hdone (by rwa [hcell])
  refine ⟨u.dropJob c 0, ?_, (hphys.mono (by simp)).trans (honly.mono (by simp)), hlen, by rw [hslots, hphys.die (by decide)], by rw [hflag, hcell]⟩
  rw [show exec (.writeComplete c) s = execWriteComplete c s from rfl]
  unfold execWriteComplete
  extract_lets cl
  rw [show cl.wq = j :: rest from hwq]
  conv => simp_match
  extract_lets busy r base t1 t2 t3
  have hgo : (!j.running || j.cut || !j.rows.isEmpty || busy) = false := by simp [busy, hrun, hcut, hrows, hrep]
  have h2 : t2 = u := by simp [t2, t1, hrep, hrelay, hload, ← hu, r]
  rw [hgo, hspare, hrest]
  simp [t3, h2]

end

/-- Settles O23: the start by whether the crossbar is usable, the rows by their outcome, the end by the queue's rule. -/
theorem writesTakeAndGiveSlots : Obligations.WritesTakeAndGiveSlots := by
  unfold Obligations.WritesTakeAndGiveSlots
  exact fun c s j rest hwq => ⟨writeStart_failed hwq, writeStart_load hwq,
    fun i n rows levels hrun hrows htry hgo hn hwear => ⟨rowWriteDone_fails hwq hrun hrows htry hgo hn hwear,
      rowWriteDone_verified hwq hrun hrows htry hgo hn hwear⟩, writeComplete_counts hwq⟩

end Sys2Proof.Machine
end

section
/-! SUPPORT. Proofs of the statement about barriers (R42, R308, R309): how a sequencer's wait ends, what an arrival joins, and whom a release
frees. -/

namespace Sys2Proof.Machine

/-! ### The end of a wait -/

/-- A flag count keeps a wait that is over, overflowing or not, and every other cell. -/
theorem State.addFlag_waitOver (s : State) (c k n : Nat) (h : (s.cell c).wait = Wait.reset) :
    ((s.addFlag c k n).cell c).wait = Wait.reset ∧ ∀ d, d ≠ c → (s.addFlag c k n).cell d = s.cell d := by
  unfold State.addFlag
  extract_lets v
  split
  · exact ⟨h, fun _ _ => rfl⟩
  split
  · exact ⟨by rw [State.modCell_cell_self]; exact h, fun d hd => by rw [State.modCell_cell, if_neg hd]⟩
  · have hu : ∀ d, d ≠ c → (s.modCell c fun cl => { cl with flags := tset cl.flags k (2 ^ 32 - 1) 0 }).cell d = s.cell d := fun d hd => by
      rw [State.modCell_cell, if_neg hd]
    have hw : ((s.modCell c fun cl => { cl with flags := tset cl.flags k (2 ^ 32 - 1) 0 }).cell c).wait = Wait.reset := by
      rw [State.modCell_cell_self]; exact h
    generalize (s.modCell c fun cl => { cl with flags := tset cl.flags k (2 ^ 32 - 1) 0 }) = u at hu hw ⊢
    refine ⟨?_, fun d hd => (State.faultAt_cell_ne u c _ _ _ _ _ _ hd).trans (hu d hd)⟩
    unfold State.precise
    by_cases hst : (u.cell c).st = 4
    · rw [u.faultAt_faulted c _ _ _ _ _ _ hst, hw]
    · rw [u.faultAt_cell c _ _ _ _ _ _ c hst, State.count_wait, State.setCell_cell_self]

/-- A retirement ends its cell's wait, whatever its COMP does, and leaves every other cell. -/
theorem State.retire_ends (s : State) (c st : Nat) :
    ((s.retire c st).cell c).wait = Wait.reset ∧ ∀ d, d ≠ c → (s.retire c st).cell d = s.cell d := by
  unfold State.retire
  extract_lets w
  split
  next u t hu =>
  extract_lets s1 s2
  have a1 : s.cellOnly s2 c := by
    have := s.sampleTag_cellOnly c; rw [hu] at this
    exact (this.trans (State.tagged_cellOnly u c t _)).trans (State.modCell_cellOnly _ c _)
  have e2 : (s2.cell c).wait = Wait.reset := by simp only [s2, State.modCell_cell_self, Cell.advance]
  clear_value s2
  unfold State.retired
  extract_lets s3 s4 s5
  have h5 : s2.cellOnly s5 c ∧ (s5.cell c).wait = Wait.reset := by
    have h3 : s2.cellOnly s3 c ∧ (s3.cell c).wait = Wait.reset :=
      ⟨s2.modCell_cellOnly c _, by simp only [s3, State.modCell_cell_self, e2]⟩
    have h4 : s2.cellOnly s4 c ∧ (s4.cell c).wait = Wait.reset :=
      ⟨h3.1.trans (s3.count_cellOnly c _ _ _), by simp only [s4, State.count_wait, h3.2]⟩
    simp only [s5]
    split
    · exact ⟨h4.1.trans (s4.count_cellOnly c _ _ _), by simp only [State.count_wait, h4.2]⟩
    · exact h4
  obtain ⟨hwait, hother⟩ := s5.addFlag_waitOver c (wordComp w) 1 h5.2
  exact ⟨hwait, fun d hd => by rw [hother d hd, h5.1.2 d hd, a1.2 d hd]⟩

theorem State.release_ends (s : State) (c : Nat) :
    ((s.release c).cell c).wait = Wait.reset ∧ ∀ d, d ≠ c → (s.release c).cell d = s.cell d := by
  unfold State.release
  extract_lets wt
  obtain ⟨hwait, hother⟩ := (s.latency (s.owner c) 3 (if wt.kind = 3 then 1 else 0) (s.time - wt.start)).retire_ends c 0
  exact ⟨hwait, fun d hd => by rw [hother d hd, State.latency_cell]⟩

/-- A release of every cell of a list ends the waits of those cells. -/
theorem State.foldl_release_wait (l : List Nat) (s : State) (d : Nat) :
    ((l.foldl State.release s).cell d).wait = if d ∈ l then Wait.reset else (s.cell d).wait := by
  induction l generalizing s with
  | nil => simp
  | cons c r ih =>
    rw [List.foldl_cons, ih]
    obtain ⟨hwait, hother⟩ := s.release_ends c
    by_cases hd : d = c
    · subst hd; simp [hwait]
    · simp [hother d hd, hd]

/-! ### Arrivals -/

theorem State.atControl_issuing {s : State} {c w : Nat} {o : Op} (h : s.atControl c o = some w) :
    (s.cell c).halt = false ∧ (s.cell c).draining = 0 := by
  unfold State.atControl at h
  split at h
  next v hv =>
    unfold State.atOp at hv
    split at hv
    next hi =>
      unfold State.issuing at hi
      exact ⟨by simp_all, by simp_all⟩
    · cases hv
  · cases h

/-- A barrier that a cell begins is held from now on, and arrives at once where nothing of the cell is under way (R42). -/
theorem State.settleCell_barrier {s : State} {c : Nat} (hst : (s.cell c).st = 2) (hhalt : (s.cell c).halt = false)
    (hdrain : (s.cell c).draining = 0) (hkind : (s.cell c).wait.kind = 2 ∨ (s.cell c).wait.kind = 3) (harr : (s.cell c).wait.arrived = false) :
    s.settleCell c = if (s.cell c).idle 255 = true ∧ ((s.cell c).wait.kind = 2 ∨ (s.cell c).acked = true) then s.arrive c else s := by
  unfold State.settleCell
  extract_lets cl
  have h4 : (decide (cl.wait.kind = 4) : Bool) = false := decide_eq_false (by rcases hkind with h | h <;> simp [cl, h])
  have h8 : (decide (cl.wait.kind = 8) : Bool) = false := decide_eq_false (by rcases hkind with h | h <;> simp [cl, h])
  have hbar : (decide (cl.wait.kind = 2) || decide (cl.wait.kind = 3)) = true := by simpa [cl] using hkind
  rw [if_neg (by simp [cl, hdrain]), if_neg (by simp [cl, hst, hhalt]), h4, h8, hbar]
  simp [cl, harr]

/-- The state in which a cell's barrier is held. -/
def State.barrierHeld (s : State) (c w kind : Nat) : State :=
  (s.hold c { Wait.reset with kind := kind, group := barrierGroup w, mask := 255, step := bit (wordMod w) 1 }).countEdge c Ev.seqBarrier

theorem State.barrierHeld_spec (s : State) (c w kind : Nat) :
    s.cellOnly (s.barrierHeld c w kind) c ∧
      ({ s.cell c with wait := { Wait.reset with
          kind := kind, group := barrierGroup w, mask := 255, step := bit (wordMod w) 1, start := s.time } } : Cell).sameRun
        ((s.barrierHeld c w kind).cell c) := s.hold_countEdge_spec c Ev.seqBarrier _

/-- A cell that holds at a barrier, and whether it has arrived: what decides is as before. -/
theorem State.barrierHeld_settle {s : State} {c w kind : Nat} (hw : s.atControl c .barrier = some w) (hk : kind = 2 ∨ kind = 3) :
    (s.barrierHeld c w kind).settleCell c =
      if (s.cell c).idle 255 = true ∧ (kind = 2 ∨ (s.cell c).acked = true) then (s.barrierHeld c w kind).arrive c
      else s.barrierHeld c w kind := by
  obtain ⟨hst, -, -⟩ := State.atControl_spec hw
  obtain ⟨hhalt, hdrain⟩ := State.atControl_issuing hw
  obtain ⟨-, hbody, -, -, hwait, -⟩ := s.barrierHeld_spec c w kind
  unfold Cell.sameBody at hbody
  have hidle : ((s.barrierHeld c w kind).cell c).idle 255 = (s.cell c).idle 255 := by rw [hbody]; rfl
  have hacked : ((s.barrierHeld c w kind).cell c).acked = (s.cell c).acked := by rw [hbody]; rfl
  rw [State.settleCell_barrier (by rw [hbody]; exact hst) (by rw [hbody]; exact hhalt) (by rw [hbody]; exact hdrain)
    (by rw [hwait]; exact hk) (by rw [hwait]; rfl), hidle, hacked, hwait]

/-- An arrival at a barrier of a local group is noted in its cell. -/
theorem State.arrive_local {s : State} {c : Nat} (h : (s.cell c).wait.kind = 2) :
    s.arrive c = s.modCell c (fun cl => { cl with wait := { cl.wait with arrived := true } }) := by
  unfold State.arrive
  extract_lets cl u
  rw [if_neg (by simp [cl, h])]

theorem barrier_holds {c : Cid} {s : State} {w : Nat} (hw : s.atControl c .barrier = some w) (hcomm : bit (wordMod w) 0 = false)
    (hmem : (s.localGroup (s.owner c) (barrierGroup w)).contains c.val = true) :
    Completes (.barrier c) s (fun t => s.cellOnly t c ∧ (t.cell c).pc = (s.cell c).pc ∧ (t.cell c).wait.kind = 2 ∧
      (t.cell c).wait.group = barrierGroup w ∧ (t.cell c).wait.arrived = (s.cell c).idle 255) := by
  obtain ⟨honly, -, hpc, -, hwait, -⟩ := s.barrierHeld_spec c w 2
  refine ⟨(s.barrierHeld c w 2).settleCell c, ?_, ?_⟩
  · simp only [exec, execBarrier, hw, hcomm, Bool.false_eq_true, if_false, Bool.false_and]
    rw [if_neg (by simpa using hmem)]
    rfl
  · rw [State.barrierHeld_settle hw (.inl rfl)]
    cases hidle : (s.cell c).idle 255 with
    | true =>
      rw [if_pos ⟨rfl, .inl rfl⟩, State.arrive_local (by rw [hwait]), State.modCell_cell_self]
      exact ⟨honly.trans (State.modCell_cellOnly _ c _), hpc, by rw [hwait], by rw [hwait], rfl⟩
    | false =>
      rw [if_neg (by simp)]
      exact ⟨honly, hpc, by rw [hwait], by rw [hwait], by rw [hwait]; rfl⟩

theorem barrier_remote {c : Cid} {s : State} {w r : Nat} {m : Nat × Nat} (hw : s.atControl c .barrier = some w)
    (hcomm : bit (wordMod w) 0 = true) (hrank : s.rankOf (s.owner c) (barrierGroup w) c = some r) (hst : (s.grp (barrierGroup w)).st ≠ 2)
    (hidle : (s.cell c).idle 255 = true) (hacked : (s.cell c).acked = true)
    (hroot : (s.members (s.owner c) (barrierGroup w))[0]? = some m) (hne : m.1 ≠ s.fab.nodeId) :
    Completes (.barrier c) s (fun t => s.onlyIn t [.cells, .fab] ∧ (t.cell c).wait.kind = 3 ∧ (t.cell c).wait.arrived = true ∧
      s.sent t [[0x40, m.1, s.fab.epoch, barrierGroup w, r]]) := by
  obtain ⟨⟨honly, -⟩, -, -, -, hwait, -⟩ := s.barrierHeld_spec c w 3
  refine ⟨(s.barrierHeld c w 3).settleCell c, ?_, ?_⟩
  · simp only [exec, execBarrier, hw, hcomm, if_true, Bool.true_and]
    rw [if_neg (by simp [hrank]), if_neg (by simpa using hst)]
    rfl
  · rw [State.barrierHeld_settle hw (.inr rfl), if_pos ⟨hidle, .inr hacked⟩]
    generalize hu : s.barrierHeld c w 3 = u at honly hwait ⊢
    unfold State.arrive
    extract_lets cl v
    have hv : s.onlyIn v [.cells] := honly.trans (u.modCell_only c _)
    have hcell : (v.cell c).wait.kind = 3 ∧ (v.cell c).wait.arrived = true := by
      simp only [v, State.modCell_cell_self, hwait, and_self]
    have hrank' : v.rankOf (v.owner c) cl.wait.group c = some r := by
      rw [hv.owner (by decide)]
      simp only [cl, hwait]
      simp only [State.rankOf, State.members, State.hasRec, hv.rcd (by decide), hv.fab (by decide), show v.recs = s.recs from hv .recs (by decide)]
      exact hrank
    have hroot' : (v.members (v.owner c) cl.wait.group)[0]? = some m := by
      rw [hv.owner (by decide)]
      simp only [cl, hwait]
      simp only [State.members, State.hasRec, hv.rcd (by decide), show v.recs = s.recs from hv .recs (by decide)]
      exact hroot
    rw [if_pos (by simp [cl, hwait]), hrank', hroot']
    dsimp only
    rw [hv.fab (by decide), if_neg hne]
    refine ⟨by simp [hv.mono], hcell.1, hcell.2, ?_⟩
    have htx : (v.send 0x40 m.1 [cl.wait.group, r]).fab.tx = v.fab.tx ++ [[0x40, m.1, v.fab.epoch, cl.wait.group, r]] := rfl
    rw [State.sent, htx, hv.fab (by decide)]
    simp only [cl, hwait]

theorem barrier_noMember {c : Cid} {s : State} {w : Nat} (hw : s.atControl c .barrier = some w) (hcomm : bit (wordMod w) 0 = false)
    (hmem : (s.localGroup (s.owner c) (barrierGroup w)).contains c.val = false) :
    Completes (.barrier c) s (fun t => (t.cell c).st = 4 ∧ (t.cell c).fault.code = Fc.barrierMembership) := by
  obtain ⟨hrun, -, -⟩ := State.atControl_spec hw
  obtain ⟨hst, hcode, -⟩ := s.precise_spec c Fc.barrierMembership 0 (by omega)
  refine ⟨_, ?_, hst, hcode⟩
  simp only [exec, execBarrier, hw, hcomm, Bool.false_eq_true, if_false]
  rw [if_pos (by simpa using hmem)]

/-! ### Completion and release -/

theorem localBarrierComplete_frees {s : State} {p : Pn} {g : Fin 16} (hne : s.localGroup p g ≠ [])
    (hall : ∀ c ∈ s.localGroup p g, (s.cell c).st = 2 ∧ (s.cell c).halt = false ∧ (s.cell c).draining = 0 ∧ (s.cell c).wait.kind = 2 ∧
      (s.cell c).wait.group = g.val ∧ (s.cell c).wait.arrived = true ∧ (s.cell c).wait.step = false) :
    Completes (.localBarrierComplete p g) s (fun t => ∀ c ∈ s.localGroup p g, (t.cell c).wait = Wait.reset) := by
  have hok : ((s.localGroup p g).all fun c => (s.cell c).st == 2 && !(s.cell c).halt && (s.cell c).draining == 0 &&
      (s.cell c).wait.kind == 2 && (s.cell c).wait.group == g.val && (s.cell c).wait.arrived) = true :=
    List.all_eq_true.2 fun c hc => by
      obtain ⟨h1, h2, h3, h4, h5, h6, -⟩ := hall c hc
      simp [h1, h2, h3, h4, h5, h6]
  have hstep : ((s.localGroup p g).any fun c => (s.cell c).wait.step) = false :=
    List.any_eq_false.2 fun c hc => by
      obtain ⟨-, -, -, -, -, -, h7⟩ := hall c hc
      simp [h7]
  refine ⟨eachN s (s.localGroup p g) State.release, ?_, fun c hc => ?_⟩
  · simp only [exec, execLocalBarrierComplete, hok, hstep, Bool.and_false, Bool.false_and, Bool.or_false, Bool.not_true,
      Bool.false_eq_true, if_false]
    rw [if_neg (by simpa using hne)]
  · rw [eachN, State.foldl_release_wait, if_pos hc]

theorem findIdx_mem {α : Type} {p : α → Bool} {l : List α} {n i : Nat} {a : α} (h : findIdx p l n = some (i, a)) :
    n ≤ i ∧ l[i - n]? = some a ∧ p a = true := by
  induction l generalizing n with
  | nil => cases h
  | cons b r ih =>
    rw [findIdx] at h
    split at h
    next hp =>
      obtain ⟨rfl, rfl⟩ := Prod.mk.inj (Option.some.inj h)
      exact ⟨le_rfl, by simp, hp⟩
    · obtain ⟨hle, hget, hp⟩ := ih h
      exact ⟨by omega, by rw [show i - n = (i - (n + 1)) + 1 by omega]; exact hget, hp⟩

/-- A message of the present epoch for a group is acted on at once (R302, R308). -/
theorem State.groupPacket_next {s : State} {h : Hdr} (hus : s.forUs h) (hep : h.epoch = s.fab.epoch) (g kind rank : Nat) (data : List Nat)
    (act : State → State) : s.groupPacket h g kind rank data act = .next (act s) := by
  rw [State.groupPacket, State.receive_next _ _ _ hus.1 hus.2, State.epochOf, if_pos hep]
  rfl

theorem State.tryBarrier_idle {s : State} {g : Nat} (h : (s.grp g).st ≠ 1) : s.tryBarrier g = s := by
  unfold State.tryBarrier
  extract_lets gr ms
  split
  · rfl
  · rw [if_neg (by simp [gr, h])]

/-- What an arrival does to its group's collectives: the barrier gains the rank. -/
theorem State.arriveAt_joins {s : State} {g r : Nat} (h : (s.grp g).st ≠ 1) : s.onlyIn (s.arriveAt g r) [.fab] ∧
    (s.arriveAt g r).fab.tx = s.fab.tx ∧
      ∃ k ∈ ((s.arriveAt g r).grp g).colls, k.op = 4 ∧ k.parts.any (fun e => e.1 == r) = true := by
  unfold State.arriveAt
  generalize hf : (fun gr : Group => match findIdx (fun k : CollSt => k.op == 4) gr.colls with
    | some (i, k) => if k.parts.any (fun p => p.1 == r) then gr else { gr with colls := gr.colls.set i { k with parts := k.parts ++ [(r, [])] } }
    | none => { gr with colls := gr.colls ++ [{ CollSt.reset with op := 4, parts := [(r, [])], epoch := s.fab.epoch, at_ := s.time }] }) = f
  have hjoin : (f (s.grp g)).st = (s.grp g).st ∧ ∃ k ∈ (f (s.grp g)).colls, k.op = 4 ∧ k.parts.any (fun e => e.1 == r) = true := by
    rw [← hf]
    dsimp only
    split
    next i k hk =>
      obtain ⟨-, hget, hop⟩ := findIdx_mem hk
      have hop' : k.op = 4 := by simpa using hop
      split
      next hany => exact ⟨rfl, k, List.mem_of_getElem? hget, hop', hany⟩
      next => exact ⟨rfl, _, List.mem_set (List.getElem?_eq_some_iff.1 hget).1 _, hop', by simp⟩
    next => exact ⟨rfl, _, List.mem_append_right _ (List.mem_singleton_self _), rfl, by simp⟩
  have hgrp := s.modGrp_grp_self g f
  rw [State.tryBarrier_idle (by rw [hgrp, hjoin.1]; exact h), hgrp]
  exact ⟨s.modGrp_only g f, rfl, hjoin.2⟩

theorem barrierArrive_joins {s : State} {h : Hdr} {g r : Nat} (hus : s.forUs h) (hep : h.epoch = s.fab.epoch) (hst : (s.grp g).st ≠ 1) :
    Completes (.barrierArrive h g r) s (fun t => s.onlyIn t [.fab] ∧ s.sent t [] ∧
      ∃ k ∈ (t.grp g).colls, k.op = 4 ∧ k.parts.any (fun e => e.1 == r) = true) := by
  obtain ⟨honly, htx, hjoin⟩ := State.arriveAt_joins (r := r) hst
  exact ⟨_, by simp only [exec, execBarrierArrive]; rw [State.groupPacket_next hus hep], honly, by rw [State.sent, htx, List.append_nil], hjoin⟩

/-- A member of a group that a release from the fabric frees where it has arrived. -/
def State.releaseMember (s : State) (g : Nat) (m : Nat × Nat) : State :=
  let wt := (s.cell m.2).wait
  if m.1 = s.fab.nodeId && (s.cell m.2).st == 2 && wt.kind == 3 && wt.group == g && wt.arrived then s.release m.2 else s

/-- A member that has arrived at a group's barrier. -/
structure Cell.arrivedAt (cl : Cell) (g : Nat) : Prop where
  st : cl.st = 2
  kind : cl.wait.kind = 3
  group : cl.wait.group = g
  arrived : cl.wait.arrived = true

/-- The release of a member leaves a wait that is over, and ends that of the member. -/
theorem State.releaseMember_wait (s : State) (g c : Nat) (m : Nat × Nat) :
    ((s.cell c).wait = Wait.reset → ((s.releaseMember g m).cell c).wait = Wait.reset) ∧
      ((s.cell c).arrivedAt g → m = (s.fab.nodeId, c) → ((s.releaseMember g m).cell c).wait = Wait.reset) ∧
      (m ≠ (s.fab.nodeId, c) → (s.releaseMember g m).cell c = s.cell c) ∧ (s.releaseMember g m).fab = s.fab := by
  obtain ⟨hwait, hother⟩ := s.release_ends m.2
  unfold State.releaseMember
  extract_lets wt
  split
  next hgo =>
    simp only [Bool.and_eq_true, decide_eq_true_eq, beq_iff_eq] at hgo
    obtain ⟨⟨⟨⟨hnode, -⟩, -⟩, -⟩, -⟩ := hgo
    refine ⟨fun h => ?_, fun _ hm => by rw [hm] at hwait ⊢; exact hwait, fun hm => hother c fun hc => hm ?_, State.onlyIn.fab
      (l := [.cells, .parts, .funcs, .hostMem, .day, .daySeq]) (by simp) (by decide)⟩
    · by_cases hc : c = m.2
      · rw [hc]; exact hwait
      · rw [hother c hc]; exact h
    · rw [hc, ← hnode]
  next hgo =>
    refine ⟨id, fun harr hm => absurd ?_ hgo, fun _ => rfl, rfl⟩
    obtain ⟨h1, h2, h3, h4⟩ := harr
    simp [wt, hm, h1, h2, h3, h4]

theorem State.foldl_releaseMember_wait (g c : Nat) (l : List (Nat × Nat)) (s : State)
    (h : (s.cell c).wait = Wait.reset ∨ (s.cell c).arrivedAt g ∧ (s.fab.nodeId, c) ∈ l) :
    ((l.foldl (fun s m => s.releaseMember g m) s).cell c).wait = Wait.reset := by
  induction l generalizing s with
  | nil => exact h.resolve_right (by simp)
  | cons m r ih =>
    obtain ⟨hkeep, hends, hother, hfab⟩ := s.releaseMember_wait g c m
    refine ih _ ?_
    rcases h with h | ⟨harr, hmem⟩
    · exact .inl (hkeep h)
    · by_cases hm : m = (s.fab.nodeId, c)
      · exact .inl (hends harr hm)
      · refine .inr ⟨by rw [hother hm]; exact harr, ?_⟩
        rw [hfab]
        exact (List.mem_cons.1 hmem).resolve_left (Ne.symm hm)

theorem barrierRelease_frees {s : State} {h : Hdr} {g : Nat} (hus : s.forUs h) (hep : h.epoch = s.fab.epoch) :
    Completes (.barrierRelease h g) s (fun t => ∀ c, (s.fab.nodeId, c) ∈ s.groupMembers g → (s.cell c).st = 2 → (s.cell c).wait.kind = 3 →
      (s.cell c).wait.group = g → (s.cell c).wait.arrived = true → (t.cell c).wait = Wait.reset) :=
  ⟨_, by simp only [exec, execBarrierRelease]; rw [State.groupPacket_next hus hep]; rfl, fun c hmem h1 h2 h3 h4 =>
    State.foldl_releaseMember_wait g c _ s (.inr ⟨⟨h1, h2, h3, h4⟩, hmem⟩)⟩

/-- Settles O25: a barrier holds its cell until it arrives; the last arrival and a release end the waits. -/
theorem barriersHoldAndRelease : Obligations.BarriersHoldAndRelease := by
  unfold Obligations.BarriersHoldAndRelease
  exact fun s => ⟨fun c w => barrier_holds, fun c w r m => barrier_remote, fun c w => barrier_noMember,
    fun p g => localBarrierComplete_frees, fun h g r => barrierArrive_joins, fun h g => barrierRelease_frees⟩

end Sys2Proof.Machine
end

section
/-! SUPPORT. Proofs of the statement about messages (R221, R304): what lands in a cell leaves its run, what the end of a message counts, and
the packets of a message. -/

namespace Sys2Proof.Machine

/-! ### Bytes that land -/

/-- What an update of a cell keeps reads as before, in every cell. -/
theorem State.modCell_read {α : Type} (f : Cell → α) (t : State) (c d : Nat) (g : Cell → Cell) (hg : ∀ x, f (g x) = f x) :
    f ((t.modCell c g).cell d) = f (t.cell d) := by
  rw [State.modCell_cell]
  split
  next hd => rw [hg, hd]
  · rfl

section
variable {α : Type} (f : Cell → α) (hf : ∀ (x : Cell) sp ta ib, f { x with spad := sp, tally := ta, ibuf := ib } = f x)
include hf

/-- What reads none of a cell's memories reads as before when bytes are written into them. -/
theorem Cell.wrLoc_read (cl : Cell) (a : Nat) (l : List Byte) : f (cl.wrLoc a l) = f cl := by
  have h8 : ∀ (x : Cell) a b, f (x.wrLoc8 a b) = f x := fun x a b => by
    unfold Cell.wrLoc8
    split
    · exact hf x _ x.tally x.ibuf
    split
    · exact hf x x.spad _ x.ibuf
    split
    · exact hf x x.spad x.tally _
    · rfl
  induction l generalizing cl a with
  | nil => rfl
  | cons b r ih => rw [Cell.wrLoc, ih, h8]

theorem State.wrOp_read (t : State) (c : Nat) (dev : Bool) (a : Nat) (l : List Byte) (d : Nat) :
    f ((t.wrOp c dev a l).cell d) = f (t.cell d) := by
  unfold State.wrOp State.wrDev
  repeat' split
  · exact State.modCell_read f _ _ _ _ fun x => Cell.wrLoc_read f hf x _ _
  · rfl
  · exact State.modCell_read f _ _ _ _ fun x => Cell.wrLoc_read f hf x _ _

theorem State.wrElem_read (t : State) (c : Nat) (e : Desc) (r i w d : Nat) : f ((t.wrElem c e r i w).cell d) = f (t.cell d) := by
  unfold State.wrElem
  extract_lets n a b
  split <;> exact State.wrOp_read f hf _ _ _ _ _ _

theorem State.landElems_read (t : State) (c : Nat) (e : Desc) (off : Nat) (es ss : List Nat) (d : Nat) :
    f ((t.landElems c e off es ss).cell d) = f (t.cell d) := by
  unfold State.landElems
  extract_lets u
  have hu : f (u.cell d) = f (t.cell d) := State.foldl_read (fun v => f (v.cell d)) (fun v x => State.wrElem_read f hf v _ _ _ _ _ _) _ t
  exact (State.foldl_read (fun v => f (v.cell d)) (fun v x => State.wrOp_read f hf v _ _ _ _ _) _ u).trans hu

end

/-! ### The end of a message -/

/-- The end of a message leaves its status in the cell and counts the done flag (R221). -/
theorem State.msgEnd_spec (s : State) (c : Nat) (m : Msg) (bad : Bool) (hdone : m.done ≠ 0)
    (hfit : tget (s.cell c).flags m.done 0 + 1 < 2 ^ 32) : s.cellOnly (s.msgEnd c m bad) c ∧
      ∃ st ct tt, (s.msgEnd c m bad).cell c = { s.cell c with
        msgStatus := st, ctr := ct, tagT := tt, flags := tset (s.cell c).flags m.done (tget (s.cell c).flags m.done 0 + 1) 0 } := by
  unfold State.msgEnd
  extract_lets u v w
  have hv : s.cellOnly v c ∧ ∃ ct, v.cell c = { s.cell c with msgStatus := msgWord m (b2n bad), ctr := ct } := by
    have hu : u.cell c = { s.cell c with msgStatus := msgWord m (b2n bad) } := State.modCell_cell_self s c _
    have hcell : s.cellOnly u c := s.modCell_cellOnly c _
    simp only [v]
    split
    · exact ⟨hcell.trans (u.count_cellOnly c _ _ _), _, by rw [State.count_cell, hu]⟩
    · exact ⟨hcell, (s.cell c).ctr, hu⟩
  obtain ⟨honly, ct, hcell⟩ := hv
  have hw : ∃ hit now, w.cell c = (v.cell c).tagDone hit now := ⟨_, _, State.modCell_cell_self v c _⟩
  have htag : ∃ tt, w.cell c = { v.cell c with tagT := tt } := by
    obtain ⟨hit, now, hw⟩ := hw
    rw [hw]
    unfold Cell.tagDone
    split
    · exact ⟨_, rfl⟩
    · exact ⟨(v.cell c).tagT, rfl⟩
  have hwonly : s.cellOnly w c := honly.trans (v.modCell_cellOnly c _)
  obtain ⟨tt, htt⟩ := htag
  have hflags : (w.cell c).flags = (s.cell c).flags := by rw [htt, hcell]
  clear_value w
  rw [State.addFlag_fits w c _ (.inr (by rw [hflags]; exact hfit)), if_neg hdone]
  refine ⟨hwonly.trans (w.modCell_cellOnly c _), msgWord m (b2n bad), ct, tt, ?_⟩
  rw [State.modCell_cell_self, htt, hcell]

/-- A cell that neither drains nor waits has nothing to settle. -/
theorem State.settleCell_none {s : State} {c : Nat} (hkind : (s.cell c).wait.kind = 0) (hdrain : (s.cell c).draining = 0) :
    s.settleCell c = s := by
  unfold State.settleCell
  extract_lets cl
  rw [if_neg (by simp [cl, hdrain])]
  split
  · rfl
  · simp [cl, hkind]

/-- The end of a message of a cell that goes on: its latency is noted, and nothing is left to settle. -/
theorem State.msgEnd_settles (u : State) (c p ns : Nat) (m : Msg) (bad : Bool) (hkind : (u.cell c).wait.kind = 0)
    (hdrain : (u.cell c).draining = 0) (hdone : m.done ≠ 0) (hfit : tget (u.cell c).flags m.done 0 + 1 < 2 ^ 32) :
    let t := ((u.msgEnd c m bad).latency p 4 0 ns).settleCell c
    u.onlyIn t [.cells, .parts] ∧ (∀ d, d ≠ c → t.cell d = u.cell d) ∧ (t.cell c).sends = (u.cell c).sends ∧
      tget (t.cell c).flags m.done 0 = tget (u.cell c).flags m.done 0 + 1 := by
  obtain ⟨⟨honly, hother⟩, st, ct, tt, hcell⟩ := u.msgEnd_spec c m bad hdone hfit
  generalize u.msgEnd c m bad = v at honly hother hcell ⊢
  have hlat : ∀ d, ((v.latency p 4 0 ns).cell d) = v.cell d := v.latency_cell _ _ _ _
  dsimp only
  rw [State.settleCell_none (by rw [hlat, hcell]; exact hkind) (by rw [hlat, hcell]; exact hdrain)]
  simp only [hlat]
  rw [hcell]
  exact ⟨(State.onlyIn_latency (by simp)).2 (honly.mono (by simp)), hother, rfl, by dsimp only; rw [tget_tset_self]⟩

/-! ### Messages within the module -/

theorem messageLands_local {s : State} {c : Cid} {i j : Nat} {m r : Msg} (hsend : (s.cell c).sends[i]? = some m)
    (hnode : m.node = s.fab.nodeId) (hne : m.cell ≠ c)
    (hrecv : findIdx (fun q : Msg => q.node == s.fab.nodeId && q.cell == c.val && q.chan == m.chan && q.mb == m.mb) (s.cell m.cell).recvs =
      some (j, r))
    (hkind : (s.cell c).wait.kind = 0) (hdrain : (s.cell c).draining = 0) (hmd : m.done ≠ 0) (hrd : r.done ≠ 0)
    (hmfit : tget (s.cell c).flags m.done 0 + 1 < 2 ^ 32) (hrfit : tget (s.cell m.cell).flags r.done 0 + 1 < 2 ^ 32) :
    Completes (.messageLands c i) s (fun t => s.onlyIn t [.cells, .mem, .parts] ∧ (t.cell c).sends = (s.cell c).sends.eraseIdx i ∧
      (t.cell m.cell).recvs = (s.cell m.cell).recvs.eraseIdx j ∧
      tget (t.cell c).flags m.done 0 = tget (s.cell c).flags m.done 0 + 1 ∧
      tget (t.cell m.cell).flags r.done 0 = tget (s.cell m.cell).flags r.done 0 + 1) := by
  unfold Completes
  rw [show exec (.messageLands c i) s = execMessageLands c i s from rfl]
  unfold execMessageLands
  rw [hsend]
  conv => simp_match
  rw [if_neg (by simpa using hnode), hrecv]
  conv => simp_match
  extract_lets same bad es ss u1 u2 u3 u4
  refine ⟨_, rfl, ?_⟩
  have h1 : s.onlyIn u1 [.cells, .mem] := by simp only [u1]; split <;> simp
  have hread : ∀ {α : Type} (f : Cell → α), (∀ (x : Cell) sp ta ib, f { x with spad := sp, tally := ta, ibuf := ib } = f x) →
      ∀ d, f (u1.cell d) = f (s.cell d) := fun f hf d => by
    simp only [u1]
    split
    · exact State.landElems_read f hf s _ _ _ _ _ d
    · rfl
  have h3 : u1.onlyIn u3 [.cells] := by simp [u3, u2]
  have hc : u3.cell c = { u1.cell c with sends := (u1.cell c).sends.eraseIdx i } := by
    simp only [u3, u2, State.modCell_cell, if_neg (Ne.symm hne), if_true]
  have hm : u3.cell m.cell = { u1.cell m.cell with recvs := (u1.cell m.cell).recvs.eraseIdx j } := by
    simp only [u3, u2, State.modCell_cell, if_neg hne, if_true]
  have hcf : (u3.cell c).flags = (s.cell c).flags := by rw [hc]; exact hread (fun x => x.flags) (fun _ _ _ _ => rfl) c
  have hmf : (u3.cell m.cell).flags = (s.cell m.cell).flags := by rw [hm]; exact hread (fun x => x.flags) (fun _ _ _ _ => rfl) m.cell
  have hcs : (u3.cell c).sends = (s.cell c).sends.eraseIdx i := by
    rw [hc]; exact congrArg (List.eraseIdx · i) (hread (fun x => x.sends) (fun _ _ _ _ => rfl) c)
  have hmr : (u3.cell m.cell).recvs = (s.cell m.cell).recvs.eraseIdx j := by
    rw [hm]; exact congrArg (List.eraseIdx · j) (hread (fun x => x.recvs) (fun _ _ _ _ => rfl) m.cell)
  have hcw : (u3.cell c).wait.kind = 0 ∧ (u3.cell c).draining = 0 := by
    rw [hc]
    exact ⟨(congrArg Wait.kind (hread (fun x => x.wait) (fun _ _ _ _ => rfl) c)).trans hkind,
      (hread (fun x => x.draining) (fun _ _ _ _ => rfl) c).trans hdrain⟩
  clear_value u3 u2 u1 bad
  obtain ⟨⟨honly4, hother4⟩, st, ct, tt, hcell4⟩ := u3.msgEnd_spec m.cell r bad hrd (by rw [hmf]; exact hrfit)
  have hvc := hother4 c (Ne.symm hne)
  have h4 : u4 = (u3.msgEnd m.cell r bad).msgEnd c m bad := rfl
  rw [h4]
  clear_value u4
  generalize u3.msgEnd m.cell r bad = v at honly4 hother4 hcell4 hvc ⊢
  obtain ⟨honly5, hother5, hsends, hflags⟩ := v.msgEnd_settles c ((v.msgEnd c m bad).owner c) ((v.msgEnd c m bad).time - m.at_) m bad
    (by rw [hvc]; exact hcw.1) (by rw [hvc]; exact hcw.2) hmd (by rw [hvc, hcf]; exact hmfit)
  beta_reduce
  rw [hother5 m.cell hne, hcell4, hsends, hflags, hvc, hcs, hcf]
  refine ⟨?_, rfl, hmr, rfl, by dsimp only; rw [tget_tset_self, hmf]⟩
  exact (h1.mono (by simp)).trans ((h3.mono (by simp)).trans ((honly4.mono (by simp)).trans (honly5.mono (by simp))))

/-! ### Packets on the fabric (R304) -/

theorem messageLands_remote {s : State} {c : Cid} {i : Nat} {m : Msg} (hsend : (s.cell c).sends[i]? = some m) (hnode : m.node ≠ s.fab.nodeId)
    (hsent : m.sent = false) : Completes (.messageLands c i) s (fun t => s.onlyIn t [.cells, .fab] ∧
      ((t.cell c).sends[i]?).map (fun q => q.sent) = some true ∧ ∃ fs, s.sent t [0x30 :: m.node :: s.fab.epoch :: fs]) := by
  have hlt : i < (s.cell c).sends.length := (List.getElem?_eq_some_iff.1 hsend).1
  unfold Completes
  rw [show exec (.messageLands c i) s = execMessageLands c i s from rfl]
  unfold execMessageLands
  rw [hsend]
  conv => simp_match
  rw [if_pos (by simpa using hnode), if_neg (by simp [hsent])]
  extract_lets flow seq u v
  refine ⟨_, rfl, by simp [v, u], ?_, _, rfl⟩
  have hcell : ∀ l, (v.send 0x30 m.node l).cell c = u.cell c := fun _ => rfl
  rw [hcell]
  simp only [u, State.modCell_cell_self, List.getElem?_set_self hlt, Option.map_some]

/-- A packet whose turn has not come. -/
theorem data_early {s : State} {h : Hdr} {m : DataMsg} {n : Nat} (hus : s.forUs h)
    (hn : n = tget s.fab.seqRx (h.src * 2 ^ 24 + (m.srcCell * 16384 + m.dstCell * 16 + m.chan)) 0) (hlt : n < m.seq)
    (hnear : m.seq < n + 2 ^ 31) : Completes (.data h m) s (fun t => t = s) := by
  refine ⟨s, ?_, rfl⟩
  rw [show exec (.data h m) s = execData h m s from rfl]
  unfold execData
  rw [State.receive_next _ _ _ hus.1 hus.2]
  extract_lets flow key want
  have hwant : want = n := hn.symm
  rw [if_neg, if_neg]
  · rw [hwant]; omega
  · rw [hwant]; simp; omega

/-- A packet taken before is acknowledged again. -/
theorem data_again {s : State} {h : Hdr} {m : DataMsg} {n : Nat} (hus : s.forUs h)
    (hn : n = tget s.fab.seqRx (h.src * 2 ^ 24 + (m.srcCell * 16384 + m.dstCell * 16 + m.chan)) 0) (hlt : m.seq < n)
    (hnear : n < m.seq + 2 ^ 31) : Completes (.data h m) s (fun t => s.onlyIn t [.fab] ∧ t.fab.seqRx = s.fab.seqRx ∧
      s.sent t [[0x31, h.src, s.fab.epoch, m.srcCell * 16384 + m.dstCell * 16 + m.chan, m.seq, 0]]) := by
  refine ⟨s.send 0x31 h.src [m.srcCell * 16384 + m.dstCell * 16 + m.chan, m.seq, 0], ?_, s.send_only _ _ _, rfl, rfl⟩
  rw [show exec (.data h m) s = execData h m s from rfl]
  unfold execData
  rw [State.receive_next _ _ _ hus.1 hus.2]
  extract_lets flow key want
  have hwant : want = n := hn.symm
  rw [if_neg, if_pos]
  · rw [hwant]; omega
  · rw [hwant]; simp; omega

theorem e2eAck_ends {s : State} {h : Hdr} {flow seq i : Nat} {bad : Bool} {m : Msg} (hus : s.forUs h)
    (hfind : findIdx (fun q : Msg => q.sent && q.node == h.src && q.cell == flow / 16 % 1024 && q.chan == flow % 16 && q.seq == seq)
      (s.cell (flow / 16384)).sends = some (i, m))
    (hkind : (s.cell (flow / 16384)).wait.kind = 0) (hdrain : (s.cell (flow / 16384)).draining = 0) (hdone : m.done ≠ 0)
    (hfit : tget (s.cell (flow / 16384)).flags m.done 0 + 1 < 2 ^ 32) :
    Completes (.e2eAck h flow seq bad) s (fun t => s.onlyIn t [.cells, .parts] ∧
      (t.cell (flow / 16384)).sends = (s.cell (flow / 16384)).sends.eraseIdx i ∧
      tget (t.cell (flow / 16384)).flags m.done 0 = tget (s.cell (flow / 16384)).flags m.done 0 + 1) := by
  have hu := State.modCell_cell_self s (flow / 16384) (fun cl => { cl with sends := cl.sends.eraseIdx i })
  have huonly := s.modCell_only (flow / 16384) (fun cl => { cl with sends := cl.sends.eraseIdx i })
  have hexec : exec (.e2eAck h flow seq bad) s = .next ((((s.modCell (flow / 16384) (fun cl => { cl with
      sends := cl.sends.eraseIdx i })).msgEnd (flow / 16384) m bad).latency ((s.modCell (flow / 16384) (fun cl => { cl with
      sends := cl.sends.eraseIdx i })).owner (flow / 16384)) 4 0 ((s.modCell (flow / 16384) (fun cl => { cl with
      sends := cl.sends.eraseIdx i })).time - m.at_)).settleCell (flow / 16384)) := by
    rw [show exec (.e2eAck h flow seq bad) s = execE2eAck h flow seq bad s from rfl, execE2eAck, State.receive_next _ _ _ hus.1 hus.2]
    simp only [hfind]
  generalize s.modCell (flow / 16384) (fun cl => { cl with sends := cl.sends.eraseIdx i }) = u at hu huonly hexec
  generalize flow / 16384 = c at hkind hdrain hfit hu huonly hexec ⊢
  obtain ⟨honly, -, hsends, hflags⟩ := u.msgEnd_settles c (u.owner c) (u.time - m.at_) m bad
    (by rw [hu]; exact hkind) (by rw [hu]; exact hdrain) hdone (by rw [hu]; exact hfit)
  exact ⟨_, hexec, (huonly.mono (by simp)).trans honly, hsends.trans (by rw [hu]), hflags.trans (by rw [hu])⟩

/-- A packet unacknowledged for 200 µs. -/
theorem e2eResend_sends {s : State} {c : Cid} {i : Nat} {m : Msg} (hsend : (s.cell c).sends[i]? = some m) (hsent : m.sent = true)
    (hpassed : s.passed m.sentAt 200000 = true) : Completes (.e2eResend c i) s (fun t => s.onlyIn t [.cells, .fab, .gctr] ∧
      ((t.cell c).sends[i]?).map (fun q => q.sentAt) = some s.time ∧ ∃ fs, s.sent t [0x30 :: m.node :: s.fab.epoch :: fs]) := by
  have hlt : i < (s.cell c).sends.length := (List.getElem?_eq_some_iff.1 hsend).1
  unfold Completes
  rw [show exec (.e2eResend c i) s = execE2eResend c i s from rfl]
  unfold execE2eResend
  rw [hsend]
  conv => simp_match
  rw [if_neg (by simp [hsent, hpassed])]
  extract_lets u v
  have hu : s.onlyIn u [.fab] ∧ u.fab.tx = s.fab.tx ∧ u.fab.epoch = s.fab.epoch := by
    simp only [u]
    split
    · refine ⟨by simp, ?_⟩
      unfold State.startProbe
      split <;> exact ⟨rfl, rfl⟩
    · exact ⟨s.onlyIn_refl _, rfl, rfl⟩
  obtain ⟨honly, htx, hep⟩ := hu
  have hucell : (u.cell c).sends = (s.cell c).sends := by rw [honly.cell (by decide)]
  have htime : u.time = s.time := honly.time (by decide)
  clear_value u
  generalize hl : [c.val, m.cell, m.chan, m.mb, m.seq, m.buf.form, m.buf.count] ++ v.rawAll c m.buf ++ v.rawScales c m.buf = l
  have hg : (v.send 0x30 m.node l).onlyIn ((v.send 0x30 m.node l).gcount GEv.fabE2eResend 1) [.gctr] := by simp
  have hcell : (v.send 0x30 m.node l).cell c = v.cell c := rfl
  refine ⟨_, rfl, ?_, ?_, l, ?_⟩
  · simp only [v]
    simp [honly.mono]
  · rw [hg.cell (by decide), hcell]
    simp only [v, State.modCell_cell_self, hucell, List.getElem?_set_self hlt, Option.map_some, htime]
  · have hfab : (v.send 0x30 m.node l).fab.tx = u.fab.tx ++ [0x30 :: m.node :: u.fab.epoch :: l] := rfl
    rw [State.sent, hg.fab (by decide), hfab, htx, hep]

theorem remoteSignal_counts {s : State} {h : Hdr} {c : Cid} {k n : Nat} (hus : s.forUs h) (hk : 1 ≤ k) (hk' : k ≤ 15) (hn : n < 65536)
    (hfit : tget (s.cell c).flags k 0 + n < 2 ^ 32) : Completes (.remoteSignal h c k n) s (fun t => s.cellOnly t c ∧
      ∀ j, tget (t.cell c).flags j 0 = tget (s.cell c).flags j 0 + (if j = k then n else 0)) := by
  refine ⟨s.addFlag c k n, ?_, s.addFlag_cellOnly c k n hfit, fun j => ?_⟩
  · rw [exec_eq_execRemoteSignal, execRemoteSignal, State.receive_next _ _ _ hus.1 hus.2, if_pos (by simp [hk, hk', hn])]
  · rw [s.addFlag_flag c k n j (by omega) hfit]
    split
    next hj => rw [hj]
    · rfl

/-- Settles O26: messages within the module by their landing, those on the fabric by their packets. -/
theorem messagesLandOnce : Obligations.MessagesLandOnce := by
  unfold Obligations.MessagesLandOnce
  exact fun s => ⟨fun c i j m r => messageLands_local, fun c i m => messageLands_remote,
    fun h m n hus hn => ⟨fun h1 h2 _ => data_early hus hn h1 h2, fun h1 h2 _ => data_again hus hn h1 h2⟩,
    fun h flow seq i bad m => e2eAck_ends, fun c i m => e2eResend_sends, fun h c k n => remoteSignal_counts⟩

end Sys2Proof.Machine
end

section
/-! SUPPORT. Proofs of the statement about collectives (R240, R300, R305, R309): the contribution an instruction offers, and what joins a
group's collectives. -/

namespace Sys2Proof.Machine

/-! ### Issue -/

/-- What a collective that is no zero count has done at issue: it waits for its result and offers its contribution, or faults in a
SUSPENDED group. -/
def State.collIssued (s : State) (c : Nat) (o : Op) (w r : Nat) (t : State) : Prop :=
  let i := s.issColl c o w
  let u := s.enter c w i
  let v := if o = .cfin ∧ s.poolExhausted (s.owner c) = true then u.modPart (u.owner c) (fun q => { q with poolSkip := true }) else u
  (i.zero = false → (s.grp (bits w 63 52)).st ≠ 2 →
    t = (v.modCell c (fun cl => cl.modLast (fun f => { f with left := 1 }))).offer (bits w 63 52) (s.contribution c o w i r)) ∧
  (i.zero = false → (s.grp (bits w 63 52)).st = 2 → (t.cell c).st = 4 ∧ (t.cell c).fault.code = Fc.collective ∧ (t.cell c).fault.cause = 2) ∧
  (i.zero = true → t = u.offer (bits w 63 52) { rank := r, op := o.collCode, count := 0, mode := 0, root := 0, data := [] })

/-- An instruction that its unit accepts is legal and faults in nothing. -/
theorem State.accepts_legal {s : State} {c w : Nat} {i : Iss} {ready : Bool} (h : s.accepts c w i ready = true) :
    (i.cause.isNone && (commonIll w).isEmpty && i.flt.isEmpty) = true := by
  have ha := State.accepted_of_accepts h
  simp [ha.cause, ha.legal, ha.faultless]

/-- A collective of a member that its unit accepts: the notice of a zero count, the fault of a SUSPENDED group, or the contribution. -/
theorem State.collIssue_eq {s : State} {c w r : Nat} {o : Op} {i : Iss} (hi : s.issColl c o w = i) (hw : s.atOp c o = some w)
    (h : s.accepts c w i true = true) (hr : s.rankOf (s.owner c) (bits w 63 52) c = some r) :
    s.collIssue c o =
      if i.zero then (s.enter c w i).offer (bits w 63 52) { rank := r, op := o.collCode, count := 0, mode := 0, root := 0, data := [] }
      else if (s.grp (bits w 63 52)).st = 2 then
        ((s.enter c w i).faultAt c Fc.collective 2 (s.cell c).pc (s.cell c).word 0 6).count c Ev.collFail 1
      else ((if o = .cfin ∧ s.poolExhausted (s.owner c) = true then
          (s.enter c w i).modPart ((s.enter c w i).owner c) (fun q => { q with poolSkip := true }) else s.enter c w i).modCell c
        (fun cl => cl.modLast (fun f => { f with left := 1 }))).offer (bits w 63 52) (s.contribution c o w i r) := by
  obtain ⟨hkey, -⟩ := s.enter_cell c w i
  have hlegal := State.accepts_legal h
  unfold State.collIssue
  rw [hw]
  conv => simp_match
  extract_lets j g legal mark cl susp
  have hj : j = i := hi
  clear_value j
  subst hj
  rw [show s.rankOf (s.owner c) g c = some r from hr]
  conv => simp_match
  rw [State.issueUnit_accepts h]
  cases hz : j.zero with
  | true =>
    have hnew : (((s.enter c w j).cell c).nextKey != cl.nextKey) = true := by rw [hkey]; simp [cl]
    have hcell : ((s.enter c w j).cell c != cl) = true := by
      rw [bne_iff_ne]
      exact fun he => by rw [he] at hnew; simp at hnew
    rw [if_pos rfl]
    dsimp only
    rw [show legal = true from hlegal, hcell, hnew]
    rfl
  | false =>
    rw [if_neg Bool.false_ne_true, if_neg Bool.false_ne_true]
    have hmark : (mark = true) = (o = .cfin ∧ s.poolExhausted (s.owner c) = true) := by
      simp [mark, show legal = true from hlegal, hz]
    have hsusp : (susp = true) = ((s.grp g).st = 2) := by simp [susp, show legal = true from hlegal, hz]
    dsimp only
    rw [if_neg (by simp)]
    simp only [hmark, hsusp]
    rfl

theorem State.collIssue_spec {s : State} {c w r : Nat} {o : Op} (hw : s.atOp c o = some w)
    (h : s.accepts c w (s.issColl c o w) true = true) (hr : s.rankOf (s.owner c) (bits w 63 52) c = some r) :
    s.collIssued c o w r (s.collIssue c o) := by
  obtain ⟨hrun, -⟩ := State.atOp_spec hw
  obtain ⟨-, -, -, hst', -⟩ := s.enter_cell c w (s.issColl c o w)
  rw [State.collIssue_eq rfl hw h hr]
  refine ⟨fun hz hst => ?_, fun hz hst => ?_, fun hz => ?_⟩
  · rw [if_neg (by simp [hz]), if_neg hst]
  · rw [if_neg (by simp [hz]), if_pos hst, State.count_st, State.count_fault]
    obtain ⟨hst4, hfault, -⟩ := (s.enter c w (s.issColl c o w)).faultAt_spec c Fc.collective 2 (s.cell c).pc (s.cell c).word 0 6
      (by omega)
    rw [hst4, hfault]
    exact ⟨rfl, rfl, rfl⟩
  · rw [if_pos hz]

/-! ### What joins a group's collectives -/

theorem State.tryColls_idle {s : State} {g : Nat} (h : (s.grp g).st ≠ 1) (fuel : Nat) : s.tryColls g fuel = s := by
  cases fuel with
  | zero => rfl
  | succ n =>
    unfold State.tryColls
    extract_lets gr ms
    rw [if_pos (by simpa [gr] using h)]

/-- A contribution that is no notice of a zero count is among the parts of a collective of its kind. -/
theorem joinColl_mem (l : List CollSt) (m : CollMsg) (ep now : Nat) (hn : m.count ≠ 0) :
    ∃ k ∈ joinColl l m ep now, k.op = m.op ∧ (m.rank, m.data) ∈ k.parts := by
  unfold joinColl
  split
  next i k hk =>
    obtain ⟨-, hget, hp⟩ := findIdx_mem hk
    have hop : k.op = m.op := by
      simp only [Bool.and_eq_true, beq_iff_eq] at hp
      exact hp.1.1
    simp only [if_neg hn]
    exact ⟨_, List.mem_set (List.getElem?_eq_some_iff.1 hget).1 _, hop, by simp⟩
  next =>
    rw [if_neg hn]
    exact ⟨_, List.mem_append_right _ (List.mem_singleton_self _), rfl, by simp⟩

theorem State.contribute_joins {s : State} {g : Nat} {m : CollMsg} (hst : (s.grp g).st ≠ 1) (hn : m.count ≠ 0) :
    s.onlyIn (s.contribute g m) [.fab] ∧ ∃ k ∈ ((s.contribute g m).grp g).colls, k.op = m.op ∧ (m.rank, m.data) ∈ k.parts := by
  obtain ⟨k, hk, hop, hpart⟩ := joinColl_mem (s.grp g).colls m s.fab.epoch s.time hn
  unfold State.contribute
  extract_lets n u
  have hu : (u.grp g).st = (s.grp g).st ∧ (u.grp g).colls = (joinColl (s.grp g).colls m s.fab.epoch s.time).filter
      (fun k => !(decide (k.op < 4) && k.parts.isEmpty && decide (n ≤ k.zeros.length))) := by
    simp only [u, State.modGrp_grp_self, and_self]
  have honly : s.onlyIn u [.fab] := s.modGrp_only g _
  clear_value u
  rw [State.tryColls_idle (by rw [hu.1]; exact hst)]
  have hne : k.parts.isEmpty = false := by
    rw [List.isEmpty_eq_false_iff]; exact List.ne_nil_of_mem hpart
  exact ⟨honly, k, by rw [hu.2]; exact List.mem_filter.2 ⟨hk, by simp [hne]⟩, hop, hpart⟩

theorem collData_joins {s : State} {h : Hdr} {g : Nat} {m : CollMsg} (hus : s.forUs h) (hop : m.op ≠ 5) (hn : m.count ≠ 0)
    (hep : h.epoch = s.fab.epoch) (hst : (s.grp g).st ≠ 1) : Completes (.collData h g m) s (fun t => s.onlyIn t [.fab] ∧
      ∃ k ∈ (t.grp g).colls, k.op = m.op ∧ (m.rank, m.data) ∈ k.parts) := by
  refine ⟨s.contribute g m, ?_, State.contribute_joins hst hn⟩
  simp only [exec, execCollData]
  rw [State.groupPacket_next hus hep, State.takeColl, if_neg hop]

theorem collData_held {s : State} {h : Hdr} {g : Nat} {m : CollMsg} (hus : s.forUs h) (hne : h.epoch ≠ s.fab.epoch)
    (hep : h.epoch = (s.fab.epoch + 1) % 2 ^ 32) : Completes (.collData h g m) s (fun t => s.onlyIn t [.fab] ∧
      (t.grp g).colls = (s.grp g).colls ∧ (t.grp g).held.length = (s.grp g).held.length + 1) := by
  refine ⟨s.modGrp g (fun gr => { gr with held := gr.held ++ [(2, m.rank, CollMsg.toNats m)] }), ?_, s.modGrp_only g _, ?_⟩
  · simp only [exec, execCollData]
    rw [State.groupPacket, State.receive_next _ _ _ hus.1 hus.2, State.epochOf, if_neg hne, if_pos hep]
    rfl
  · rw [State.modGrp_grp_self]
    exact ⟨rfl, by simp⟩

theorem collCtrl_notes {s : State} {h : Hdr} {g r n : Nat} (hus : s.forUs h) (hep : h.epoch = s.fab.epoch) :
    Completes (.collCtrl h g r n) s (fun t => t = s.tookNoPart g r n ∧ (n ≠ 0 → t = s)) := by
  refine ⟨s.tookNoPart g r n, ?_, rfl, fun hn => by rw [State.tookNoPart, if_neg hn]⟩
  simp only [exec, execCollCtrl]
  rw [State.groupPacket_next hus hep]

theorem groupDigest_notes {s : State} {h : Hdr} {g : Nat} {d : List Byte} (hus : s.forUs h) :
    Completes (.groupDigest h g d) s (fun t => t = (s.modGrp g (fun gr => { gr with digests := tins gr.digests h.src d })).tryActive g) :=
  ⟨_, by simp only [exec, execGroupDigest]; rw [State.receive_next _ _ _ hus.1 hus.2], rfl⟩

theorem collectiveTimeout_faults {s : State} {c : Cid} (hst : (s.cell c).st = 2) (hkind : (s.cell c).wait.kind = 3)
    (harr : (s.cell c).wait.arrived = true) (hgrp : (s.grp (s.cell c).wait.group).st ≠ 1)
    (hpassed : s.passed (s.cell c).wait.start (s.fld (s.owner c) Ty.group (s.cell c).wait.group 0 4 * 1000000) = true) :
    Completes (.collectiveTimeout c) s (fun t => (t.cell c).st = 4 ∧ (t.cell c).fault.code = Fc.collective ∧ (t.cell c).fault.cause = 1 ∧
      (t.cell c).wait = Wait.reset) := by
  have hcell : ∀ f, (s.modGrp (s.cell c).wait.group f).cell c = s.cell c := fun _ => rfl
  unfold Completes
  rw [show exec (.collectiveTimeout c) s = execCollectiveTimeout c s from rfl]
  unfold execCollectiveTimeout
  extract_lets cl p limit g r t
  rw [if_pos (by simp [cl, limit, p, hst, hkind, harr, hgrp, hpassed])]
  refine ⟨_, rfl, ?_⟩
  have ht : t.cell c = s.cell c := hcell _
  clear_value t
  have hne : (t.cell c).st ≠ 4 := by rw [ht]; omega
  obtain ⟨hst4, hfault, -⟩ := t.faultAt_spec c Fc.collective 1 (t.cell c).pc (t.cell c).word 0 8 hne
  dsimp only
  rw [State.count_st, State.count_fault, State.count_wait, State.precise, hst4, hfault, t.faultAt_cell c _ _ _ _ _ _ c hne, State.count_wait,
    State.setCell_cell_self]
  exact ⟨rfl, rfl, rfl, rfl⟩

/-- Settles O27: the four instructions by their common issue, the messages by what they join. -/
theorem collectivesOfferTheirContribution : Obligations.CollectivesOfferTheirContribution := by
  unfold Obligations.CollectivesOfferTheirContribution
  refine fun s => ⟨fun c w r o i hi hw h hr => ?_, fun h g m hus hop hn => ⟨collData_joins hus hop hn, collData_held hus⟩,
    fun h g r n => collCtrl_notes, fun h g d => groupDigest_notes, fun c => collectiveTimeout_faults⟩
  subst hi
  have hissue := State.collIssue_spec hw h hr
  exact ⟨fun ho => ⟨_, by rw [ho]; rfl, hissue⟩, fun ho => ⟨_, by rw [ho]; rfl, hissue⟩, fun ho => ⟨_, by rw [ho]; rfl, hissue⟩,
    fun ho => ⟨_, by rw [ho]; rfl, hissue⟩⟩

end Sys2Proof.Machine
end

section
/-! SUPPORT. Proofs of the statement about retrieval and digests (R280 to R288, R345): the lists a TOPK writes, and the digest a DIGEST leaves. -/

namespace Sys2Proof.Machine

/-- A byte of a scratchpad after bytes are written into its cell. -/
theorem Cell.wrLoc_spad (cl : Cell) (a b : Nat) (l : List Byte) : tget (cl.wrLoc a l).spad b 0 =
    if a ≤ b ∧ b < a + l.length ∧ b < 0x200000 then l.getD (b - a) 0 else tget cl.spad b 0 := by
  induction l generalizing cl a with
  | nil => rw [if_neg (by simp; omega)]; rfl
  | cons x r ih =>
    have h8 : tget (cl.wrLoc8 a x).spad b 0 = if b = a ∧ b < 0x200000 then x else tget cl.spad b 0 := by
      unfold Cell.wrLoc8
      split
      next ha =>
        rw [tget_tset]
        by_cases hb : b = a
        · rw [if_pos hb, if_pos ⟨hb, by omega⟩]
        · rw [if_neg hb, if_neg (by tauto)]
      next ha =>
        rw [if_neg (show ¬ (b = a ∧ b < 0x200000) by omega)]
        (repeat' split) <;> rfl
    rw [Cell.wrLoc, ih, h8, List.length_cons]
    by_cases hb : b = a
    · subst hb
      rw [if_neg (by omega), Nat.sub_self, List.getD_cons_zero]
      by_cases hlt : b < 0x200000
      · rw [if_pos ⟨rfl, hlt⟩, if_pos ⟨le_rfl, by omega, hlt⟩]
      · rw [if_neg (by tauto), if_neg (by tauto)]
    · rw [if_neg (show ¬ (b = a ∧ b < 0x200000) by tauto)]
      by_cases hin : a + 1 ≤ b ∧ b < a + 1 + r.length ∧ b < 0x200000
      · obtain ⟨n, hn⟩ : ∃ n, b - a = n + 1 := ⟨b - a - 1, by omega⟩
        rw [if_pos hin, if_pos (by omega), hn, List.getD_cons_succ, show b - (a + 1) = n by omega]
      · rw [if_neg hin, if_neg (by omega)]

@[simp] theorem State.count_spad (t : State) (c d ev n : Nat) (l : List (Nat × Nat)) : ((t.count c ev n l).cell d).spad = (t.cell d).spad :=
  t.count_read c d ev n l _ fun _ _ => rfl

/-- The bytes of a scratchpad that were written last, read back (R529). -/
theorem State.rdLoc_wrLoc {t : State} {c a : Nat} {cl : Cell} {l r : List Byte} (hcell : (t.cell c).spad = (cl.wrLoc a (l ++ r)).spad)
    (hfit : a + l.length ≤ 0x200000) : t.rdLoc c a l.length = l := by
  unfold State.rdLoc
  refine List.ext_getElem (by simp) fun i hi hi' => ?_
  rw [List.getElem_map, List.getElem_range]
  unfold State.rdLoc8
  dsimp only
  rw [if_pos (by omega), hcell, Cell.wrLoc_spad, if_pos ⟨by omega, by rw [List.length_append]; omega, by omega⟩, Nat.add_sub_cancel_left,
    List.getD_append _ _ _ _ hi', List.getD_eq_getElem _ _ hi']

@[simp] theorem Ctx.final_length (x : Ctx) : x.final.length = 32 := by
  have hround : ∀ a r, (keccakRound a r).length = 25 := fun a r => by
    unfold keccakRound
    simp
  have hf : ∀ a, (keccakF a).length = 25 := fun a => by
    rw [keccakF, ← List.dropLast_append_getLast (l := keccakRc) (by decide), List.foldl_append]
    exact hround _ _
  unfold Ctx.final spongeF
  extract_lets pos st
  rw [List.length_take, List.length_flatMap]
  simp [hf]

/-! ### The three instructions -/

theorem topkScan_completes {c : Cid} {s : State} {w : Nat} (hw : s.atOp c .topk = some w) (hform : bits w 30 29 = 0)
    (hz : (s.issScan c w).zero = false) (h : s.accepts c w (s.issScan c w) true = true) :
    Completes (.topkScan c) s (fun t => s.onlyIn t [.cells] ∧ t = (s.enter c w (s.issScan c w)).wrEntries c (bits w 79 64 * 32)
      (List.replicate ((s.issScan c w).a.outer * bits w 39 31) fillEntry)) := by
  refine ⟨_, by simp only [exec, execTopkScan, hw]; rw [if_neg (by simp [hform]), State.issueUnit_enters h hz], ?_, rfl⟩
  exact (s.enter_spec c w _).1.1.trans (State.modCell_only _ c _)

theorem topkMerge_completes {c : Cid} {s : State} {w : Nat} (hw : s.atOp c .topk = some w) (hform : bits w 30 29 = 1)
    (hz : (issMerge w).zero = false) (hq : (s.cell c).queued 1 = 0) (h : s.accepts c w (issMerge w) true = true) :
    Completes (.topkMerge c) s (fun t => s.cellOnly t c ∧ t = (s.enter c w (issMerge w)).wrEntries c (bits w 79 64 * 32)
      (bestOf (bits w 39 31) (List.replicate (bits w 39 31) fillEntry)
        ((s.enter c w (issMerge w)).rdEntries c (bits w 95 80 * 32) (bits w 63 48 * bits w 28 20)))) := by
  refine ⟨_, by
    simp only [exec, execTopkMerge, hw]
    rw [if_neg (by simp [hform]), show ((s.cell c).queued 1 == 0) = true by simp [hq], State.issueUnit_enters h hz], ?_, rfl⟩
  exact (s.enter_spec c w _).1.trans (State.modCell_cellOnly _ c _)

theorem digest_completes {c : Cid} {s : State} {w : Nat} (hw : s.atOp c .digest = some w) (hz : (s.issDigest c w).zero = false)
    (h : s.accepts c w (s.issDigest c w) true = true) (hinit : bit (wordMod w) 0 = true) (hfin : bit (wordMod w) 1 = true)
    (hfit : bits w 79 64 * 32 + 256 ≤ 0x200000) :
    Completes (.digest c) s (fun t => s.cellOnly t c ∧ t.rdLoc c (bits w 79 64 * 32) 32 =
      (((List.range (s.issDigest c w).a.outer).flatMap (fun r => s.rawRow c (s.issDigest c w).a r)).foldl Ctx.absorb Ctx.fresh).final) := by
  unfold Completes
  rw [show exec (.digest c) s = execDigest c s from rfl]
  unfold execDigest
  rw [hw]
  conv => simp_match
  extract_lets i base data x out
  rw [State.issueUnit_enters h hz]
  refine ⟨_, rfl, ((s.enter_spec c w _).1.trans (State.modCell_cellOnly _ c _)).trans (State.count_cellOnly _ c _ _ _), ?_⟩
  have hx : x = data.foldl Ctx.absorb Ctx.fresh := by simp only [x]; rw [if_pos hinit]
  have hout : out = x.final ++ x.bytes.drop 32 := if_pos hfin
  rw [show x.final = _ from congrArg Ctx.final hx] at hout
  have hread := State.rdLoc_wrLoc (t := ((s.enter c w i).modCell c fun cl => cl.wrLoc base out).count c Ev.digestBytes data.length)
    (c := c) (a := base) (cl := (s.enter c w i).cell c) (l := (data.foldl Ctx.absorb Ctx.fresh).final) (r := x.bytes.drop 32)
    (by rw [State.count_spad, State.modCell_cell_self, hout]) (by rw [Ctx.final_length]; omega)
  rwa [Ctx.final_length] at hread

/-- Settles O30: each by the rule of issue and its own effect. -/
theorem retrievalAndDigestRun : Obligations.RetrievalAndDigestRun := by
  unfold Obligations.RetrievalAndDigestRun
  exact fun c s w => ⟨topkScan_completes, topkMerge_completes, digest_completes⟩

end Sys2Proof.Machine
end

section
/-! SUPPORT. Proofs of the statement about drills (R355 to R364): the status word, a drill's acceptance and end, a round that passes, and the
steward's visit. -/

namespace Sys2Proof.Machine

/-! ### The status word -/

theorem bits_lt (w hi lo : Nat) : bits w hi lo < 2 ^ (hi + 1 - lo) := Nat.mod_lt _ (by positivity)

theorem drillStat_outcome {out pat rounds : Nat} (h : out < 8) : drillStat out false pat rounds % 8 = out := by
  unfold drillStat
  rw [if_neg Bool.false_ne_true]
  omega

theorem drillStat_busy {out pat rounds : Nat} (h : out < 8) : bit (drillStat out true pat rounds) 3 = true := by
  unfold drillStat bit
  rw [if_pos rfl, beq_iff_eq]
  omega

theorem drillStat_rounds {out pat rounds : Nat} (h : out < 8) (hp : pat < 2 ^ 16) (hr : rounds < 2 ^ 16) :
    bits (drillStat out true pat rounds) 35 20 = rounds := by
  unfold drillStat bits
  rw [if_pos rfl]
  omega

/-! ### Acceptance and the wait for a reference -/

theorem drill_accepted {c : Cid} {s : State} {w : Nat} (hw : s.atOp c .drill = some w) (hz : (s.issDrill w).zero = false)
    (hfree : (s.cell c).drillDone = 0) (h : s.accepts c w (s.issDrill w) true = true) (he : drillEngine w ≠ 0) :
    Completes (.drill c) s (fun t => s.cellOnly t c ∧ (t.cell c).drillWord = w ∧ (t.cell c).drillDone = bits w 41 38 ∧
      (t.cell c).drillAsk = s.time ∧ bit (t.cell c).drillStatus 3 = true) := by
  have honly := (s.enter_spec c w (s.issDrill w)).1
  have htime : (s.enter c w (s.issDrill w)).time = s.time := honly.1.time (by decide)
  refine ⟨_, by
    simp only [exec, execDrill, hw]
    rw [show ((s.cell c).drillDone == 0) = true by simp [hfree], State.issueUnit_enters h hz, if_neg (by simp [he])],
    honly.trans (State.modCell_cellOnly _ c _), ?_⟩
  rw [State.modCell_cell_self, htime]
  exact ⟨rfl, rfl, rfl, drillStat_busy (by decide)⟩

/-- A drill that ends leaves its outcome and counts its done flag. -/
theorem State.endDrill_spec (s : State) (c out : Nat) (hout : out < 8) (hd : (s.cell c).drillDone ≠ 0)
    (hfit : tget (s.cell c).flags (s.cell c).drillDone 0 + 1 < 2 ^ 32) : s.cellOnly (s.endDrill c out) c ∧
      ((s.endDrill c out).cell c).drillDone = 0 ∧ ((s.endDrill c out).cell c).drillStatus % 8 = out ∧
      tget ((s.endDrill c out).cell c).flags (s.cell c).drillDone 0 = tget (s.cell c).flags (s.cell c).drillDone 0 + 1 := by
  have htag : ∀ (cl : Cell) hit now st, ({ cl.tagDone hit now with drillStatus := st, drillDone := 0 } : Cell).flags = cl.flags :=
    fun cl hit now st => by unfold Cell.tagDone; split <;> rfl
  unfold State.endDrill
  extract_lets cl k
  generalize hu : s.modCell c _ = u
  have hcell : u.cell c = { (s.cell c).tagDone ((s.cell c).tagWord.toNat == (s.cell c).drillWord) s.time with
      drillStatus := drillStat out false (bits (s.cell c).drillWord 61 46) (bits (s.cell c).drillStatus 35 20), drillDone := 0 } := by
    rw [← hu, State.modCell_cell_self]
  have honly : s.cellOnly u c := hu ▸ s.modCell_cellOnly c _
  have hflags : (u.cell c).flags = (s.cell c).flags := by rw [hcell, htag]
  rw [State.addFlag_fits u c k (.inr (by rw [hflags]; exact hfit)), if_neg (show k ≠ 0 from hd)]
  refine ⟨honly.trans (u.modCell_cellOnly c _), ?_, ?_, ?_⟩
  · rw [State.modCell_cell_self, hcell]
  · rw [State.modCell_cell_self, hcell]; exact drillStat_outcome hout
  · rw [State.modCell_cell_self, hflags]
    dsimp only
    rw [tget_tset_self]

theorem drillReferenceTimeout_ends {c : Cid} {s : State} (hd : (s.cell c).drillDone ≠ 0) (hcells : s.drillCells c = [])
    (hpassed : s.passed (s.cell c).drillAsk 10000000 = true) (hfit : tget (s.cell c).flags (s.cell c).drillDone 0 + 1 < 2 ^ 32) :
    Completes (.drillReferenceTimeout c) s (fun t => s.cellOnly t c ∧ (t.cell c).drillDone = 0 ∧ (t.cell c).drillStatus % 8 = 5 ∧
      tget (t.cell c).flags (s.cell c).drillDone 0 = tget (s.cell c).flags (s.cell c).drillDone 0 + 1) :=
  ⟨_, by simp only [exec, execDrillReferenceTimeout]; rw [if_pos (by simp [hd, hcells, hpassed])],
    s.endDrill_spec c 5 (by decide) hd hfit⟩

/-! ### A round that passes -/

/-- A run of an engine whose checksums agree between the tested cell and its first reference passes. -/
theorem verdict_pass {tols : DrillRun → Rat × Rat} {k : DrillRun} {rest : List DrillRun} {n : Nat} (h : k.crcs.getD 0 0 = k.crcs.getD 1 0) :
    verdict false tols (k :: rest) n = Verdict.ok := by
  unfold verdict
  dsimp only
  rw [if_pos (by simpa [drillAgree] using h)]
  rfl

theorem State.sentence_ok (s : State) (cells : List Nat) (x e : Nat) (two : Bool) :
    s.sentence cells x e two Verdict.ok = s.count (cells.headD 0) Ev.drillRounds 1 (drillAttrs e x) := by
  simp [State.sentence, Verdict.ok]

theorem drillRound_passes {c : Cid} {s : State} {d : DieN} {k : DrillRun} {rest : List DrillRun} (hdie : dieOf c = d.val)
    (hd : (s.cell c).drillDone ≠ 0) (hrst : (s.phy (s.reg c)).rst = 0) (hquar : (s.phy (s.reg c)).quar = false)
    (he : drillEngine (s.cell c).drillWord ≠ 0) (hcells : s.drillCells c ≠ []) (hcrc : k.crcs.getD 0 0 = k.crcs.getD 1 0)
    (hmore : bits (s.cell c).drillStatus 35 20 + 1 < bits (s.cell c).drillWord 77 62) :
    Completes (.drillRound d (some c) (k :: rest)) s (fun t => s.cellOnly t c ∧
      bits (t.cell c).drillStatus 35 20 = bits (s.cell c).drillStatus 35 20 + 1 ∧ (t.cell c).drillDone = (s.cell c).drillDone) := by
  refine ⟨s.drillRound c (k :: rest), by simp only [exec, execDrillRound]; rw [if_pos hdie], ?_⟩
  unfold State.drillRound
  extract_lets cl w e x r b refs cells v u old now out n t
  rw [if_neg hd, if_neg (by simp [r, hrst, hquar]), if_neg (by simp [e, w, cl, he]), if_neg (by simp [e, w, cl, he, refs, hcells])]
  have hv : v = Verdict.ok := by
    simp only [v, show (e == 0) = false from by simpa [e, w, cl] using he]
    exact verdict_pass hcrc
  have hu : u = s.count c Ev.drillRounds 1 (drillAttrs e x) := by
    simp only [u, hv]
    exact s.sentence_ok _ _ _ _
  have hout : out < 8 := by
    have hnow : now ≤ 4 := by simp only [now]; (repeat' split) <;> omega
    have hold : old < 8 := Nat.mod_lt _ (by decide)
    simp only [out]
    split <;> omega
  clear_value out
  rw [if_neg (by simp only [n, w, cl]; omega)]
  have ht : t.cell c = { u.cell c with drillAsk := u.time, drillStatus := drillStat out true (bits w 61 46) n } := State.modCell_cell_self u c _
  refine ⟨?_, ?_, ?_⟩
  · simp only [t, hu]
    exact (s.count_cellOnly c _ _ _).trans (State.modCell_cellOnly _ c _)
  · rw [ht]
    exact drillStat_rounds hout (bits_lt _ 61 46) (hmore.trans (bits_lt _ 77 62))
  · rw [ht, hu]
    exact s.count_read c c _ _ _ Cell.drillDone fun _ _ => rfl

/-! ### The steward's visit -/

theorem drillVisit_begins {s : State} {d : DieN} {r : Nat} (hnone : (s.die d).drillAt = none) (hper : s.fld 0 Ty.drill 0 0 2 ≠ 0)
    (hpick : (((List.range 272).map (fun i => d.val * 272 + i)).filter s.visitable).find? (fun r => (s.phy r).prio) = some r) :
    Completes (.drillVisit d) s (fun t => s.onlyIn t [.cells, .phys, .dies] ∧ (t.die d).drillAt = some r ∧ (t.die d).drillRound = 0) := by
  unfold Completes
  rw [show exec (.drillVisit d) s = execDrillVisit d s from rfl]
  unfold execDrillVisit
  rw [if_neg (by simp [hnone])]
  extract_lets all able again u pick
  have hu : s.onlyIn u [.phys] ∧ ∀ q, (u.phy q).prio = (s.phy q).prio := by
    have hfold : ∀ q, ((eachN s able fun s r => s.modPhy r fun p => { p with visited := false }).phy q).prio = (s.phy q).prio := fun q =>
      State.foldl_read (fun v => (v.phy q).prio) (fun v y => by
        rw [State.modPhy_phy]
        split
        next hq => rw [hq]
        · rfl) able s
    simp only [u]
    split
    · exact ⟨(State.onlyIn_eachN fun v y => by simp).2 (s.onlyIn_refl _), hfold⟩
    · exact ⟨s.onlyIn_refl _, fun _ => rfl⟩
  have hp : pick = some r := by
    simp only [pick, hu.2, able, all, hpick]
    rfl
  clear_value u
  rw [hp]
  conv => simp_match
  extract_lets c v
  have hv : s.onlyIn v [.cells, .phys] := (hu.1.mono (by simp)).trans ((u.modCell_only _ _).mono (by simp))
  rw [if_neg (by rw [hv.fld (by decide)]; exact hper)]
  refine ⟨_, rfl, by simp [hv.mono], ?_⟩
  rw [State.modDie_die_self]
  exact ⟨rfl, rfl⟩

/-- Settles O31: acceptance by the rule of issue, a round by its verdict, the visit by the first cell of priority. -/
theorem drillsRun : Obligations.DrillsRun := by
  unfold Obligations.DrillsRun
  exact fun c s => ⟨fun w => drill_accepted, drillReferenceTimeout_ends, fun d k rest => drillRound_passes, fun d r => drillVisit_begins⟩

end Sys2Proof.Machine
end

section
/-! SUPPORT. Proofs of the statement about completion and faults (R35, R47, R58, R59). -/

namespace Sys2Proof.Machine

/-- The oldest instruction of a unit leaves its queue, its latencies noted, and is retired in the unit. -/
theorem State.popFlight_spec {s : State} {c u : Nat} {f : Flight} (hhead : (s.cell c).head u = some f) (hfit : s.compFits c f.word.toNat) :
    s.onlyIn (s.popFlight c u) [.cells, .parts] ∧ ((s.popFlight c u).cell c).flight = popUnit u (s.cell c).flight ∧
      tget ((s.popFlight c u).cell c).unitStatus (u + 1) 15 = f.status ∧
      ((s.popFlight c u).cell c).heartbeat = ((s.cell c).heartbeat + 1) % 2 ^ 64 ∧
      ((s.popFlight c u).cell c).wait = (s.cell c).wait ∧ ((s.popFlight c u).cell c).draining = (s.cell c).draining ∧
      ∀ k, tget ((s.popFlight c u).cell c).flags k 0 =
        tget (s.cell c).flags k 0 + (if k = wordComp f.word.toNat ∧ k ≠ 0 then 1 else 0) := by
  unfold State.popFlight
  rw [hhead]
  conv => simp_match
  extract_lets w v1 v2 v3 v4
  have h1 : v1.cell c = { s.cell c with flight := popUnit u (s.cell c).flight } := State.modCell_cell_self s c _
  have h2 : (v1.cell c).sameRun (v2.cell c) := by
    simp only [v2]
    split
    · exact State.modCell_sameRun v1 c _ fun x => ⟨rfl, rfl, rfl, rfl, rfl, rfl, rfl⟩
    · exact Cell.sameRun_refl _
  have h4 : v4.cell c = v2.cell c ∧ s.onlyIn v4 [.cells, .parts] := by
    constructor
    · simp only [v4, v3]
      split <;> simp
    · simp only [v4, v3, v2, v1]
      split <;> split <;> simp
  obtain ⟨hcell4, honly4⟩ := h4
  obtain ⟨hbody, hpc, hloops, hwait, hbeat, hflags, hunit⟩ := h2
  have hfit' : wordComp w = 0 ∨ tget (v4.cell c).flags (wordComp w) 0 + 1 < 2 ^ 32 := by
    rw [hcell4, hflags, h1]; exact hfit
  obtain ⟨ponly, pbody, -, -, pwait, pbeat, punit, pflags⟩ := v4.retired_spec c (u + 1) f.status (wordComp w) hfit'
  unfold Cell.sameBody at pbody hbody
  refine ⟨honly4.trans (ponly.1.mono (by simp)), ?_, ?_, ?_, ?_, ?_, fun k => ?_⟩
  · rw [pbody]
    exact (congrArg Cell.flight hcell4).trans (by rw [hbody, h1])
  · rw [punit, tget_tset_self]
  · rw [pbeat, hcell4, hbeat, h1]
  · rw [pwait, hcell4, hwait, h1]
  · rw [pbody]
    exact (congrArg Cell.draining hcell4).trans (by rw [hbody, h1])
  · rw [pflags, hcell4, hflags, h1]

/-- What the events of a completion count leaves the cell's run. -/
theorem State.countDone_spec (s : State) (c : Nat) (f : Flight) :
    s.cellOnly (s.countDone c f) c ∧ (s.cell c).sameRun ((s.countDone c f).cell c) := by
  have hcount : ∀ (t : State) ev n, t.cellOnly (t.count c ev n) c ∧ (t.cell c).sameRun ((t.count c ev n).cell c) := fun t ev n =>
    ⟨t.count_cellOnly c _ _ _, t.count_sameRun c _ _ _⟩
  have hsame : ∀ t : State, t.cellOnly t c ∧ (t.cell c).sameRun (t.cell c) := fun t => ⟨t.cellOnly_refl c, Cell.sameRun_refl _⟩
  unfold State.countDone
  extract_lets u
  have hu : s.cellOnly u c ∧ (s.cell c).sameRun (u.cell c) := by
    simp only [u]
    split
    · exact hcount s _ _
    split
    · exact hcount s _ _
    · exact hsame s
  split
  · exact ⟨hu.1.trans (hcount u _ _).1, hu.2.trans (hcount u _ _).2⟩
  · exact hu

theorem instrComplete_retires {c : Cid} {s : State} {u : Fin 8} {f : Flight} (hhead : (s.cell c).head u = some f) (hdone : f.done = true)
    (hon : s.regionOn c = true) (hop : wordOp f.word.toNat ≠ some .cfin) (hkind : (s.cell c).wait.kind = 0)
    (hdrain : (s.cell c).draining = 0) (hfit : s.compFits c f.word.toNat) :
    Completes (.instrComplete c u) s (fun t => s.onlyIn t [.cells, .parts] ∧ (t.cell c).flight = popUnit u (s.cell c).flight ∧
      tget (t.cell c).unitStatus (u + 1) 15 = f.status ∧ (t.cell c).heartbeat = ((s.cell c).heartbeat + 1) % 2 ^ 64 ∧
      ∀ k, tget (t.cell c).flags k 0 = tget (s.cell c).flags k 0 + (if k = wordComp f.word.toNat ∧ k ≠ 0 then 1 else 0)) := by
  obtain ⟨honly, hbody, -, -, hwait, hbeat, hflags, -⟩ := s.countDone_spec c f
  unfold Cell.sameBody at hbody
  have hflight : ((s.countDone c f).cell c).flight = (s.cell c).flight := by rw [hbody]
  have hdraining : ((s.countDone c f).cell c).draining = (s.cell c).draining := by rw [hbody]
  obtain ⟨ponly, pflight, punit, pbeat, pwait, pdrain, pflags⟩ := State.popFlight_spec (s := s.countDone c f) (c := c) (u := u) (f := f)
    (by rw [Cell.head, hflight]; exact hhead) (by show _ ∨ tget ((s.countDone c f).cell c).flags _ 0 + 1 < _; rw [hflags]; exact hfit)
  refine ⟨(s.countDone c f).popFlight c u, ?_, (honly.1.mono (by simp)).trans ponly, by rw [pflight, hflight], punit,
    by rw [pbeat, hbeat], fun k => by rw [pflags, hflags]⟩
  simp only [exec, execInstrComplete, hhead]
  rw [if_neg (by simp [hdone, hon]), if_neg (by simp [hop]), State.settleCell_none (by rw [pwait, hwait]; exact hkind)
    (by rw [pdrain, hdraining]; exact hdrain)]

theorem illegalInstruction_faults {c : Cid} {s : State} {k : Nat} (hi : s.issuing c = true) (hk : (s.illCauses c).min? = some k) :
    Completes (.illegalInstruction c) s (fun t => s.onlyIn t [.cells, .funcs, .hostMem, .day, .daySeq] ∧ (t.cell c).st = 4 ∧
      (t.cell c).fault.code = Fc.illegal ∧ (t.cell c).fault.cause = k ∧ (t.cell c).fault.pc = (s.cell c).pc ∧
      (t.cell c).fault.word = (s.cell c).word ∧ (t.cell c).spad = (s.cell c).spad) := by
  have hst : (s.cell c).st ≠ 4 := by
    unfold State.issuing at hi
    simp_all
  obtain ⟨hst4, hfault, -⟩ := s.faultAt_spec c Fc.illegal k (s.cell c).pc (s.cell c).word 0 8 hst
  refine ⟨s.precise c Fc.illegal k, ?_, by simp, ?_⟩
  · simp only [exec, execIllegalInstruction, hi, hk]
    rfl
  · rw [State.precise, hst4, hfault]
    exact ⟨rfl, rfl, rfl, rfl, rfl, s.faultAt_read c _ _ _ _ _ _ c Cell.spad (fun _ _ _ _ _ _ _ _ => rfl) fun _ _ => rfl⟩

theorem executionFault_faults {c : Cid} {s : State} {u : Fin 8} {f : Flight} {code cause a : Nat} (hhead : (s.cell c).head u = some f)
    (hst : (s.cell c).st = 2) (hcode : execCode code cause = true) (hmem : code ≠ Fc.memory) :
    Completes (.executionFault c u code cause a) s (fun t => s.onlyIn t [.cells, .funcs, .hostMem, .day, .daySeq] ∧ (t.cell c).st = 4 ∧
      (t.cell c).fault.code = code ∧ (t.cell c).fault.cause = cause ∧ (t.cell c).fault.pc = f.pc ∧ (t.cell c).fault.word = f.word ∧
      (t.cell c).fault.daddr = 0) := by
  obtain ⟨hst4, hfault, -⟩ := s.faultAt_spec c code cause f.pc f.word 0 u (by omega)
  refine ⟨s.faultAt c code cause f.pc f.word 0 u, ?_, by simp, hst4, ?_⟩
  · simp only [exec, execExecutionFault, hhead]
    rw [if_neg (by simp [hst, hcode])]
    simp [hmem]
  · rw [hfault]
    exact ⟨rfl, rfl, rfl, rfl, rfl⟩

/-- Settles O32: completion through the queue's pop, the two faults by the fault rule. -/
theorem completionAndFaultsOfCells : Obligations.CompletionAndFaultsOfCells := by
  unfold Obligations.CompletionAndFaultsOfCells
  exact fun c s => ⟨fun u f => instrComplete_retires, fun k => illegalInstruction_faults, fun u f code cause a => executionFault_faults⟩

end Sys2Proof.Machine
end

section
/-! SUPPORT. Proofs of the statements about the governor and the gaits (R26, R407 to R413): windows of samples, rails and clocks, droops and
temperature splits. -/

namespace Sys2Proof.Machine

/-! ### The governor (R26) -/

theorem govSample_sums (s : State) (v i : Nat) (hmain : s.pow.main = true) : Completes (.govSample v i) s (fun t => s.onlyIn t [.pow] ∧
    t.pow.sum = s.pow.sum + v * i / 10000 ∧ t.pow.n = s.pow.n + 1 ∧ t.pow.limit = s.govLimit v ∧ t.pow.ceil = s.pow.ceil) :=
  ⟨_, by simp only [exec, execGovSample]; rw [if_neg (by simp [hmain])], s.modPow_only _, rfl, rfl, rfl, rfl⟩

/-- The stall that a window puts in is counted in the cells that run. -/
theorem State.stallEdge_only (s : State) : s.onlyIn s.stallEdge [.cells] := by simp

theorem govWindow_above (s : State) (hn : s.pow.n ≠ 0) (habove : s.pow.limit < s.pow.sum / s.pow.n) :
    Completes .govWindow s (fun t => s.onlyIn t [.pow, .cells] ∧ t.pow.n = 0 ∧ t.pow.power = s.pow.sum / s.pow.n ∧
      t.pow.ceil = s.pow.ceil - 1 ∧ t.pow.stall = (if s.pow.ceil = 0 then min (s.pow.stall + 1) 2 else s.pow.stall)) := by
  unfold Completes
  rw [show exec .govWindow s = execGovWindow s from rfl]
  unfold execGovWindow
  extract_lets w mean u v
  have hu : u.pow = { s.pow with power := s.pow.sum / s.pow.n, sum := 0, n := 0 } := rfl
  have huonly : s.onlyIn u [.pow] := s.modPow_only _
  rw [if_neg hn, if_pos (show w.limit < mean from habove)]
  by_cases hceil : 0 < w.ceil
  · rw [if_pos hceil]
    refine ⟨_, rfl, (huonly.trans (u.modPow_only _)).mono (by simp), ?_⟩
    rw [State.modPow_pow, hu, if_neg (show ¬ s.pow.ceil = 0 from hceil.ne')]
    exact ⟨rfl, rfl, rfl, rfl⟩
  · have h0 : s.pow.ceil = 0 := Nat.eq_zero_of_not_pos hceil
    have hv : v.pow = { s.pow with power := s.pow.sum / s.pow.n, sum := 0, n := 0, stall := min (s.pow.stall + 1) 2, below := 0 } := rfl
    have hvonly : s.onlyIn v [.pow] := huonly.trans (u.modPow_only _)
    rw [if_neg hceil]
    clear_value v u
    refine ⟨_, rfl, ?_, ?_⟩
    · split
      · exact (hvonly.mono (by simp)).trans (v.stallEdge_only.mono (by simp))
      · exact hvonly.mono (by simp)
    · have hpow : (if w.stall = 0 then v.stallEdge else v).pow = v.pow := by
        split
        · exact v.stallEdge_only.pow (by decide)
        · rfl
      rw [hpow, hv, if_pos h0, h0]
      exact ⟨rfl, rfl, rfl, rfl⟩

theorem govWindow_within (s : State) (hn : s.pow.n ≠ 0) (hwithin : s.pow.sum / s.pow.n ≤ s.pow.limit) :
    Completes .govWindow s (fun t => s.onlyIn t [.pow] ∧ t.pow.n = 0 ∧ t.pow.power = s.pow.sum / s.pow.n ∧ t.pow.stall = 0 ∧
      t.pow.ceil = s.pow.ceil) := by
  refine ⟨_, by simp only [exec, execGovWindow]; rw [if_neg hn, if_neg (by omega)], ?_⟩
  exact ⟨(s.modPow_only _).trans (State.modPow_only _ _), rfl, rfl, rfl, rfl⟩

/-- Settles O33: a sample adds to the window, a window is above the limit or within it. -/
theorem governorBoundsPower : Obligations.GovernorBoundsPower := by
  unfold Obligations.GovernorBoundsPower
  exact fun s => ⟨govSample_sums s, govWindow_above s, govWindow_within s⟩

/-! ### Gaits and rails (R407, R408) -/

/-- What an update of a region keeps reads as before, in every region. -/
theorem State.modPhy_read {α : Type} (f : Phys → α) (t : State) (r q : Nat) (g : Phys → Phys) (hg : ∀ x, f (g x) = f x) :
    f ((t.modPhy r g).phy q) = f (t.phy q) := by
  rw [State.modPhy_phy]
  split
  next hq => rw [hg, hq]
  · rfl

/-- The raise of the rails around a region leaves all else of every region. -/
theorem State.bridgeRails_read {α : Type} (f : Phys → α) (hf : ∀ (p : Phys) v b, f { p with rail := v, raised := b } = f p) (s : State)
    (r mv q : Nat) : f ((s.bridgeRails r mv).phy q) = f (s.phy q) := by
  unfold State.bridgeRails
  refine State.foldl_read (fun u => f (u.phy q)) (fun u n => ?_) _ s
  extract_lets p v
  have hv : f (v.phy q) = f (u.phy q) := State.modPhy_read f u n q _ fun x => hf x _ _
  split
  · split
    · rw [State.onlyIn.phy (s := v) (l := [.cells]) (by simp) (by decide), hv]
    · exact hv
  · rfl

/-- A rail is settled in its own region. -/
theorem State.settleRail_phy (s : State) (r q : Nat) (h : q ≠ r) : (s.settleRail r).phy q = s.phy q := by
  unfold State.settleRail
  extract_lets own low
  rw [State.modPhy_phy, if_neg h]

theorem not_mem_gridNeighbours (r : Nat) : r ∉ gridNeighbours r := by
  unfold gridNeighbours
  extract_lets p b
  have hp : b + p = r := by simp only [b, p]; omega
  intro h
  simp only [List.mem_append] at h
  rcases h with ((h | h) | h) | h
  all_goals
    split at h
    · rw [List.mem_singleton] at h; grind
    · cases h

theorem gaitChange_ramps {r : Rid} {s : State} {g : Fin 4} (hrst : (s.phy r).rst = 0) (hwant : (s.gaitWant r).1 = g.val)
    (hramp : (s.phy r).ramp = false) (hne : (s.phy r).gait ≠ g.val) :
    Completes (.gaitChange r g) s (fun t => s.onlyIn t [.cells, .phys, .day, .daySeq] ∧ (t.phy r).target = g.val ∧ (t.phy r).ramp = true ∧
      (t.phy r).cause = (s.gaitWant r).2 ∧ (t.phy r).gait = (s.phy r).gait ∧
      ((s.phy r).gait < g.val → s.railOf r g ≤ (t.phy r).rail) ∧ (g.val < (s.phy r).gait → (t.phy r).rail = (s.phy r).rail)) := by
  unfold Completes
  rw [show exec (.gaitChange r g) s = execGaitChange r g s from rfl]
  unfold execGaitChange
  extract_lets p w from_ u v mv
  have hfrom : from_ = (s.phy r).gait := by simp only [from_, p, hramp]; rfl
  rw [if_neg (by simp [p, w, hrst, hwant, hfrom, hne])]
  have hu : u.phy r = { s.phy r with target := g, ramp := true, cause := w.2 } := State.modPhy_phy_self s r _
  have hv : u.onlyIn v [.cells, .day, .daySeq] := by
    simp only [v]
    split
    · exact u.onlyIn_refl _
    · split <;> split <;> simp
  have hvr : v.phy r = { s.phy r with target := g, ramp := true, cause := w.2 } := by rw [hv.phy (by decide), hu]
  have huv : s.onlyIn v [.cells, .phys, .day, .daySeq] := ((s.modPhy_only r _).mono (by simp)).trans (hv.mono (by simp))
  clear_value v u
  have hmv : mv = s.railOf r g := by simp only [mv, State.railOf, hvr]
  split
  next hlt =>
    have hb : v.onlyIn (v.bridgeRails r mv) [.cells, .phys] := by simp
    refine ⟨_, rfl, ?_, ?_⟩
    · exact huv.trans ((hb.mono (by simp)).trans ((State.modPhy_only _ r _).mono (by simp)))
    · rw [State.modPhy_phy_self]
      dsimp only
      rw [State.bridgeRails_read Phys.target (fun _ _ _ => rfl), State.bridgeRails_read Phys.ramp (fun _ _ _ => rfl),
        State.bridgeRails_read Phys.cause (fun _ _ _ => rfl), State.bridgeRails_read Phys.gait (fun _ _ _ => rfl), hvr]
      exact ⟨rfl, rfl, rfl, rfl, fun _ => hmv ▸ le_max_right _ _, fun hgt => absurd hlt (not_lt.2 hgt.le)⟩
  next hlt =>
    refine ⟨_, rfl, huv, ?_⟩
    rw [hvr]
    exact ⟨rfl, rfl, rfl, rfl, fun h => absurd h hlt, fun _ => rfl⟩

theorem gaitClockSwitch_switches {r : Rid} {s : State} (hramp : (s.phy r).ramp = true) (hstretch : (s.phy r).stretch = false)
    (hrst : (s.phy r).rst = 0) : Completes (.gaitClockSwitch r) s (fun t => s.onlyIn t [.phys] ∧ (t.phy r).gait = (s.phy r).target ∧
      (t.phy r).ramp = false ∧ s.railOf r (s.phy r).target ≤ (t.phy r).rail) := by
  generalize hu : s.modPhy r (fun p => { p with gait := p.target, ramp := false }) = u
  have hur : u.phy r = { s.phy r with gait := (s.phy r).target, ramp := false } := by rw [← hu, State.modPhy_phy_self]
  have hset : ((u.settleRail r).phy r).gait = (s.phy r).target ∧ ((u.settleRail r).phy r).ramp = false ∧
      s.railOf r (s.phy r).target ≤ ((u.settleRail r).phy r).rail := by
    unfold State.settleRail
    extract_lets own low
    have hown : own = s.railOf r (s.phy r).target := by simp only [own, State.railOf, hur]
    rw [State.modPhy_phy_self, hur, ← hown]
    exact ⟨rfl, rfl, le_max_left _ _⟩
  refine ⟨_, by
    simp only [exec, execGaitClockSwitch]
    rw [if_neg (by simp [hramp, hstretch, hrst]), hu], ?_, ?_⟩
  · refine (State.onlyIn_foldl_iff fun v n => ?_).2 ?_
    · split <;> simp
    · simp [← hu]
  · have hfold : ∀ (l : List Nat), r.val ∉ l → ∀ v : State, ((l.foldl (fun s n =>
        if (s.phy n).raised && (s.phy n).rst = 0 && !s.frozen n then s.settleRail n else s) v).phy r) = v.phy r := by
      intro l
      induction l with
      | nil => exact fun _ _ => rfl
      | cons n l ih =>
        intro hn v
        rw [List.mem_cons, not_or] at hn
        rw [List.foldl_cons, ih hn.2]
        split
        · exact v.settleRail_phy n r hn.1
        · rfl
    rw [hfold _ (not_mem_gridNeighbours r)]
    exact hset

/-! ### Droops (R413) -/

@[simp] theorem State.countR_phy (s : State) (r ev n q : Nat) : (s.countR r ev n).phy q = s.phy q :=
  State.onlyIn.phy (l := [.cells]) (by simp) (by decide) q

theorem droopStretch_begins {r : Rid} {s : State} {mv : Nat} (hrst : (s.phy r).rst = 0) (hst : (s.phy r).stretch = false)
    (hlow : 100 * mv < 96 * (s.phy r).rail) : Completes (.droopStretch r mv) s (fun t => s.onlyIn t [.cells, .phys] ∧
      (t.phy r).stretch = true ∧ (t.phy r).stretchAt = s.time) := by
  refine ⟨_, by simp only [exec, execDroopStretch]; rw [if_neg (by simp [hrst]), if_pos (by simp [hst, hlow])], by simp, ?_⟩
  rw [State.countR_phy, State.modPhy_phy_self]
  exact ⟨rfl, rfl⟩

theorem droopStretch_ends {r : Rid} {s : State} {mv : Nat} (hrst : (s.phy r).rst = 0) (hst : (s.phy r).stretch = true)
    (hhigh : 97 * (s.phy r).rail < 100 * mv) : Completes (.droopStretch r mv) s (fun t => s.onlyIn t [.phys] ∧
      (t.phy r).stretch = false) := by
  refine ⟨_, by
    simp only [exec, execDroopStretch]
    rw [if_neg (by simp [hrst]), if_neg (by simp [hst]), if_pos (by simp [hst, hhigh])], by simp, ?_⟩
  rw [State.modPhy_phy_self]

theorem droopDerate_begins {r : Rid} {s : State} (hst : (s.phy r).stretch = true) (hd : (s.phy r).droopDerate = false)
    (hp : s.passed (s.phy r).stretchAt 10000 = true) : Completes (.droopDerate r) s (fun t => s.onlyIn t [.cells, .phys] ∧
      (t.phy r).droopDerate = true ∧ (t.phy r).droopUntil = s.time + 1000000) := by
  refine ⟨_, by simp only [exec, execDroopDerate]; rw [if_pos (by simp [hst, hd, hp])], by simp, ?_⟩
  rw [State.countR_phy, State.modPhy_phy_self]
  exact ⟨rfl, rfl⟩

theorem droopDerateEnd_ends {r : Rid} {s : State} (hd : (s.phy r).droopDerate = true) (hp : s.passed (s.phy r).droopUntil 0 = true) :
    Completes (.droopDerateEnd r) s (fun t => s.onlyIn t [.phys] ∧ (t.phy r).droopDerate = false) := by
  refine ⟨_, by simp only [exec, execDroopDerateEnd]; rw [if_pos (by simp [hd, hp])], by simp, ?_⟩
  rw [State.modPhy_phy_self]

/-! ### Temperature splits (R408) -/

theorem tempSplit_begins {s : State} {hot cold : Nat} {d : Int} (hd : 1920 < d) (hhot : hot < 2048) (hcell : hot % 512 < 272)
    (hts : (s.phy (hot / 512 * 272 + hot % 512)).tempSplit = false) :
    Completes (.tempSplit hot cold d) s (fun t => s.onlyIn t [.cells, .phys, .dies, .day, .daySeq] ∧
      (t.phy (hot / 512 * 272 + hot % 512)).tempSplit = true) := by
  unfold Completes
  rw [show exec (.tempSplit hot cold d) s = execTempSplit hot cold d s from rfl]
  unfold execTempSplit
  extract_lets r cell u v
  have hc : cell = true := by simp [cell, hhot, hcell]
  rw [if_neg (by simp [r, hts, hd]), hc, if_neg (by simp)]
  have hv : s.onlyIn v [.cells, .phys, .day, .daySeq] ∧ (v.phy r).tempSplit = true := by
    refine ⟨by simp [v, u], ?_⟩
    simp only [v, State.countR_phy, State.modPhy_phy_self]
  clear_value v
  have hw : v.onlyIn ((List.range 9).foldl (fun s x => if (s.xbar r x).st = 3 then s else s.requestCal 2 r x 0) v) [.dies] := by
    refine (State.onlyIn_foldl_iff fun w x => ?_).2 (v.onlyIn_refl _)
    split <;> simp
  exact ⟨_, rfl, (hv.1.mono (by simp)).trans (hw.mono (by simp)), by rw [hw.phy (by decide)]; exact hv.2⟩

theorem tempSplitClear_ends {r : Rid} {s : State} {d : Int} (hts : (s.phy r).tempSplit = true) (hd : d ≤ 1600)
    (hok : (s.phy r).splitOkAt ≠ 0) (hp : s.passed (s.phy r).splitOkAt 9999999 = true) :
    Completes (.tempSplitClear r d) s (fun t => s.onlyIn t [.phys] ∧ (t.phy r).tempSplit = false) := by
  refine ⟨_, by
    simp only [exec, execTempSplitClear]
    rw [if_neg (by simp [hts]), if_neg (by omega), if_neg hok, if_pos hp], by simp, ?_⟩
  rw [State.modPhy_phy_self]

/-- Settles O35: gaits by their ramps, droops and splits by their thresholds. -/
theorem gaitsFollowTheirInputs : Obligations.GaitsFollowTheirInputs := by
  unfold Obligations.GaitsFollowTheirInputs
  exact fun r s => ⟨fun g => gaitChange_ramps, gaitClockSwitch_switches, fun mv => droopStretch_begins, fun mv => droopStretch_ends,
    droopDerate_begins, droopDerateEnd_ends, fun hot cold d => tempSplit_begins, fun d => tempSplitClear_ends⟩

end Sys2Proof.Machine
end

section
/-! SUPPORT. Proofs of the statements about the power train and the regions (R393 to R406, R254): what a failure leaves in the record, and a
region's way between OFF, RETAIN and ON. -/

namespace Sys2Proof.Machine

/-! ### Failures of the power train -/

theorem bridgeFail_records {d : DieN} {e : Fin 2} {s : State} (h : tget s.fab.bridges (2 * d + e) false = false) :
    Completes (.bridgeFail d e) s (fun t => s.onlyIn t [.fab, .boot, .groom, .day, .daySeq] ∧
      tget t.fab.bridges (2 * d + e) false = true) := by
  refine ⟨s.bridgeFail d e, rfl, by simp, ?_⟩
  unfold State.bridgeFail
  extract_lets link u bad
  rw [if_neg (by simp [h])]
  have hu : tget u.fab.bridges (2 * d + e) false = true := by
    have hfab : (s.modFab fun f => { f with bridges := tset f.bridges (2 * d + e) true false }).onlyIn u [.day, .daySeq] := by simp [u]
    rw [hfab.fab (by decide), State.modFab_fab]
    dsimp only
    rw [tget_tset_self]
  split
  · rw [State.onlyIn.fab (s := u) (l := [.boot, .groom, .day, .daySeq]) (by simp) (by decide)]
    exact hu
  · exact hu

theorem regulatorFail_records {d : DieN} {pr : Fin 304} {s : State} (b : Bool) (why : Nat) (hA : (s.phy (pairKey d pr)).regA = false)
    (hB : (s.phy (pairKey d pr)).regB = false) : Completes (.regulatorFail d pr b why) s (fun t =>
      s.onlyIn t [.phys, .recs, .groom, .gctr, .day, .daySeq] ∧ (t.phy (pairKey d pr)).regA = !b ∧ (t.phy (pairKey d pr)).regB = b) := by
  unfold Completes
  rw [show exec (.regulatorFail d pr b why) s = execRegulatorFail d pr b why s from rfl]
  unfold execRegulatorFail
  extract_lets k p u v w q
  have hu : (u.phy k).regA = !b ∧ (u.phy k).regB = b := by
    simp only [u, State.modPhy_phy_self, k, hA, hB, Bool.false_or, and_self]
  have hw : u.onlyIn w [.recs, .groom, .gctr, .day, .daySeq] := by
    simp only [w, v]
    split <;> simp
  have huw : s.onlyIn w [.phys, .recs, .groom, .gctr, .day, .daySeq] := ((s.modPhy_only k _).mono (by simp)).trans (hw.mono (by simp))
  have hwk : (w.phy k).regA = !b ∧ (w.phy k).regB = b := by rw [hw.phy (by decide)]; exact hu
  rw [if_neg (by cases b <;> simp [p, k, hA, hB])]
  refine ⟨w, ?_, huw, hwk⟩
  rw [if_neg (by simp [q, hwk.1, hwk.2])]

theorem senseFault_records {d : DieN} {pr : Fin 304} {s : State} {mv : Nat} (hmv : mv < 300 ∨ 1000 < mv)
    (hs : (s.phy (pairKey d pr)).sense = false) : Completes (.senseFault d pr mv) s (fun t => s.onlyIn t [.phys, .recs, .groom, .gctr] ∧
      (t.phy (pairKey d pr)).sense = true) := by
  refine ⟨_, by simp only [exec, execSenseFault]; rw [if_neg (by simp [hs]; omega)], by simp, ?_⟩
  rw [State.onlyIn.phy (s := s.modPhy (pairKey d pr) fun p => { p with sense := true }) (l := [.recs, .groom, .gctr]) (by simp) (by decide),
    State.modPhy_phy_self]

theorem jointSample_counts {d : DieN} {pr : Fin 304} {s : State} (vo vs : Int) {i : Nat} (hi : 500 ≤ i)
    (hsw : (s.phy (pairKey d pr)).swStage = 0) (hramp : (s.phy (pairKey d pr)).ramp = false) :
    Completes (.jointSample d pr vo vs i) s (fun t => s.onlyIn t [.phys] ∧
      ((t.phy (pairKey d pr)).jw = 0 ∨ (t.phy (pairKey d pr)).jw = min ((s.phy (pairKey d pr)).jw + 1) 16) ∧
      ((t.phy (pairKey d pr)).jf = 0 ∨ (t.phy (pairKey d pr)).jf = min ((s.phy (pairKey d pr)).jf + 1) 16)) := by
  unfold Completes
  rw [show exec (.jointSample d pr vo vs i) s = execJointSample d pr vo vs i s from rfl]
  unfold execJointSample
  extract_lets k p t r25 q above
  rw [if_neg (by simp [p, k, hsw, hramp, hi])]
  refine ⟨_, rfl, s.modPhy_only k _, ?_⟩
  rw [State.modPhy_phy_self]
  constructor
  · dsimp only
    split
    · exact .inr rfl
    · exact .inl rfl
  · dsimp only
    split
    · exact .inr rfl
    · exact .inl rfl

theorem jointFault_derates {d : DieN} {pr : Fin 304} {s : State} (hjw : 16 ≤ (s.phy (pairKey d pr)).jw)
    (hd : (s.phy (pairKey d pr)).jointDerate = false) (hpr : pr.val < 272) :
    Completes (.jointFault d pr false) s (fun t => s.onlyIn t [.phys, .recs, .groom, .gctr, .day, .daySeq] ∧
      (t.phy (pairKey d pr)).jointDerate = true ∧ (t.phy (pairKey d pr)).jw = 0) := by
  unfold Completes
  rw [show exec (.jointFault d pr false) s = execJointFault d pr false s from rfl]
  unfold execJointFault
  extract_lets k p e log u
  have hu : s.onlyIn u [.phys, .gctr, .day, .daySeq] ∧ (u.phy k).jw = 0 := by
    refine ⟨by simp [u, log], ?_⟩
    simp only [u, log]
    rw [State.onlyIn.phy (s := s.modPhy k fun p => { p with jw := 0, jf := if false = true then 0 else p.jf }) (l := [.gctr, .day, .daySeq])
      (by simp) (by decide), State.modPhy_phy_self]
  rw [if_neg (by simp [p, k, hd]; omega)]
  clear_value u
  refine ⟨_, rfl, by simp [hu.1.mono], ?_⟩
  rw [State.onlyIn.phy (s := u.modPhy k fun p => { p with jointDerate := decide (pr.val < 272) }) (l := [.recs, .groom]) (by simp) (by decide),
    State.modPhy_phy_self]
  exact ⟨decide_eq_true hpr, hu.2⟩

/-- A module fault of the power train stands with its cause. -/
theorem State.powerFault_boot (s : State) (cause unit : Nat) : (s.powerFault cause unit).boot.modFault = true ∧
    (s.powerFault cause unit).boot.faultCause = cause := by
  unfold State.powerFault
  extract_lets u v
  have hfault : (s.moduleFault cause unit).boot.modFault = true ∧ (s.moduleFault cause unit).boot.faultCause = cause := ⟨rfl, rfl⟩
  have hu : (s.moduleFault cause unit).onlyIn u [.cells, .parts, .funcs, .hostMem, .fab, .day, .daySeq] := 
    (State.onlyIn_stopParts (by simp)).2 (State.onlyIn_refl _ _)
  have hub : u.boot.modFault = true ∧ u.boot.faultCause = cause := by rw [show u.boot = _ from hu .boot (by decide)]; exact hfault
  clear_value u
  have hv : v.boot.modFault = true ∧ v.boot.faultCause = cause := by
    simp only [v]
    split
    · exact hub
    · exact hub
  clear_value v
  split
  · rw [show v.dropOut.boot = v.boot from (show v.onlyIn v.dropOut [.cells, .parts, .funcs, .recs, .hostMem, .fab, .day, .daySeq] by simp)
      .boot (by decide)]
    exact hv
  · exact hv

theorem vcFail_first {d : DieN} {z : Fin 4} {a : Nat} {s : State} (h : tget (s.die d).vcFail z 0 = 0) :
    Completes (.vcFail d z a) s (fun t => s.onlyIn t [.dies, .groom, .gctr, .day, .daySeq] ∧ tget (t.die d).vcFail z 0 = 1) := by
  unfold Completes
  rw [show exec (.vcFail d z a) s = execVcFail d z a s from rfl]
  unfold execVcFail
  extract_lets n u v
  have hn : n = 0 := h
  rw [if_neg (by omega), if_pos hn]
  have hv : (s.modDie d fun e => { e with vcFail := tset e.vcFail z (n + 1) 0 }).onlyIn v [.gctr, .groom, .day, .daySeq] := by simp [v, u]
  refine ⟨_, rfl, by simp [v, u], ?_⟩
  rw [hv.die (by decide), State.modDie_die_self, hn]
  dsimp only
  rw [tget_tset_self]

theorem vcFail_second {d : DieN} {z : Fin 4} {a : Nat} {s : State} (h : tget (s.die d).vcFail z 0 = 1) :
    Completes (.vcFail d z a) s (fun t => tget (t.die d).vcFail z 0 = 2 ∧ t.boot.modFault = true ∧ t.boot.faultCause = 1) := by
  unfold Completes
  rw [show exec (.vcFail d z a) s = execVcFail d z a s from rfl]
  unfold execVcFail
  extract_lets n u v w
  have hn : n = 1 := h
  rw [if_neg (by omega), if_neg (by omega)]
  have hv : (s.modDie d fun e => { e with vcFail := tset e.vcFail z (n + 1) 0 }).onlyIn v [.gctr, .groom, .day, .daySeq] := by simp [v, u]
  have hw : v.onlyIn w [.cells, .pow] := by
    simp only [w]
    split <;> simp
  refine ⟨_, rfl, ?_, w.powerFault_boot 1 _⟩
  rw [State.onlyIn.die (s := w) (l := [.cells, .parts, .funcs, .recs, .hostMem, .fab, .boot, .groom, .day, .daySeq]) (by simp) (by decide),
    hw.die (by decide), hv.die (by decide),
    State.modDie_die_self, hn]
  dsimp only
  rw [tget_tset_self]

@[simp] theorem mem_insN (n : Nat) (l : List Nat) : n ∈ insN n l := by
  induction l with
  | nil => simp [insN]
  | cons m r ih =>
    unfold insN
    split
    · simp
    split
    next h => simp [h]
    · exact List.mem_cons_of_mem _ ih

/-- What a table keeps by its key reads as before. -/
theorem tget_filter {α : Type} (t : Tbl α) (p : Nat → Bool) {k : Nat} (h : p k = true) (d : α) :
    tget (t.filter (fun e => p e.1)) k d = tget t k d := by
  induction t with
  | nil => rfl
  | cons e r ih =>
    obtain ⟨j, v⟩ := e
    rw [List.filter_cons]
    by_cases hj : j = k
    · rw [if_pos (by simpa [hj] using h)]
      simp [tget, hj]
    · split
      · simp only [tget, if_neg hj, ih]
      · simp only [tget, if_neg hj, ih]

theorem memoryConverterFail_records {k : Fin 16} {s : State} (h : s.pow.memFail.contains k.val = false) :
    Completes (.memoryConverterFail k) s (fun t => t.pow.memFail.contains k.val = true ∧ t.boot.modFault = true ∧ t.boot.faultCause = 1 ∧
      ∀ a : Nat, (a / 2 ^ 39 * 8 + a / 4096 % 8) / 2 ≠ k.val → t.rd8 a = s.rd8 a) := by
  unfold Completes
  rw [show exec (.memoryConverterFail k) s = execMemoryConverterFail k s from rfl]
  unfold execMemoryConverterFail
  extract_lets gone u
  rw [if_neg (by simpa using h)]
  have hpow : u.pow.memFail.contains k.val = true := by
    simp only [u, State.modPow_pow]
    exact List.contains_iff_mem.2 (mem_insN _ _)
  have hmem : u.mem = s.mem := rfl
  generalize hv : ({ u with mem := u.mem.filter (fun e => !gone e.1) } : State) = v
  have hvpow : v.pow = u.pow := by rw [← hv]
  have hframe : v.onlyIn (v.powerFault 1 (2 * k)) [.cells, .parts, .funcs, .recs, .hostMem, .fab, .boot, .groom, .day, .daySeq] := by simp
  obtain ⟨hfault, hcause⟩ := v.powerFault_boot 1 (2 * k)
  refine ⟨_, rfl, by rw [hframe.pow (by decide), hvpow]; exact hpow, hfault, hcause, fun a ha => ?_⟩
  rw [State.rd8, hframe.mem (by decide), ← hv, hmem]
  refine tget_filter s.mem (fun x => !gone x) ?_ 0
  simp only [gone, Bool.not_eq_true', Bool.or_eq_false_iff, beq_eq_false_iff_ne]
  omega

theorem auxConverterFail_records {k : Fin 2} {s : State} (h : bit s.pow.auxFail k = false) : Completes (.auxConverterFail k) s (fun t =>
    s.onlyIn t [.pow, .day, .daySeq] ∧ t.pow.auxFail = s.pow.auxFail + 2 ^ k.val ∧ t.pow.aux = s.pow.aux) := by
  refine ⟨_, by simp only [exec, execAuxConverterFail]; rw [if_neg (by simp [h])], by simp, ?_⟩
  rw [State.onlyIn.pow (s := s.modPow fun w => { w with auxFail := s.pow.auxFail + 2 ^ k.val }) (l := [.day, .daySeq]) (by simp) (by decide)]
  exact ⟨rfl, rfl⟩

/-- Settles O36: each failure by the field it leaves in the record. -/
theorem powerFailuresAreRecorded : Obligations.PowerFailuresAreRecorded := by
  unfold Obligations.PowerFailuresAreRecorded
  exact fun d pr s => ⟨fun e => bridgeFail_records, regulatorFail_records, fun mv => senseFault_records, fun vo vs i => jointSample_counts vo vs,
    jointFault_derates, fun z a => ⟨vcFail_first, vcFail_second⟩, fun k => memoryConverterFail_records, fun k => auxConverterFail_records⟩

end Sys2Proof.Machine
end

section
/-! SUPPORT. Proofs of the statements about regions and the input limits (R389 to R402, R254): a region's way between OFF, RETAIN and ON, and
what each input voltage does. -/

namespace Sys2Proof.Machine

/-! ### Switching on (R399, R400) -/

theorem regionSwitchOn_starts {r : Rid} {s : State} {neigh zone : Nat} (hwant : (s.phy r).want = 0) (hrst : (s.phy r).rst = 2)
    (hsw : (s.phy r).swStage = 0) (hA : (s.phy r).regA = false) (hmain : s.pow.main = true) (hhold : s.pow.hold = false)
    (hnone : ∀ k : Nat, (s.phy k).swStage = 0) (hneigh : neigh < s.fld 0 Ty.power 0 2 1 * 250)
    (hzone : 10 * zone < 9 * 60 * (3 - tget (s.die (r / 272)).vcFail (zoneOf r) 0)) :
    Completes (.regionSwitchOn r neigh zone) s (fun t => s.onlyIn t [.phys, .gctr] ∧ (t.phy r).swStage = 2 ∧ (t.phy r).rst = 2 ∧
      (t.phy r).swAt = s.time) := by
  unfold Completes
  rw [show exec (.regionSwitchOn r neigh zone) s = execRegionSwitchOn r neigh zone s from rfl]
  unfold execRegionSwitchOn
  extract_lets p d on crowd work busy t
  have hon : ∀ n, on n = false := fun n => by simp [on, hnone]
  have hcrowd : crowd = false := by simp [crowd, hon]
  have hbusy : busy = false := by
    simp only [busy, Bool.or_eq_false_iff, decide_eq_false_iff_not]
    exact ⟨not_le.2 hneigh, not_le.2 hzone⟩
  rw [if_neg (by simp [p, hwant, hrst, hsw, hA, hmain, hhold]), if_neg (by simp [p, hrst]), if_neg (by simp [hcrowd]),
    if_neg (by simp [hbusy])]
  have ht : t.phy r = { s.phy r with swStage := 2, stretched := (s.phy r).stretched || busy, swAt := s.time } := State.modPhy_phy_self s r _
  have htonly : s.onlyIn t [.phys] := s.modPhy_only r _
  clear_value t
  have hcount : ∀ q : Prop, ∀ _ : Decidable q, s.onlyIn (if q then t.gcount GEv.swonStretched 1 else t) [.phys, .gctr] ∧
      (if q then t.gcount GEv.swonStretched 1 else t).phy r = t.phy r := fun q _ => by
    split
    · exact ⟨by simp [htonly.mono], State.onlyIn.phy (l := [.gctr]) (by simp) (by decide) r⟩
    · exact ⟨htonly.mono (by simp), rfl⟩
  obtain ⟨honly, hphy⟩ := hcount ((busy || p.stretched) = true) inferInstance
  refine ⟨_, rfl, honly, ?_⟩
  rw [hphy, ht]
  exact ⟨rfl, hrst, rfl⟩

theorem switchOnStage_advances {r : Rid} {s : State} {seg : Nat} (hlo : 2 ≤ (s.phy r).swStage) (hhi : (s.phy r).swStage < 6)
    (hseg : 15600 ≤ seg) (hhold : s.pow.hold = false) : Completes (.switchOnStage r seg) s (fun t => s.onlyIn t [.dies, .phys] ∧
      (t.phy r).swStage = (s.phy r).swStage + 1 ∧ (t.phy r).rst = (s.phy r).rst) := by
  refine ⟨_, by
    simp only [exec, execSwitchOnStage]
    rw [if_neg (by omega), if_neg (by omega), if_neg (by simp [hhold]; omega)], by simp, ?_⟩
  rw [State.modPhy_phy_self, State.onlyIn.phy (s := s) (l := [.dies]) (by simp) (by decide)]
  exact ⟨rfl, rfl⟩

/-- A region that no substitute waits for comes up alone. -/
theorem State.regionUp_spec {s : State} {r : Nat} (hsub : s.cells.all (fun e => e.2.subst != r + 1) = true) :
    s.onlyIn (s.regionUp r) [.phys] ∧ ((s.regionUp r).phy r).rst = 0 ∧ ((s.regionUp r).phy r).swStage = 0 := by
  unfold State.regionUp
  extract_lets was u v w
  have hu : s.onlyIn u [.phys] ∧ (u.phy r).rst = 0 ∧ (u.phy r).swStage = 0 := by
    refine ⟨s.modPhy_only r _, ?_⟩
    simp only [u, State.modPhy_phy_self, and_self]
  have hkeep : ∀ {α : Type} (f : Phys → α), (∀ (p : Phys) x, f { p with xb := x } = f p) → f (v.phy r) = f (u.phy r) := fun f hf => by
    simp only [v]
    split
    · rfl
    · exact State.foldl_read (fun z => f (z.phy r)) (fun z x => State.modPhy_read f z r r _ fun p => hf p _) _ u
  have hv : u.onlyIn v [.phys] := by
    simp only [v]
    split
    · exact u.onlyIn_refl _
    · refine (State.onlyIn_foldl_iff fun z x => ?_).2 (u.onlyIn_refl _)
      simp
  have hw : w.phy r = { v.phy r with rail := (w.phy r).rail, raised := (w.phy r).raised } := by
    simp only [w, State.settleRail, State.modPhy_phy_self]
  have hwonly : s.onlyIn w [.phys] := by
    have : v.onlyIn w [.phys] := by simp [w]
    exact hu.1.trans (hv.trans this)
  have hwr : (w.phy r).rst = 0 ∧ (w.phy r).swStage = 0 := by
    rw [hw]
    exact ⟨(hkeep Phys.rst fun _ _ => rfl).trans hu.2.1, (hkeep Phys.swStage fun _ _ => rfl).trans hu.2.2⟩
  have hfind : w.cells.find? (fun e => e.2.subst == r + 1 && e.2.substStage == 1) = none := by
    rw [hwonly.cells (by decide), List.find?_eq_none]
    intro e he
    have := List.all_eq_true.1 hsub e he
    simp only [bne_iff_ne] at this
    simp [this]
  clear_value w
  rw [hfind]
  exact ⟨hwonly, hwr⟩

theorem switchOnStage_ends {r : Rid} {s : State} {seg : Nat} (hsw : (s.phy r).swStage = 6)
    (hsub : s.cells.all (fun e => e.2.subst != r.val + 1) = true) : Completes (.switchOnStage r seg) s (fun t => s.onlyIn t [.phys] ∧
      (t.phy r).rst = 0 ∧ (t.phy r).swStage = 0) :=
  ⟨_, by simp only [exec, execSwitchOnStage]; rw [if_neg (by omega), if_pos hsw], State.regionUp_spec hsub⟩

/-- The logical cell of a region is found by the repair map alone. -/
theorem State.onlyIn.cellOf {s t : State} {l : List Area} (h : s.onlyIn t l) (k : .repair ∉ l) (r : Nat) :
    t.cellOf r = s.cellOf r := by
  unfold State.cellOf
  simp only [h.reg k]

theorem switchOnFault_holds {r : Rid} {s : State} (hsw : (s.phy r).swStage = 2)
    (hp : s.passed (s.phy r).swAt (if (s.phy r).stretched then 200000 else 50000) = true) (hcell : s.cellOf r = none)
    (hsub : s.cells.all (fun e => e.2.subst != r.val + 1) = true) : Completes (.switchOnFault r) s (fun t =>
      s.onlyIn t [.phys, .day, .daySeq] ∧ (t.phy r).rst = 2 ∧ (t.phy r).want = 3 ∧ (t.phy r).swStage = 0) := by
  generalize hu : (s.modPhy r fun p => { p with swStage := 0, want := 3 }).logR r Db.switchOnFault (r / 272 * 512 + r % 272) = u
  have huonly : s.onlyIn u [.phys, .day, .daySeq] := by simp [← hu]
  refine ⟨u.regionDark r, by simp only [exec, execSwitchOnFault]; rw [if_neg (by simp [hsw, hp]), hu], ?_⟩
  have hfind : ∀ f, (u.modPhy r f).cells.find? (fun e => e.2.subst == r.val + 1) = none := fun f => by
    rw [show (u.modPhy r f).cells = u.cells from rfl, huonly.cells (by decide), List.find?_eq_none]
    intro e he
    have := List.all_eq_true.1 hsub e he
    simp only [bne_iff_ne] at this
    simp [this]
  unfold State.regionDark
  rw [huonly.cellOf (by decide), hcell]
  conv => simp_match
  extract_lets v
  rw [show v.cells.find? _ = none from hfind _]
  refine ⟨huonly.trans ((u.modPhy_only r _).mono (by simp)), ?_⟩
  have hv : v.phy r = { u.phy r with rst := 2, want := 3, swStage := 0 } := State.modPhy_phy_self u r _
  exact ⟨congrArg Phys.rst hv, congrArg Phys.want hv, congrArg Phys.swStage hv⟩

/-! ### Leaving ON (R402, R254) -/

theorem regionLeaveOn_retains {r : Rid} {s : State} {c : Nat} (hwant : (s.phy r).want = 1) (hrst : (s.phy r).rst = 0)
    (hramp : (s.phy r).ramp = false) (hcell : s.cellOf r = some c) (hst : (s.cell c).st ≠ 2) (hwq : (s.cell c).wq = [])
    (hcal : (s.die (r / 272)).calRun.all (fun e => e.1 != r.val) = true) :
    Completes (.regionLeaveOn r) s (fun t => s.onlyIn t [.cells, .phys] ∧ (t.phy r).rst = 1 ∧ (t.cell c).relayImg = 0 ∧
      (t.cell c).spad = (s.cell c).spad ∧ (t.cell c).tally = (s.cell c).tally ∧ (t.cell c).flags = (s.cell c).flags) := by
  unfold Completes
  rw [show exec (.regionLeaveOn r) s = execRegionLeaveOn r s from rfl]
  unfold execRegionLeaveOn
  extract_lets p idle u v
  have hidle : idle = true := by simp [idle, hcell, hst, hwq]
  have huonly : s.onlyIn u [.phys] := s.modPhy_only r _
  have hur : (u.phy r).rst = 1 := by simp only [u, State.modPhy_phy_self, p, hwant]
  have hfilter : (u.die (r / 272)).calRun.filter (fun e => e.1 == r.val) = [] := by
    rw [huonly.die (by decide), List.filter_eq_nil_iff]
    intro e he
    have := List.all_eq_true.1 hcal e he
    simpa using this
  have hv : v = u := by simp only [v, hfilter, List.foldl_nil]
  rw [if_neg (by simp [p, hwant, hidle, hramp, hrst]), hv, huonly.cellOf (by decide), hcell]
  dsimp only
  rw [if_pos (show p.want = 1 from hwant)]
  clear_value v u
  refine ⟨_, rfl, ?_⟩
  have hucell : u.cell c = s.cell c := huonly.cell (by decide) c
  have hdrop : u.onlyIn (u.dropRelay c) [.cells] := by simp
  refine ⟨(huonly.mono (by simp)).trans (hdrop.mono (by simp)), by rw [hdrop.phy (by decide)]; exact hur, ?_⟩
  unfold State.dropRelay
  extract_lets cl w
  have hw : ∀ {α : Type} (f : Cell → α), (∀ (x : Cell) y, f { x with ctr := y } = f x) → f (w.cell c) = f (s.cell c) := fun f hf => by
    simp only [w]
    split
    · rw [State.count_read _ _ _ _ _ _ f hf, hucell]
    · rw [hucell]
  rw [State.modCell_cell_self]
  exact ⟨rfl, hw Cell.spad fun _ _ => rfl, hw Cell.tally fun _ _ => rfl, hw Cell.flags fun _ _ => rfl⟩

/-- Settles O37: starting, the stages and the end of a switch-on, its fault, and RETAIN. -/
theorem regionsSwitch : Obligations.RegionsSwitch := by
  unfold Obligations.RegionsSwitch
  exact fun r s => ⟨fun neigh zone => regionSwitchOn_starts, fun seg => switchOnStage_advances, fun seg => switchOnStage_ends,
    switchOnFault_holds, fun c => regionLeaveOn_retains⟩

/-! ### Input limits (R389 to R392) -/

/-- A table whose values are all changed, read. -/
theorem tget_map {α β : Type} (t : Tbl α) (g : α → β) (k : Nat) (d : α) : tget (t.map (fun e => (e.1, g e.2))) k (g d) = g (tget t k d) := by
  induction t with
  | nil => rfl
  | cons e r ih =>
    obtain ⟨j, v⟩ := e
    rw [List.map_cons]
    simp only [tget]
    split
    · rfl
    · exact ih

/-- A region that loses its power keeps the conductances of its crossbars. -/
theorem State.cold_cond {s t : State} (h : t.phys = s.phys.map (fun e => (e.1, e.2.cold))) (r x : Nat) :
    (t.xbar r x).cond = (s.xbar r x).cond := by
  have hphy : t.phy r = (s.phy r).cold := by
    rw [State.phy, h]
    exact tget_map s.phys Phys.cold r Phys.reset
  have hxb : t.xbar r x = (s.xbar r x).cold := by
    rw [State.xbar, hphy]
    exact tget_map (s.phy r).xb Xbar.cold x Xbar.reset
  rw [hxb]
  rfl

theorem inputOvervoltage_stops {v : Nat} {s : State} (hv : 5000 < v) (hv' : v ≤ 6000) (haux : s.pow.aux = true)
    (hlatch : s.pow.latchedOff = false) : Completes (.inputOvervoltage v) s (fun t => t.pow.main = false ∧
      t.pow.latchedOff = true ∧ t.mem = [] ∧
      s.onlyIn t [.cells, .parts, .mem, .badMem, .gctr, .fab, .phys, .dies, .pow, .rack, .boot, .groom, .day, .daySeq] ∧
      ∀ (r : Rid) (x : Xb), (t.xbar r x).cond = (s.xbar r x).cond) := by
  generalize hu : s.dropMain.modPow (fun w => { w with latchedOff := true, ovWarn := true, vin := v }) = u
  have hphys : u.phys = s.phys.map (fun e => (e.1, e.2.cold)) := by rw [← hu]; rfl
  have hmain : u.pow.main = false ∧ u.pow.latchedOff = true ∧ u.mem = [] := by rw [← hu]; exact ⟨rfl, rfl, rfl⟩
  have huonly : s.onlyIn u [.cells, .parts, .mem, .badMem, .gctr, .fab, .phys, .dies, .pow, .rack, .boot] := by simp [← hu]
  have ht : u.onlyIn ((u.log 0 Db.inputOvStop v).platform 3 v) [.groom, .day, .daySeq] := by simp
  refine ⟨(u.log 0 Db.inputOvStop v).platform 3 v, ?_, by rw [ht.pow (by decide)]; exact hmain.1, by rw [ht.pow (by decide)]; exact hmain.2.1,
    by rw [ht.mem (by decide)]; exact hmain.2.2, (huonly.mono (by simp)).trans (ht.mono (by simp)), fun r x => ?_⟩
  · simp only [exec, execInputOvervoltage]
    rw [if_neg (by omega), if_neg (by simp [haux, hlatch]; omega), hu]
  · rw [ht.xbar (by decide)]
    exact State.cold_cond hphys r x

theorem inputOvWarn_warns {v : Nat} {s : State} (hv : 4800 < v) (hv' : v ≤ 5000) (hov : s.pow.ovWarn = false) (hmain : s.pow.main = true) :
    Completes (.inputOvWarn v) s (fun t => s.onlyIn t [.pow, .day, .daySeq, .gctr] ∧ t.pow.ovWarn = true ∧ t.pow.main = true) := by
  have ht : (s.modPow fun w => { w with ovWarn := true, vin := v }).onlyIn
      (((s.modPow fun w => { w with ovWarn := true, vin := v }).log 0 Db.inputWarn v [0]).gcount GEv.pwrInputOv 1) [.day, .daySeq, .gctr] := by
    simp
  refine ⟨_, by
    simp only [exec, execInputOvWarn]
    rw [if_neg (by simp [hov, hmain]; omega)], ((s.modPow_only _).mono (by simp)).trans (ht.mono (by simp)), ?_⟩
  rw [ht.pow (by decide)]
  exact ⟨rfl, hmain⟩

theorem inputUndervoltage_warns {v : Nat} {s : State} (hv : 3600 ≤ v) (hv' : v < 4000) (hmain : s.pow.main = true) :
    Completes (.inputUndervoltage v) s (fun t => s.onlyIn t [.pow, .day, .daySeq, .gctr] ∧ t.pow.limit = s.govLimit v ∧
      t.pow.uvWarn = true) := by
  unfold Completes
  rw [show exec (.inputUndervoltage v) s = execInputUndervoltage v s from rfl]
  unfold execInputUndervoltage
  rw [if_neg (by simp [hmain]; omega)]
  extract_lets t
  have ht : s.onlyIn t [.pow] := s.modPow_only _
  have hpow : t.pow.limit = s.govLimit v ∧ t.pow.uvWarn = true := ⟨rfl, rfl⟩
  clear_value t
  refine ⟨_, rfl, ?_⟩
  split
  · exact ⟨ht.mono (by simp), hpow⟩
  · refine ⟨by simp [ht.mono], ?_⟩
    rw [State.onlyIn.pow (s := t) (l := [.day, .daySeq, .gctr]) (by simp) (by decide)]
    exact hpow

theorem powerFailHold_holds {v : Nat} {s : State} (hv : v < 3600) (hhold : s.pow.hold = false) (hmain : s.pow.main = true) :
    Completes (.powerFailHold v) s (fun t => s.onlyIn t [.pow] ∧ t.pow.hold = true ∧ t.pow.holdAt = s.time ∧
      ∀ c : Nat, t.issuing c = false) := by
  refine ⟨_, by simp only [exec, execPowerFailHold]; rw [if_pos (by simp [hv, hhold, hmain])], s.modPow_only _, rfl, rfl, fun c => ?_⟩
  unfold State.issuing
  simp

theorem powerFailRelease_releases {v : Nat} {s : State} (hv : 3800 < v) (hhold : s.pow.hold = true) (ht : s.time ≤ s.pow.holdAt + 30000000) :
    Completes (.powerFailRelease v) s (fun t => s.onlyIn t [.pow, .cells] ∧ t.pow.hold = false) := by
  refine ⟨_, by simp only [exec, execPowerFailRelease]; rw [if_neg (by simp [hhold]; omega)], ?_, rfl⟩
  rw [State.onlyIn_cells (by decide)]
  simp

theorem inputCollapse_drops {v : Nat} {s : State} (hv : v < 3300) (haux : s.pow.aux = true) (hmain : s.pow.main = true) :
    Completes (.inputCollapse v) s (fun t => t.pow.main = false ∧ t.pow.aux = true ∧
      t.mem = [] ∧ s.same t .day ∧ s.same t .store ∧ ∀ (r : Rid) (x : Xb), (t.xbar r x).cond = (s.xbar r x).cond) := by
  refine ⟨s.dropMain.modPow (fun w => { w with vin := v }), ?_, rfl, haux, rfl, rfl, rfl, fun r x => State.cold_cond rfl r x⟩
  simp only [exec, execInputCollapse]
  rw [if_pos (by simp [hv, haux, hmain])]

theorem auxiliaryRailLoss_drops {s : State} (haux : s.pow.aux = true) : Completes .auxiliaryRailLoss s (fun t => t.pow.aux = false ∧
    t.pow.main = false ∧ t.day = [] ∧ s.same t .store ∧ s.same t .hostMem ∧
    ∀ (r : Rid) (x : Xb), (t.xbar r x).cond = (s.xbar r x).cond) := by
  refine ⟨s.powerOff, ?_, rfl, rfl, rfl, rfl, rfl, fun r x => State.cold_cond rfl r x⟩
  simp only [exec, execAuxiliaryRailLoss]
  rw [if_pos haux]

/-- Settles O38: the limits from the highest voltage down. -/
theorem inputLimitsStopThePower : Obligations.InputLimitsStopThePower := by
  unfold Obligations.InputLimitsStopThePower
  refine fun v s => ⟨inputOvervoltage_stops, fun hv => ?_, inputOvWarn_warns, inputUndervoltage_warns, powerFailHold_holds,
    powerFailRelease_releases, inputCollapse_drops, auxiliaryRailLoss_drops⟩
  simp only [exec, execInputOvervoltage]
  rw [if_pos hv]

end Sys2Proof.Machine
end

section
/-! SUPPORT. Proofs of the statements about reachability and epochs (R311 to R321): probes and suspicions, and the agreement on an epoch. -/

namespace Sys2Proof.Machine

/-! ### Probes -/

@[simp] theorem tfind_tdel {α : Type} (t : Tbl α) (k : Nat) : tfind (tdel t k) k = none := by
  induction t with
  | nil => rfl
  | cons e r ih =>
    obtain ⟨j, v⟩ := e
    unfold tdel at ih ⊢
    rw [List.filter_cons]
    split
    next h => rw [tfind, if_neg (by simpa using h), ih]
    · exact ih

theorem tfind_tins {α : Type} (t : Tbl α) (k j : Nat) (v : α) : tfind (tins t k v) j = if j = k then some v else tfind t j := by
  induction t with
  | nil => simp [tins, tfind, eq_comm]
  | cons e r ih =>
    obtain ⟨i, w⟩ := e
    rw [tins]
    split
    · simp only [tfind]; grind
    split
    next h => simp only [tfind]; grind
    next => simp only [tfind, ih]; grind

theorem ping_answered {s : State} {h : Hdr} (hus : s.forUs h) : Completes (.ping h) s (fun t => s.onlyIn t [.fab] ∧
    s.sent t [[0x05, h.src, s.fab.epoch]]) :=
  ⟨_, by simp only [exec, execPing]; rw [State.receive_next _ _ _ hus.1 hus.2], s.send_only _ _ _, rfl⟩

theorem pong_ends {s : State} {h : Hdr} (hus : s.forUs h) : Completes (.pong h) s (fun t => s.onlyIn t [.fab] ∧
    tfind t.fab.probes h.src = none ∧ s.sent t []) := by
  refine ⟨_, by simp only [exec, execPong]; rw [State.receive_next _ _ _ hus.1 hus.2], s.modFab_only _, ?_, ?_⟩
  · rw [State.modFab_fab]
    exact tfind_tdel _ _
  · rw [State.sent, List.append_nil]
    rfl

/-- One message for each entry of a list. -/
theorem State.foldl_send_tx {α : Type} (ty : Nat) (dst : α → Nat) (l : List α) (s : State) :
    (l.foldl (fun s e => s.send ty (dst e) []) s).fab = { s.fab with tx := s.fab.tx ++ l.map (fun e => [ty, dst e, s.fab.epoch]) } := by
  induction l generalizing s with
  | nil => simp
  | cons e r ih =>
    rw [List.foldl_cons, ih]
    simp [State.send]

theorem pingTimer_pings (s : State) : Completes .pingTimer s (fun t => s.onlyIn t [.fab] ∧
    s.sent t (s.fab.probes.map (fun e => [0x04, e.1, s.fab.epoch]))) := by
  have honly : s.onlyIn (s.fab.probes.foldl (fun s e => s.send 0x04 e.1 []) s) [.fab] :=
    (State.onlyIn_foldl_iff fun v x => by simp).2 (s.onlyIn_refl _)
  have htx := State.foldl_send_tx 0x04 (fun e : Nat × Probe => e.1) s.fab.probes s
  refine ⟨_, rfl, honly.trans (State.modFab_only _ _), ?_⟩
  rw [State.sent, State.modFab_fab, htx]

theorem lossTimeout_reports {s : State} {n : Nat} {p : Probe} (hp : tfind s.fab.probes n = some p) (hsusp : p.suspected = false)
    (hun : p.unreach = true) (hpassed : s.passed p.since (s.fld 0 Ty.membership 0 0 2 * 1000000) = true)
    (hto : s.suspectTo n ≠ s.fab.nodeId) : Completes (.lossTimeout n) s (fun t => s.onlyIn t [.fab, .gctr] ∧
      s.sent t [[0x10, s.suspectTo n, s.fab.epoch, n]]) := by
  generalize hu : (s.modFab fun f => { f with probes := tins f.probes n { p with suspected := true } }) = u
  have huonly : s.onlyIn u [.fab] := hu ▸ s.modFab_only _
  have huto : u.suspectTo n = s.suspectTo n := by rw [← hu]; rfl
  have hufab : u.fab.nodeId = s.fab.nodeId ∧ u.fab.epoch = s.fab.epoch ∧ u.fab.tx = s.fab.tx := by rw [← hu]; exact ⟨rfl, rfl, rfl⟩
  obtain ⟨hnode, hep, htx⟩ := hufab
  refine ⟨(u.send 0x10 (s.suspectTo n) [n]).gcount GEv.fabSuspectSent 1, ?_, by simp [huonly.mono], ?_⟩
  · simp only [exec, execLossTimeout, hp]
    rw [if_neg (by simp [hsusp, hun, hpassed]), hu, huto, hnode, if_neg hto]
  · rw [State.sent, State.onlyIn.fab (s := u.send 0x10 (s.suspectTo n) [n]) (l := [.gctr]) (by simp) (by decide)]
    show u.fab.tx ++ [[0x10, s.suspectTo n, u.fab.epoch, n]] = _
    rw [htx, hep]

/-! ### Suspicion (R315, R316) -/

@[simp] theorem mem_firsts (l : List Nat) (n : Nat) : n ∈ firsts l ↔ n ∈ l := by
  have h : ∀ (l r : List Nat), n ∈ l.foldl (fun r n => if r.contains n then r else r ++ [n]) r ↔ n ∈ r ∨ n ∈ l := by
    intro l
    induction l with
    | nil => simp
    | cons m l ih =>
      intro r
      rw [List.foldl_cons, ih]
      split
      next hm =>
        have : m ∈ r := by simpa using hm
        constructor
        · rintro (h | h)
          · exact .inl h
          · exact .inr (List.mem_cons_of_mem _ h)
        · rintro (h | h)
          · exact .inl h
          · rcases List.mem_cons.1 h with rfl | h
            · exact .inl this
            · exact .inr h
      next => simp [or_assoc]
  have := h l []
  rw [firsts]
  simp only [List.not_mem_nil, false_or] at this
  exact this

/-- Two witnesses make at least two of the first ones. -/
theorem two_le_length_firsts {l : List Nat} {a b : Nat} (ha : a ∈ l) (hb : b ∈ l) (hne : a ≠ b) : 2 ≤ (firsts l).length := by
  have ha' := (mem_firsts l a).2 ha
  have hb' := (mem_firsts l b).2 hb
  match hl : firsts l with
  | [] => rw [hl] at ha'; cases ha'
  | [x] =>
    rw [hl, List.mem_singleton] at ha' hb'
    exact absurd (ha'.trans hb'.symm) hne
  | x :: y :: r => simp

theorem mem_of_mem_insN {n m : Nat} {l : List Nat} (hne : n ≠ m) (h : n ∈ insN m l) : n ∈ l := by
  induction l with
  | nil => simp [insN, hne] at h
  | cons a r ih =>
    rw [insN] at h
    split at h
    · simpa [hne] using h
    split at h
    · exact h
    · rcases List.mem_cons.1 h with rfl | h
      · simp
      · exact List.mem_cons_of_mem _ (ih h)

/-- A declaration changes whom the system has lost, and whom it suspects not at all. -/
theorem State.declare_spec (s : State) (n : Nat) : s.onlyIn (s.declare n) [.fab] ∧ (s.declare n).fab.suspects = s.fab.suspects ∧
    (s.declare n).fab.nodeId = s.fab.nodeId ∧ ∀ a b, a ≠ b → (n, a) ∈ s.fab.suspects → (n, b) ∈ s.fab.suspects →
      s.fab.members.contains n = true → n ∈ (s.declare n).fab.lost := by
  unfold State.declare
  extract_lets own w
  split
  · exact ⟨s.modFab_only _, rfl, rfl, fun _ _ _ _ _ _ => mem_insN n _⟩
  next hno =>
    refine ⟨s.onlyIn_refl _, rfl, rfl, fun a b hne ha hb hmem => ?_⟩
    have hw : ∀ x, (n, x) ∈ s.fab.suspects → x ∈ (s.fab.suspects.filter (fun x => x.1 == n)).map (fun x => x.2) ++ own := fun x hx =>
      List.mem_append_left _ (List.mem_map.2 ⟨(n, x), List.mem_filter.2 ⟨hx, by simp⟩, rfl⟩)
    have htwo : 2 ≤ w.length := two_le_length_firsts (hw a ha) (hw b hb) hne
    simp only [htwo, hmem, decide_true, Bool.true_and, Bool.not_eq_true', Bool.not_eq_false, List.contains_iff_mem] at hno
    exact hno

theorem suspect_declares {s : State} {h : Hdr} {n : Nat} (hus : s.forUs h) (hbeh : s.behind h = false) (hin : s.fab.inSystem = true)
    (hmem : s.fab.members.contains h.src = true) (hto : s.suspectTo n = s.fab.nodeId) :
    Completes (.suspect h n) s (fun t => s.onlyIn t [.fab] ∧ (n, h.src) ∈ t.fab.suspects ∧
      ((∃ w, w ≠ h.src ∧ (n, w) ∈ s.fab.suspects) → s.fab.members.contains n = true → n ∈ t.fab.lost)) := by
  generalize hu : (s.modFab fun f => { f with
    suspects := if f.suspects.contains (n, h.src) then f.suspects else f.suspects ++ [(n, h.src)] }) = u
  have huonly : s.onlyIn u [.fab] := hu ▸ s.modFab_only _
  have husp : u.fab.suspects = if s.fab.suspects.contains (n, h.src) then s.fab.suspects else s.fab.suspects ++ [(n, h.src)] := by
    rw [← hu]; rfl
  have humem : u.fab.members = s.fab.members := by rw [← hu]; rfl
  have hnew : (n, h.src) ∈ u.fab.suspects := by
    rw [husp]
    split
    next hc => simpa using hc
    · simp
  have hold : ∀ w, (n, w) ∈ s.fab.suspects → (n, w) ∈ u.fab.suspects := fun w hw => by
    rw [husp]
    split
    · exact hw
    · exact List.mem_append_left _ hw
  obtain ⟨honly, hsusp, -, hlost⟩ := u.declare_spec n
  refine ⟨u.declare n, ?_, huonly.trans honly, by rw [hsusp]; exact hnew, fun ⟨w, hne, hw⟩ hm =>
    hlost w h.src hne (hold w hw) hnew (by rw [humem]; exact hm)⟩
  simp only [exec, execSuspect]
  rw [State.receive_next _ _ _ hus.1 hus.2, if_neg (by simp [hbeh]), if_pos (by simp [hin, hto]; simpa using hmem), hu]

@[simp] theorem State.enterMinority_minority (s : State) : s.enterMinority.fab.minority = true := by
  unfold State.enterMinority
  split
  next h => exact h
  · extract_lets ps u v
    have hu : u.fab.minority = true := rfl
    have hv : u.onlyIn v [.parts, .funcs, .hostMem] := by
      refine (State.onlyIn_foldl_iff fun w p => ?_).2 (u.onlyIn_refl _)
      simp
    rw [State.onlyIn.fab (s := v) (l := [.day, .daySeq, .gctr]) (by simp) (by decide), hv.fab (by decide)]
    exact hu

theorem suspectGatherEnd_decides {s : State} {t0 : Nat} (hat : s.fab.gatherAt = some t0) (hp : s.passed t0 1000000 = true)
    (hc : s.fab.coord = s.fab.nodeId) :
    (s.quorum = true → Completes .suspectGatherEnd s (fun t => t = (s.modFab (fun f => { f with gatherAt := none })).propose)) ∧
      (s.quorum = false → Completes .suspectGatherEnd s (fun t => t.fab.minority = true)) := by
  refine ⟨fun hq => ⟨_, ?_, rfl⟩, fun hq => ⟨s.enterMinority, ?_, s.enterMinority_minority⟩⟩
  · simp only [exec, execSuspectGatherEnd, hat]
    rw [if_neg (by simp [hp, hc]), if_neg (by simp [hq])]
  · simp only [exec, execSuspectGatherEnd, hat]
    rw [if_neg (by simp [hp, hc]), if_pos (by simp [hq])]

theorem coordinatorLost_reports {s : State} {p : Probe} (hp : tfind s.fab.probes s.fab.coord = some p) (hun : p.unreach = true)
    (hsusp : p.suspected = false) (hmin : s.fab.minority = false)
    (hpassed : s.passed p.since (s.fld 0 Ty.membership 0 0 2 * 1000000) = true) (hq : s.quorum = true)
    (hto : s.suspectTo s.fab.coord ≠ s.fab.nodeId) : Completes .coordinatorLost s (fun t => s.onlyIn t [.fab, .gctr] ∧
      t.fab.coord = s.suspectTo s.fab.coord ∧ s.sent t [[0x10, s.suspectTo s.fab.coord, s.fab.epoch, s.fab.coord]]) := by
  generalize hu : (s.modFab fun f => { f with
    coord := s.suspectTo s.fab.coord, probes := tins f.probes s.fab.coord { p with suspected := true }, deferred := none }) = u
  have huonly : s.onlyIn u [.fab] := hu ▸ s.modFab_only _
  have hufab : u.fab.nodeId = s.fab.nodeId ∧ u.fab.epoch = s.fab.epoch ∧ u.fab.tx = s.fab.tx ∧ u.fab.coord = s.suspectTo s.fab.coord := by
    rw [← hu]; exact ⟨rfl, rfl, rfl, rfl⟩
  obtain ⟨hnode, hep, htx, hcoord⟩ := hufab
  have hg : (u.send 0x10 (s.suspectTo s.fab.coord) [s.fab.coord]).onlyIn
      ((u.send 0x10 (s.suspectTo s.fab.coord) [s.fab.coord]).gcount GEv.fabSuspectSent 1) [.gctr] := by simp
  refine ⟨(u.send 0x10 (s.suspectTo s.fab.coord) [s.fab.coord]).gcount GEv.fabSuspectSent 1, ?_, by simp [huonly.mono], ?_, ?_⟩
  · simp only [exec, execCoordinatorLost, hp]
    rw [if_neg (by simp [hun, hpassed, hmin]), if_neg (by simp [hq]), hu, hnode, if_neg hto, if_neg (by simp [hsusp])]
  · rw [hg.fab (by decide)]
    exact hcoord
  · rw [State.sent, hg.fab (by decide)]
    show u.fab.tx ++ [[0x10, s.suspectTo s.fab.coord, u.fab.epoch, s.fab.coord]] = _
    rw [htx, hep]

/-- Settles O41: each message and timer by what it sends. -/
theorem reachabilityIsProbed : Obligations.ReachabilityIsProbed := by
  unfold Obligations.ReachabilityIsProbed
  exact fun s => ⟨fun h => ping_answered, fun h => pong_ends, pingTimer_pings s, fun n p => lossTimeout_reports, fun h n => suspect_declares,
    fun t0 => suspectGatherEnd_decides, fun p => coordinatorLost_reports⟩

/-! ### Epochs (R311 to R313, R321) -/

theorem epochPropose_taken {s : State} {h : Hdr} {chg : List Change} (hus : s.forUs h) (hin : s.fab.inSystem = true)
    (hmem : s.fab.members.contains h.src = true) (hmin : s.fab.minority = false) :
    Completes (.epochPropose h (s.fab.epoch + 1) chg) s (fun t => s.onlyIn t [.fab] ∧ t.fab.coord = h.src ∧ t.fab.epoch = s.fab.epoch ∧
      (immediate chg = true → s.sent t [[0x12, h.src, s.fab.epoch, s.fab.epoch + 1]] ∧ t.fab.deferred = none) ∧
      (immediate chg = false → s.sent t [] ∧ (t.fab.deferred.map (fun k => k.changes)) = some chg)) := by
  unfold Completes
  rw [show exec (.epochPropose h (s.fab.epoch + 1) chg) s = execEpochPropose h (s.fab.epoch + 1) chg s from rfl]
  unfold execEpochPropose
  rw [State.receive_next _ _ _ hus.1 hus.2]
  rw [if_neg (by simp), if_neg (by simp [hin, hmin]; simpa using hmem)]
  cases himm : immediate chg with
  | true => exact ⟨_, rfl, by simp, rfl, rfl, fun _ => ⟨rfl, rfl⟩, nofun⟩
  | false => exact ⟨_, rfl, by simp, rfl, rfl, nofun, fun _ => ⟨(List.append_nil _).symm, rfl⟩⟩

theorem deferredAckTest_acks {s : State} {k : Proposal} (hd : s.fab.deferred = some k) (hw : s.groupWaits = false)
    (hc : s.fab.coord ≠ s.fab.nodeId) : Completes .deferredAckTest s (fun t => s.onlyIn t [.fab] ∧ t.fab.deferred = none ∧
      s.sent t [[0x12, s.fab.coord, s.fab.epoch, k.epoch]]) := by
  refine ⟨(s.modFab (fun f => { f with deferred := none })).send 0x12 s.fab.coord [k.epoch], ?_, by simp, rfl, rfl⟩
  simp only [exec, execDeferredAckTest, hd]
  rw [if_neg (by simp [hw])]
  exact if_neg hc

/-- With nothing lost and no change asked for, a proposal stands as it is. -/
theorem State.propose_idle {s : State} {k : Proposal} (hprop : s.fab.prop = some k) (hlost : s.fab.lost = []) (hpend : s.fab.pendChg = []) :
    s.propose = s := by
  unfold State.propose
  split
  · rfl
  · extract_lets ready all
    have hall : all = [] := by simp [all, hlost, hpend]
    rw [hprop]
    dsimp only
    rw [hall]
    simp only [immediate, List.any_nil, List.nil_append, Bool.false_eq_true, if_false]
    exact ite_self _

theorem epochAck_kept {s : State} {h : Hdr} {k : Proposal} {n : Nat} (hus : s.forUs h) (hprop : s.fab.prop = some k) (hmem : n ∈ s.fab.members)
    (hnl : n ∉ s.fab.lost) (hne : n ≠ h.src) (hack : n ∉ k.acks) (hlost : s.fab.lost = []) (hpend : s.fab.pendChg = []) :
    Completes (.epochAck h k.epoch) s (fun t => s.onlyIn t [.fab] ∧ t.fab.prop = some { k with acks := insN h.src k.acks } ∧
      t.fab.epoch = s.fab.epoch) := by
  generalize hu : (s.modFab fun f => { f with prop := some { k with acks := insN h.src k.acks } }) = u
  have huonly : s.onlyIn u [.fab] := hu ▸ s.modFab_only _
  have hufab : u.fab = { s.fab with prop := some { k with acks := insN h.src k.acks } } := by rw [← hu]; rfl
  have htry : u.tryCommit = u := by
    unfold State.tryCommit
    rw [hufab]
    dsimp only
    rw [if_neg]
    intro hall
    have := List.all_eq_true.1 hall n (List.mem_filter.2 ⟨hmem, by simpa using hnl⟩)
    rw [List.contains_iff_mem] at this
    exact hack (mem_of_mem_insN hne this)
  refine ⟨u, ?_, huonly, by rw [hufab], by rw [hufab]⟩
  simp only [exec, execEpochAck]
  rw [State.receive_next _ _ _ hus.1 hus.2, hprop]
  dsimp only
  rw [if_neg (by simp), hu, htry, State.propose_idle (by rw [hufab]) (by rw [hufab]; exact hlost) (by rw [hufab]; exact hpend)]

/-- What a silent member's timeout does: a probe, and the suspicion of the coordinator. -/
def State.suspectSilent (s : State) (n : Nat) : State :=
  let s := s.startProbe n
  (s.modFab (fun f => { f with suspects := if f.suspects.contains (n, f.nodeId) then f.suspects else f.suspects ++ [(n, f.nodeId)] })).declare n

theorem State.suspectSilent_spec (s : State) (n : Nat) : s.onlyIn (s.suspectSilent n) [.fab] ∧
    (s.suspectSilent n).fab.nodeId = s.fab.nodeId ∧ (n, s.fab.nodeId) ∈ (s.suspectSilent n).fab.suspects ∧
    ∀ x ∈ s.fab.suspects, x ∈ (s.suspectSilent n).fab.suspects := by
  unfold State.suspectSilent
  extract_lets u
  have hu : s.onlyIn u [.fab] ∧ u.fab.nodeId = s.fab.nodeId ∧ u.fab.suspects = s.fab.suspects := by
    refine ⟨by simp [u], ?_⟩
    simp only [u]
    unfold State.startProbe
    split <;> exact ⟨rfl, rfl⟩
  obtain ⟨huonly, hunode, husp⟩ := hu
  generalize hv : (u.modFab fun f => { f with
    suspects := if f.suspects.contains (n, f.nodeId) then f.suspects else f.suspects ++ [(n, f.nodeId)] }) = v
  have hvonly : u.onlyIn v [.fab] := hv ▸ u.modFab_only _
  have hvnode : v.fab.nodeId = s.fab.nodeId := by rw [← hv]; exact hunode
  have hvsp : v.fab.suspects = if s.fab.suspects.contains (n, s.fab.nodeId) then s.fab.suspects else s.fab.suspects ++ [(n, s.fab.nodeId)] := by
    rw [← hv, State.modFab_fab]
    dsimp only
    rw [husp, hunode]
  obtain ⟨honly, hsp, hnode, -⟩ := v.declare_spec n
  rw [hsp, hnode, hvsp]
  refine ⟨huonly.trans (hvonly.trans honly), hvnode, ?_, fun x hx => ?_⟩
  · split
    next hc => simpa using hc
    · simp
  · split
    · exact hx
    · exact List.mem_append_left _ hx

theorem State.foldl_suspectSilent (l : List Nat) (s : State) : s.onlyIn (l.foldl State.suspectSilent s) [.fab] ∧
    (∀ x ∈ s.fab.suspects, x ∈ (l.foldl State.suspectSilent s).fab.suspects) ∧
    ∀ n ∈ l, (n, s.fab.nodeId) ∈ (l.foldl State.suspectSilent s).fab.suspects := by
  induction l generalizing s with
  | nil => exact ⟨s.onlyIn_refl _, fun _ hx => hx, nofun⟩
  | cons m l ih =>
    obtain ⟨honly, hnode, hnew, hold⟩ := s.suspectSilent_spec m
    obtain ⟨ionly, iold, inew⟩ := ih (s.suspectSilent m)
    refine ⟨honly.trans ionly, fun x hx => iold x (hold x hx), fun n hn => ?_⟩
    rcases List.mem_cons.1 hn with rfl | hn
    · exact iold _ hnew
    · rw [← hnode]; exact inew n hn

theorem immediateAckTimeout_suspects {s : State} {k : Proposal} (hprop : s.fab.prop = some k) (himm : immediate k.changes = true)
    (hp : s.passed k.at_ 5000000 = true) : Completes .immediateAckTimeout s (fun t => s.onlyIn t [.fab] ∧
      ∀ n ∈ s.fab.members, n ∉ k.acks → n ∉ s.fab.lost → (n, s.fab.nodeId) ∈ t.fab.suspects) := by
  obtain ⟨honly, -, hnew⟩ := State.foldl_suspectSilent (s.fab.members.filter (fun n => !k.acks.contains n && !s.fab.lost.contains n)) s
  refine ⟨_, ?_, honly, fun n hn hack hlost => hnew n (List.mem_filter.2 ⟨hn, by simp [hack, hlost]⟩)⟩
  simp only [exec, execImmediateAckTimeout, hprop]
  rw [if_neg (by simp [himm, hp])]
  rfl

theorem epochCommit_applied {s : State} {h : Hdr} {chg : List Change} (hus : s.forUs h) (hin : s.fab.inSystem = true)
    (hlast : s.fab.epoch + 1 ≠ 0xFFFFFFFF) :
    Completes (.epochCommit h (s.fab.epoch + 1) chg) s (fun t => t = s.commitEpoch (s.fab.epoch + 1) chg) := by
  refine ⟨_, ?_, rfl⟩
  simp only [exec, execEpochCommit]
  rw [State.receive_next _ _ _ hus.1 hus.2, if_pos hin, if_pos (by simpa using hlast)]

theorem joinReq_answered {s : State} {h : Hdr} {lo hi : Nat} (hus : s.forUs h) (hin : s.fab.inSystem = true)
    (hc : s.fab.coord = s.fab.nodeId) (hmem : s.fab.members.contains h.src = false) :
    ((s.fab.sysVer < lo ∨ hi < s.fab.sysVer) → Completes (.joinReq h lo hi) s (fun t => s.onlyIn t [.day, .daySeq])) ∧
      (lo ≤ s.fab.sysVer → s.fab.sysVer ≤ hi → s.fab.pendChg.contains (3, h.src, 0) = false →
        Completes (.joinReq h lo hi) s (fun t => t = (s.modFab (fun f => { f with pendChg := f.pendChg ++ [(3, h.src, 0)] })).propose)) := by
  have hgo : (!s.fab.inSystem || s.fab.coord != s.fab.nodeId || s.fab.members.contains h.src) = false := by rw [hin, hc, hmem]; simp
  refine ⟨fun hver => ⟨s.log 6 Db.joinRefused h.src [1], ?_, by simp⟩, fun hlo hhi hnew => ⟨_, ?_, rfl⟩⟩
  · simp only [exec, execJoinReq]
    rw [State.receive_next _ _ _ hus.1 hus.2, hgo, if_neg Bool.false_ne_true, if_pos (by simpa using hver)]
  · simp only [exec, execJoinReq]
    rw [State.receive_next _ _ _ hus.1 hus.2, hgo, if_neg Bool.false_ne_true, if_neg (by simp; omega)]
    simp only [State.modFab, hnew, Bool.false_eq_true, if_false]

theorem joinLockTimeout_ends {s : State} {t0 : Nat} (hat : s.fab.joinAt = some t0) (hin : s.fab.inSystem = false)
    (hlock : s.fab.locked = false) (hp : s.passed t0 1000000000 = true) : Completes .joinLockTimeout s (fun t => s.onlyIn t [.fab] ∧
      t.fab.notLocked = true ∧ t.fab.joinAt = none) :=
  ⟨_, by simp only [exec, execJoinLockTimeout, hat]; rw [if_pos (by simp [hin, hlock, hp])], s.modFab_only _, rfl, rfl⟩

theorem leaveReq_urgent {s : State} {h : Hdr} (hus : s.forUs h) (hin : s.fab.inSystem = true) (hc : s.fab.coord = s.fab.nodeId)
    (hmem : s.fab.members.contains h.src = true) : Completes (.leaveReq h true) s (fun t => s.onlyIn t [.fab] ∧ h.src ∈ t.fab.lost ∧
      t.fab.gatherAt.isSome = true ∧ s.sent t []) := by
  have hgo : (!s.fab.inSystem || s.fab.coord != s.fab.nodeId || !s.fab.members.contains h.src) = false := by rw [hin, hc, hmem]; simp
  refine ⟨_, by simp only [exec, execLeaveReq]; rw [State.receive_next _ _ _ hus.1 hus.2, hgo], ?_⟩
  refine ⟨by simp, mem_insN _ _, rfl, ?_⟩
  rw [State.sent, List.append_nil]
  rfl

/-- Settles O42: the proposal, its acknowledgements and commit, then joining and leaving. -/
theorem epochsAreAgreed : Obligations.EpochsAreAgreed := by
  unfold Obligations.EpochsAreAgreed
  exact fun s => ⟨fun h chg => epochPropose_taken, fun k => deferredAckTest_acks, fun h k n => epochAck_kept,
    fun k => immediateAckTimeout_suspects, fun h chg => epochCommit_applied, fun h lo hi => joinReq_answered, fun t0 => joinLockTimeout_ends,
    fun h => leaveReq_urgent⟩

end Sys2Proof.Machine
end


section

/-! SUPPORT. Snapshots: what a step of the procedure does to the partition's record, clause by clause. -/

namespace Sys2Proof.Machine

/-- A planned step stands in the partition's record; the messages that tell the members of it do not. -/
@[simp] theorem State.planStep_part (s : State) (p k : Nat) : (s.planStep p k).part p =
    { s.part p with plan := some k, planTime := s.time, doneFrom := [], await_ := none, planAt := s.time } := by
  unfold State.planStep
  rw [State.foldl_read (fun u => u.part p) fun u x => by simp]
  simp

/-- What the plan of the next step does not write, it leaves alone. -/
theorem State.planNext_read {α : Type} (g : Part → α)
    (hplan : ∀ (q : Part) (k t : Nat), g { q with plan := some k, planTime := t, doneFrom := [], await_ := none, planAt := t } = g q)
    (hival : ∀ (q : Part) (n : Nat), g { q with interval := n } = g q) (s : State) (p : Nat) : g ((s.planNext p).part p) = g (s.part p) := by
  unfold State.planNext
  dsimp only
  split
  · rw [State.planStep_part, hplan, State.modPart_part_self, hival]
  · rfl

/-- Where a node has still to answer, not every node has. -/
theorem all_contains_insN {l seen : List Nat} {n m : Nat} (hn : n ∈ l) (hne : n ≠ m) (hmem : n ∉ seen) :
    l.all (fun k => (insN m seen).contains k) = false := by
  rw [List.all_eq_false]
  exact ⟨n, hn, fun h => hmem (mem_of_mem_insN hne (by simpa using h))⟩

/-- Whether a partition is secured reads its records and its gate group alone. -/
theorem State.snaps_congr {s t : State} {l : List Area} (h : s.onlyIn t l) (hrec : .recs ∉ l) (hgrp : t.fab.groups = s.fab.groups) (p : Nat) :
    t.snaps p = s.snaps p := by
  have hrecs : t.recs = s.recs := h _ hrec
  simp only [State.snaps, State.gateGroup, State.mode, State.hasRec, State.grp, h.fld hrec, hgrp, hrecs]

/-- Securing the images of a step changes their owners' entries and no group. -/
@[simp] theorem State.commitImages_groups (s : State) (step : Nat) : (s.commitImages step).fab.groups = s.fab.groups := by
  unfold State.commitImages
  refine State.foldl_read (fun u => u.fab.groups) (fun u x => ?_) _ _
  split
  · split <;> rfl
  · rfl

theorem snapPlan_taken {s : State} {p : Pn} {h : Hdr} {step n : Nat} (hus : s.forUs h) (hsrc : h.src = s.leaderOf p) (hsnaps : s.snaps p = true) :
    Completes (.snapPlan h p step n) s (fun t => s.onlyIn t [.parts] ∧ (t.part p).plan = some step ∧ (t.part p).interval = n ∧
      (t.part p).lastSecured = (s.part p).lastSecured) := by
  refine ⟨_, by simp only [exec, execSnapPlan]; rw [State.receive_next _ _ _ hus.1 hus.2, if_pos (by simp [hsrc, hsnaps])], ?_⟩
  simp

theorem snapReq_plans {s : State} {p : Pn} {h : Hdr} {k : Nat} (hus : s.forUs h) (hl : s.leaderOf p = s.fab.nodeId) (hsnaps : s.snaps p = true)
    (hsnap : (s.part p).snap ≠ 2) (hmin : s.fab.minority = false) (hplan : (s.part p).plan = none) (haw : (s.part p).await_ = none)
    (hlast : (s.part p).lastSecured + 1 ≠ (s.part p).trainStep) : Completes (.snapReq h p k) s (fun t => s.onlyIn t [.parts, .fab] ∧
      (t.part p).plan = some ((s.part p).trainStep + 1) ∧ (t.part p).reqAt = some s.time) := by
  refine ⟨(s.planStep p ((s.part p).trainStep + 1)).modPart p (fun q => { q with reqAt := some s.time }), ?_, by simp, ?_, by simp⟩
  · simp only [exec, execSnapReq]
    rw [State.receive_next _ _ _ hus.1 hus.2, if_pos hl]
    unfold State.snapRequest
    simp [hsnaps, hsnap, hmin, hplan, haw, hlast]
  · simp [State.planStep_part]

theorem snapReqLapse_member {s : State} {p : Pn} {t0 : Nat} (hreq : (s.part p).reqAt = some t0) (hp : s.passed t0 10000000000 = true)
    (hl : s.leaderOf p ≠ s.fab.nodeId) : Completes (.snapReqLapse p) s (fun t => s.onlyIn t [.parts] ∧ (t.part p).reqAt = none ∧
      (t.part p).plan = (s.part p).plan) := by
  refine ⟨s.modPart p (fun q => { q with reqAt := none }), ?_, by simp⟩
  simp only [exec, execSnapReqLapse, hreq]
  rw [if_neg (by simp [hp])]
  exact congrArg Host.Outcome.next (if_neg fun h => hl (of_decide_eq_true (Bool.and_eq_true_iff.1 h).1))

theorem quiesceDone_sends {s : State} {p : Pn} (he : s.rack.emerg = false) (hsnap : (s.part p).snap = 1) (hq : (s.part p).quiesce = true)
    (hr : (s.part p).snapReset = false) (hrem : s.fab.remounts ≠ []) (hidle : ∀ c ∈ s.cellsOf p, (s.cell c).quiet = true) :
    Completes (.quiesceDone p) s (fun t => t = s.sendImage p) := by
  refine ⟨_, ?_, rfl⟩
  simp only [exec, execQuiesceDone]
  rw [if_neg (by simpa [he, hsnap, hq] using hidle), if_neg (by simp [he]), if_neg (by simp [hr, hrem])]

theorem quiesceDone_waits {s : State} {p : Pn} (hbusy : ∃ c ∈ s.cellsOf p, (s.cell c).quiet = false) :
    Completes (.quiesceDone p) s (fun t => t = s) := by
  have hidle : (s.cellsOf p).all (fun c => (s.cell c).quiet) = false := by simpa using hbusy
  refine ⟨s, ?_, rfl⟩
  simp only [exec, execQuiesceDone]
  rw [if_pos (by rw [hidle]; rfl)]

theorem snapStored_kept {s : State} {p : Pn} {h : Hdr} {n : Nat} (hus : s.forUs h) (hsend : (s.part p).sending = true)
    (hsrc : s.fab.remounts.contains h.src = true) (hn : n ∈ s.fab.remounts) (hne : n ≠ h.src) (hmem : n ∉ (s.part p).stored) :
    Completes (.snapStored h p (s.part p).snapStep true) s (fun t => s.onlyIn t [.parts] ∧
      (t.part p).stored = insN h.src (s.part p).stored ∧ (t.part p).sending = true) := by
  refine ⟨s.modPart p (fun q => { q with stored := insN h.src q.stored }), ?_, by simp [hsend]⟩
  simp only [exec, execSnapStored]
  rw [State.receive_next _ _ _ hus.1 hus.2, if_neg (by rw [hsend, hsrc]; simp), if_neg]
  rw [Bool.not_true, Bool.false_or, State.modPart_part_self, State.modPart_fab, all_contains_insN hn hne hmem]
  exact Bool.false_ne_true

theorem snapDone_kept {s : State} {p : Pn} {h : Hdr} {step n : Nat} (hus : s.forUs h) (hl : s.leaderOf p = s.fab.nodeId)
    (haw : (s.part p).await_ = some step) (hn : n ∈ s.survivors p) (hne : n ≠ h.src) (hmem : n ∉ (s.part p).doneFrom) :
    Completes (.snapDone h p step true) s (fun t => s.onlyIn t [.parts] ∧ (t.part p).doneFrom = insN h.src (s.part p).doneFrom ∧
      (t.part p).await_ = some step) := by
  refine ⟨s.modPart p (fun q => { q with doneFrom := insN h.src q.doneFrom, planAt := s.time }), ?_, by simp [haw]⟩
  simp only [exec, execSnapDone]
  rw [State.receive_next _ _ _ hus.1 hus.2, if_pos hl, State.memberDone, if_neg (by simp [haw]), if_neg (by simp)]
  dsimp only
  rw [if_neg]
  rw [State.modPart_part_self]
  show ¬((s.survivors p).all fun k => (insN h.src (s.part p).doneFrom).contains k) = true
  rw [all_contains_insN hn hne hmem]
  exact Bool.false_ne_true

theorem snapDone_failed {s : State} {p : Pn} {h : Hdr} {step : Nat} (hus : s.forUs h) (hl : s.leaderOf p = s.fab.nodeId)
    (haw : (s.part p).await_ = some step) : Completes (.snapDone h p step false) s (fun t => t = s.abortStep p step) := by
  refine ⟨_, ?_, rfl⟩
  simp only [exec, execSnapDone]
  rw [State.receive_next _ _ _ hus.1 hus.2, if_pos hl, State.memberDone, if_neg (by simp [haw]), if_pos (by simp)]

theorem snapLeaderTimeout_aborts {s : State} {p : Pn} {step : Nat} (haw : (s.part p).await_ = some step) (hl : s.leaderOf p = s.fab.nodeId)
    (hb : 10 * s.haltBound p (s.snapSize p) ≤ ((s.time - (s.part p).planAt : Nat) : Rat)) :
    Completes (.snapLeaderTimeout p) s (fun t => t = s.abortStep p step) := by
  refine ⟨_, ?_, rfl⟩
  simp only [exec, execSnapLeaderTimeout, haw]
  rw [if_pos (by rw [decide_eq_true hb, decide_eq_true hl]; rfl)]

theorem snapSecured_ends {s : State} {p : Pn} {h : Hdr} (hus : s.forUs h) (hsnap : (s.part p).snap ≠ 2) (hsnaps : s.snaps p = true) :
    Completes (.snapSecured h p (s.part p).snapStep) s (fun t => s.onlyIn t [.parts, .fab, .rack] ∧
      (t.part p).lastSecured = (s.part p).snapStep ∧ (t.part p).unsecured = false) := by
  have hc : s.onlyIn (s.commitImages (s.part p).snapStep) [.fab] := by simp
  have hpart := hc.part (by decide) p
  have hsn : (s.commitImages (s.part p).snapStep).snaps p = true := (State.snaps_congr hc (by decide) (s.commitImages_groups _) p).trans hsnaps
  refine ⟨s.snapSecured p (s.part p).snapStep, ?_, ?_⟩
  · simp only [exec, execSnapSecured]
    rw [State.receive_next _ _ _ hus.1 hus.2]
  · unfold State.snapSecured
    extract_lets u q v w
    rw [if_pos (by simp [q, u, hsn, hpart, hsnap])]
    have hv : s.onlyIn v [.parts, .fab] := by simp [v, u]
    have hw : s.onlyIn w [.parts, .fab, .rack] ∧ w.part p = v.part p := by
      dsimp only [w]
      split
      · exact ⟨by simpa using hv.mono (by decide), rfl⟩
      · exact ⟨hv.mono (by decide), rfl⟩
    refine ⟨by simpa using hw.1, ?_, ?_⟩
    · rw [State.planNext_read (fun q => q.lastSecured) (fun _ _ _ => rfl) (fun _ _ => rfl), State.modPart_part_self, hw.2]
      simp [v]
    · rw [State.planNext_read (fun q => q.unsecured) (fun _ _ _ => rfl) (fun _ _ => rfl), State.modPart_part_self, hw.2]
      simp [v]

theorem snapAbort_ends {s : State} {p : Pn} {h : Hdr} (hus : s.forUs h) (hsnap : (s.part p).snap ≠ 2) (hhalt : (s.part p).halting = false) :
    Completes (.snapAbort h p (s.part p).snapStep) s (fun t => s.onlyIn t [.parts, .fab] ∧ (t.part p).await_ = none ∧
      (t.part p).dirtySent = [] ∧ (t.part p).lastSecured = (s.part p).lastSecured) := by
  have hc : s.onlyIn (s.dropImages (s.part p).snapStep) [.fab] := by simp
  have hpart := hc.part (by decide) p
  refine ⟨(s.dropImages (s.part p).snapStep).modPart p (fun q => { q with
    dirty := firsts (q.dirty ++ q.dirtySent), dirtySent := [], await_ := none }), ?_, by simp, by simp [hpart]⟩
  simp only [exec, execSnapAbort]
  rw [State.receive_next _ _ _ hus.1 hus.2, State.snapAborted]
  dsimp only
  rw [hpart, if_pos (by simp [hsnap]), if_neg (by simp [hhalt])]

/-- Settles O44: the plan and its request, the quiesced partition, the answers that are waited for, and the step's end. -/
theorem snapshotsAreTaken : Obligations.SnapshotsAreTaken := by
  unfold Obligations.SnapshotsAreTaken
  exact fun s p => ⟨fun h step n => snapPlan_taken, fun h k => snapReq_plans, fun t0 => snapReqLapse_member,
    fun he hsnap hq hr hrem => ⟨quiesceDone_sends he hsnap hq hr hrem, quiesceDone_waits⟩, fun h n => snapStored_kept,
    fun h step n hus hl haw => ⟨snapDone_kept hus hl haw, snapDone_failed hus hl haw⟩, fun step => snapLeaderTimeout_aborts,
    fun h => snapSecured_ends, fun h => snapAbort_ends⟩

end Sys2Proof.Machine
end


section

/-! SUPPORT. Remounts: what a holder keeps for the owners whose images it holds. -/

namespace Sys2Proof.Machine

/-- An owner's entry after it is changed. -/
@[simp] theorem State.modOwner_owned (s : State) (n : Nat) (f : Owner → Owner) : (s.modOwner n f).owned n = f (s.owned n) := by
  simp [State.owned, State.modOwner, State.modFab, tget_tins]

@[simp] theorem State.send_owned (s : State) (ty dst : Nat) (l : List Nat) (n : Nat) : (s.send ty dst l).owned n = s.owned n := rfl

theorem remountAsk_granted {s : State} {h : Hdr} {size : Nat} (hus : s.forUs h)
    (hroom : (tfind s.fab.owners h.src).isSome = true ∨ s.fab.owners.length < s.fld 0 Ty.membership 0 3 1)
    (hfit : 3 * size ≤ s.reserveLeft h.src) :
    Completes (.remountAsk h size) s (fun t => s.onlyIn t [.fab] ∧ (t.owned h.src).size = size ∧
      s.sent t [[0x53, h.src, s.fab.epoch, s.reserveLeft h.src - 3 * size]]) := by
  refine ⟨(s.modOwner h.src (fun o => { o with size := size })).send 0x53 h.src [s.reserveLeft h.src - 3 * size], ?_, by simp, ?_, rfl⟩
  · simp only [exec, execRemountAsk]
    rw [State.receive_next _ _ _ hus.1 hus.2, if_pos (by simp [hroom, hfit])]
  · rw [State.send_owned, State.modOwner_owned]

theorem remountAsk_denied {s : State} {h : Hdr} {size : Nat} (hus : s.forUs h) (hfit : s.reserveLeft h.src < 3 * size) :
    Completes (.remountAsk h size) s (fun t => s.onlyIn t [.fab] ∧ t.fab.owners = s.fab.owners ∧
      s.sent t [[0x54, h.src, s.fab.epoch, s.reserveLeft h.src]]) := by
  refine ⟨s.send 0x54 h.src [s.reserveLeft h.src], ?_, by simp, rfl, rfl⟩
  simp only [exec, execRemountAsk]
  rw [State.receive_next _ _ _ hus.1 hus.2, if_neg (by simp; intro _; omega)]

@[simp] theorem Image.put_step (i : Image) (k : Nat) (data : List Byte) : (i.put k data).step = i.step := by
  induction data generalizing i k with
  | nil => rfl
  | cons b r ih => rw [Image.put, ih]

theorem snapData_joins {s : State} {h : Hdr} {step item off : Nat} {data : List Byte} {last : Bool} (hus : s.forUs h)
    (hown : (tfind s.fab.owners h.src).isSome = true) : Completes (.snapData h step item off data last) s (fun t => s.onlyIn t [.fab] ∧
      (t.owned h.src).images = (s.owned h.src).images ∧ ((t.owned h.src).pend.map (fun i => i.step)) = some step ∧
      s.sent t (if last = true then [[0x56, h.src, s.fab.epoch, item / 16, step, 1]] else [])) := by
  have hsome : (tfind s.fab.owners h.src).isNone = false := by simpa using hown
  refine ⟨_, by simp only [exec, execSnapData]; rw [State.receive_next _ _ _ hus.1 hus.2, hsome, if_neg Bool.false_ne_true], ?_⟩
  have hstep : ∀ o : Owner, (match o.pend with
      | some i => if i.step = step then i else { (match o.images with | i :: _ => i | [] => Image.reset) with step := step }
      | none => { (match o.images with | i :: _ => i | [] => Image.reset) with step := step }).step = step := fun o => by
    split
    · split <;> trivial
    · rfl
  cases last with
  | true =>
    refine ⟨by simp, ?_, ?_, rfl⟩
    · rw [if_pos rfl, State.send_owned, State.modOwner_owned]
    · rw [if_pos rfl, State.send_owned, State.modOwner_owned]
      exact congrArg some ((Image.put_step _ _ _).trans (hstep _))
  | false =>
    refine ⟨by simp, ?_, ?_, (List.append_nil _).symm⟩
    · rw [if_neg Bool.false_ne_true, State.modOwner_owned]
    · rw [if_neg Bool.false_ne_true, State.modOwner_owned]
      exact congrArg some ((Image.put_step _ _ _).trans (hstep _))

theorem emergRecord_kept {s : State} {h : Hdr} {data : List Byte} (hus : s.forUs h) (hown : (tfind s.fab.owners h.src).isSome = true) :
    Completes (.emergRecord h data) s (fun t => s.onlyIn t [.fab] ∧ (t.owned h.src).images = (s.owned h.src).images ∧
      tfind (t.owned h.src).emerg (leNat (data.take 1)) = some data) := by
  have hsome : (tfind s.fab.owners h.src).isNone = false := by simpa using hown
  refine ⟨_, by simp only [exec, execEmergRecord]; rw [State.receive_next _ _ _ hus.1 hus.2, hsome, if_neg Bool.false_ne_true], ?_⟩
  refine ⟨by simp, ?_, ?_⟩
  · rw [State.modOwner_owned]
  · rw [State.modOwner_owned]
    simp [tfind_tins]

theorem remountGrant_added {s : State} {h : Hdr} {n : Nat} (hus : s.forUs h) (hnew : s.fab.remounts.contains h.src = false)
    (hwant : s.fab.remounts.length < s.remountsWanted) : Completes (.remountGrant h n) s (fun t =>
      s.onlyIn t [.fab, .parts, .day, .daySeq, .gctr] ∧ t.fab.remounts = s.fab.remounts ++ [h.src]) := by
  unfold Completes
  rw [show exec (.remountGrant h n) s = execRemountGrant h n s from rfl]
  unfold execRemountGrant
  rw [State.receive_next _ _ _ hus.1 hus.2, hnew, if_neg (by simp; omega)]
  extract_lets u v
  have hv : s.onlyIn v [.fab, .parts] := by
    refine (State.onlyIn_foldl_iff fun w p => ?_).2 (by simp [u])
    simp
  have hfab : v.fab = u.fab := by
    dsimp only [v]
    exact State.foldl_read (fun w => w.fab) (fun w p => by rfl) _ _
  clear_value v
  refine ⟨_, rfl, ?_, ?_⟩
  · split
    · refine (State.onlyIn_foldl_iff fun w p => ?_).2 (by simpa using hv.mono (by decide))
      simp
    · exact hv.mono (by decide)
  · split
    · rw [State.foldl_read (fun w => w.fab.remounts) fun w p => by rfl]
      exact congrArg Fab.remounts hfab
    · exact congrArg Fab.remounts hfab

theorem remountDeny_last {s : State} {h : Hdr} {n : Nat} (hus : s.forUs h) : Completes (.remountDeny h n) s (fun t => s.onlyIn t [.fab] ∧
    h.src ∈ t.fab.asked ∧ t.fab.remounts = s.fab.remounts) := by
  refine ⟨(s.modFab (fun f => { f with asked := insN h.src f.asked })).seekRemount, ?_, by simp, ?_⟩
  · simp only [exec, execRemountDeny]
    rw [State.receive_next _ _ _ hus.1 hus.2]
  · unfold State.seekRemount
    dsimp only
    rw [State.foldl_read (fun u => u.fab.asked) fun u n => by rfl, State.foldl_read (fun u => u.fab.remounts) fun u n => by rfl]
    exact ⟨mem_insN _ _, rfl⟩

/-- Settles O45: the space asked for, the images and emergency records held, and the answers to an owner's request. -/
theorem remountsHoldImages : Obligations.RemountsHoldImages := by
  unfold Obligations.RemountsHoldImages
  exact fun s h hus => ⟨fun size => remountAsk_granted hus, fun size => remountAsk_denied hus, fun step item off data last => snapData_joins hus,
    fun data => emergRecord_kept hus, fun n => remountGrant_added hus, fun n => remountDeny_last hus⟩

end Sys2Proof.Machine
end


section

/-! SUPPORT. What ends a cell's waits changes, of a partition's record, its latency counters alone. -/

namespace Sys2Proof.Machine

section
variable {α : Type} {g : Part → α} (hg : ∀ (q : Part) x, g { q with hist := x } = g q)
include hg

theorem State.latency_part (s : State) (p measure filt ns q : Nat) : g ((s.latency p measure filt ns).part q) = g (s.part q) := by
  unfold State.latency
  refine State.foldl_read (fun u => g (u.part q)) (fun u x => ?_) _ _
  dsimp only
  split
  · rw [State.modPart_part]
    split
    next h => rw [hg, h]
    next => rfl
  · rfl

theorem State.release_part (s : State) (c q : Nat) : g ((s.release c).part q) = g (s.part q) := by
  unfold State.release
  dsimp only
  rw [((State.onlyIn_retire (List.Subset.refl _)).2 (State.onlyIn_refl _ _)).part (by decide), State.latency_part hg]

theorem State.releaseGroup_part (s : State) (n q : Nat) : g ((s.releaseGroup n).part q) = g (s.part q) := by
  unfold State.releaseGroup
  refine State.foldl_read (fun u => g (u.part q)) (fun u x => ?_) _ _
  dsimp only
  split
  · exact u.release_part hg _ _
  · rfl

theorem State.tryBarrier_part (s : State) (n q : Nat) : g ((s.tryBarrier n).part q) = g (s.part q) := by
  unfold State.tryBarrier
  dsimp only
  split
  · rfl
  · split
    · rw [State.releaseGroup_part hg]
      rw [State.foldl_read (fun u => g (u.part q)) fun u x => by rfl]
      rfl
    · rfl

theorem State.arriveAt_part (s : State) (n r q : Nat) : g ((s.arriveAt n r).part q) = g (s.part q) := by
  unfold State.arriveAt
  rw [State.tryBarrier_part hg]
  rfl

theorem State.arrive_part (s : State) (c q : Nat) : g ((s.arrive c).part q) = g (s.part q) := by
  unfold State.arrive
  dsimp only
  split
  · split
    · split
      · rw [State.arriveAt_part hg]
        rfl
      · rfl
    · rfl
  · rfl

theorem State.settleCell_part (s : State) (c q : Nat) : g ((s.settleCell c).part q) = g (s.part q) := by
  unfold State.settleCell
  dsimp only
  have hret : ∀ u : State, g ((u.retire c 0).part q) = g (u.part q) := fun u => by
    rw [((State.onlyIn_retire (s := u) (List.Subset.refl _)).2 (State.onlyIn_refl _ _)).part (by decide)]
  split
  · split
    · refine (State.foldl_read (fun u => g (u.part q)) (fun u x => ?_) _ _).trans rfl
      rw [((State.onlyIn_settle (s := u) (List.Subset.refl _)).2 (State.onlyIn_refl _ _)).part (by decide)]
    · rfl
  · split
    · rfl
    · split
      · rw [hret]
        split <;> rfl
      · split
        · rw [hret, ((State.onlyIn_deliver (s := s) (List.Subset.refl _)).2 (State.onlyIn_refl _ _)).part (by decide)]
        · split
          · exact s.arrive_part hg c q
          · rfl

theorem State.stopCell_part (s : State) (c : Nat) (toks : List Nat) (q : Nat) : g ((s.stopCell c toks).part q) = g (s.part q) := by
  unfold State.stopCell
  dsimp only
  split
  · rw [State.settleCell_part hg]
    rfl
  · rfl

end

/-! ### The replay of a step -/

/-- A partition told that its step's contributions are replayed: its record, and the rest of the partitions' records. -/
theorem State.replayState_part (s : State) (p d q : Nat) : (s.replayState p d).part q = if q = p then { s.part p with
    outbox := [], tags := [], gateDone := false, released := false, skipSent := false, stepSkip := false, applied := false } else s.part q := by
  unfold State.replayState
  dsimp only
  rw [((State.onlyIn_event (List.Subset.refl _)).2 (State.onlyIn_refl _ _)).part (by decide), eachN,
    State.foldl_read (fun u => u.part q) fun u c => by rfl, State.modPart_part]
  rfl

theorem State.replayState_undone (s : State) (q d : Nat) : ((s.replayState q d).part q).outbox = [] ∧ ((s.replayState q d).part q).tags = [] ∧
    ((s.replayState q d).part q).applied = false ∧ ((s.replayState q d).part q).stepSkip = false ∧
    ((s.replayState q d).part q).trainStep = (s.part q).trainStep := by
  rw [State.replayState_part, if_pos rfl]
  exact ⟨rfl, rfl, rfl, rfl, rfl⟩

/-- One partition's turn in a notice of replay, `hit` saying which partitions the notice is for. -/
def State.replayTurn (hit : Nat → Bool) (e : Nat × Nat × Nat) (s : State) (q : Nat) : State :=
  if hit q && !(s.part q).replaySeen.contains e then
    (eachN (s.modPart q (fun x => { x with replaySeen := x.replaySeen ++ [e] })) (s.cellsOf q) (fun s c => s.stopCell c)).replayState q 0
  else s

section
variable (hit : Nat → Bool) (e : Nat × Nat × Nat)

/-- Another partition's turn keeps what neither the latency counters nor its own replay writes. -/
theorem State.replayTurn_part_ne {α : Type} {g : Part → α} (hg : ∀ (q : Part) x, g { q with hist := x } = g q) (s : State)
    {x q : Nat} (hne : q ≠ x) :
    g ((s.replayTurn hit e x).part q) = g (s.part q) := by
  unfold State.replayTurn
  split
  · rw [State.replayState_part, if_neg hne, eachN, State.foldl_read (fun u => g (u.part q)) fun u c => u.stopCell_part hg c [] q,
      State.modPart_part, if_neg hne]
  · rfl

/-- Its own turn leaves nothing of the step and keeps the step's number. -/
theorem State.replayTurn_part_self (s : State) {q : Nat} (hhit : hit q = true) (hseen : (s.part q).replaySeen.contains e = false) :
    ((s.replayTurn hit e q).part q).outbox = [] ∧ ((s.replayTurn hit e q).part q).tags = [] ∧
    ((s.replayTurn hit e q).part q).applied = false ∧ ((s.replayTurn hit e q).part q).stepSkip = false ∧
    ((s.replayTurn hit e q).part q).trainStep = (s.part q).trainStep := by
  have hgo : (hit q && !(s.part q).replaySeen.contains e) = true := by rw [hhit, hseen]; rfl
  unfold State.replayTurn
  rw [if_pos hgo]
  obtain ⟨hout, htag, happ, hskip, hstep⟩ := State.replayState_undone
    (eachN (s.modPart q (fun x => { x with replaySeen := x.replaySeen ++ [e] })) (s.cellsOf q) (fun s c => s.stopCell c)) q 0
  refine ⟨hout, htag, happ, hskip, hstep.trans ?_⟩
  rw [eachN, State.foldl_read (fun u => (u.part q).trainStep) fun u c => u.stopCell_part (g := Part.trainStep) (fun _ _ => rfl) c [] q,
    State.modPart_part_self]

/-- The turns of other partitions, one after another. -/
theorem State.replayTurns_part_ne {α : Type} {g : Part → α} (hg : ∀ (q : Part) x, g { q with hist := x } = g q) {l : List Nat} {q : Nat}
    (hq : q ∉ l) (s : State) : g ((l.foldl (State.replayTurn hit e) s).part q) = g (s.part q) := by
  induction l generalizing s with
  | nil => rfl
  | cons x r ih =>
    rw [List.mem_cons, not_or] at hq
    rw [List.foldl_cons, ih hq.2, State.replayTurn_part_ne hit e hg s hq.1]

/-- After every partition's turn, a partition the notice is for has undone its step. -/
theorem State.replayTurns_part (s : State) {q n : Nat} (hq : q < n) (hhit : hit q = true) (hseen : (s.part q).replaySeen.contains e = false) :
    let t := (List.range n).foldl (State.replayTurn hit e) s
    (t.part q).outbox = [] ∧ (t.part q).tags = [] ∧ (t.part q).applied = false ∧ (t.part q).stepSkip = false ∧
      (t.part q).trainStep = (s.part q).trainStep := by
  obtain ⟨l, r, hl⟩ := List.append_of_mem (List.mem_range.2 hq)
  have hnd : (l ++ q :: r).Nodup := hl ▸ List.nodup_range
  have hql : q ∉ l := fun h => (List.nodup_append.1 hnd).2.2 q h q (by simp) rfl
  have hqr : q ∉ r := (List.nodup_cons.1 (List.nodup_append.1 hnd).2.1).1
  have hbefore {α : Type} (g : Part → α) (hg : ∀ (q : Part) x, g { q with hist := x } = g q) :=
    State.replayTurns_part_ne hit e hg hql s
  have hafter {α : Type} (g : Part → α) (hg : ∀ (q : Part) x, g { q with hist := x } = g q) (u : State) :=
    State.replayTurns_part_ne hit e hg hqr u
  obtain ⟨hout, htag, happ, hskip, hstep⟩ := State.replayTurn_part_self hit e (l.foldl (State.replayTurn hit e) s) hhit
    (by rw [hbefore Part.replaySeen fun _ _ => rfl]; exact hseen)
  dsimp only
  rw [hl, List.foldl_append, List.foldl_cons]
  refine ⟨(hafter Part.outbox (fun _ _ => rfl) _).trans hout, (hafter Part.tags (fun _ _ => rfl) _).trans htag,
    (hafter Part.applied (fun _ _ => rfl) _).trans happ, (hafter Part.stepSkip (fun _ _ => rfl) _).trans hskip, ?_⟩
  exact (hafter Part.trainStep (fun _ _ => rfl) _).trans (hstep.trans (hbefore Part.trainStep fun _ _ => rfl))

end

/-- Whether the notice of a node reaches a partition: a group of it has a member on that node. -/
def State.reachedBy (s : State) (n q : Nat) : Bool := s.recs.any (fun e => decide (e.1 / 2 ^ 32 = q) && keyType e.1 == Ty.group &&
  (s.members q (e.1 % 65536)).any (fun m => m.1 == n))

theorem execStepReplay_next {s : State} {h : Hdr} {p : Pn} {step : Nat} (hus : s.forUs h) :
    exec (.stepReplay h p step) s = .next ((List.range 16).foldl (State.replayTurn (s.reachedBy h.src) (h.src, p.val, step)) s) := by
  simp only [exec, execStepReplay]
  rw [State.receive_next _ _ _ hus.1 hus.2]
  rfl

theorem stepReplay_undoes {s : State} {h : Hdr} {p : Pn} {step q : Nat} (hus : s.forUs h) (hq : q < 16) (hhit : s.reachedBy h.src q = true)
    (hseen : (s.part q).replaySeen.contains (h.src, p.val, step) = false) : Completes (.stepReplay h p step) s (fun t =>
      (t.part q).outbox = [] ∧ (t.part q).tags = [] ∧ (t.part q).applied = false ∧ (t.part q).stepSkip = false ∧
      (t.part q).trainStep = (s.part q).trainStep) :=
  ⟨_, execStepReplay_next hus, State.replayTurns_part _ _ s hq hhit hseen⟩

theorem stepReplay_idle {s : State} {h : Hdr} {p : Pn} {step : Nat} (hus : s.forUs h) (hmiss : ∀ q < 16, s.reachedBy h.src q = false) :
    Completes (.stepReplay h p step) s (fun t => t = s) := by
  refine ⟨_, execStepReplay_next hus, ?_⟩
  refine List.foldlRecOn _ _ (motive := fun t => t = s) rfl ?_
  rintro t rfl q hq
  rw [State.replayTurn, hmiss q (List.mem_range.1 hq)]
  rfl

/-! ### The pieces fetched and the members' results -/

theorem fetchReq_steps {s : State} {h : Hdr} {owner step item off : Nat} (hus : s.forUs h) : Completes (.fetchReq h owner step item off 0) s (fun t =>
    s.onlyIn t [.fab] ∧ s.sent t [[0x5C, h.src, s.fab.epoch, owner, 0] ++ s.stepsHeld owner]) := by
  refine ⟨s.send 0x5C h.src ([owner, 0] ++ s.stepsHeld owner), ?_, by simp, rfl⟩
  simp only [exec, execFetchReq]
  rw [State.receive_next _ _ _ hus.1 hus.2, if_pos trivial]

theorem fetchReq_bytes {s : State} {h : Hdr} {owner step item off len : Nat} {i : Image} (hus : s.forUs h) (hlen : len ≠ 0)
    (hi : (tget s.fab.owners owner Owner.reset).images.find? (fun i => i.step == step) = some i) :
    Completes (.fetchReq h owner step item off len) s (fun t => s.onlyIn t [.fab] ∧
      s.sent t [[0x5C, h.src, s.fab.epoch, owner, 1, step, item, off] ++ (i.read item off len).map BitVec.toNat]) := by
  refine ⟨s.send 0x5C h.src ([owner, 1, step, item, off] ++ (i.read item off len).map BitVec.toNat), ?_, by simp, rfl⟩
  simp only [exec, execFetchReq]
  rw [State.receive_next _ _ _ hus.1 hus.2, if_neg hlen, hi]

theorem fetchData_kept {s : State} {h : Hdr} {p : Pn} {m : FetchMsg} {w v : Nat × Nat × Nat × Nat} (hus : s.forUs h) (hsnap : (s.part p).snap = 2)
    (hr : (s.part p).restore = 2) (hk : m.kind = 1) (hstep : m.step = (s.part p).restoreStep) (hw : w ∈ (s.part p).fetchWant)
    (hwo : w.1 = m.owner) (hwi : w.2.1 = m.item) (hwf : w.2.2.1 = m.off) (hv : v ∈ (s.part p).fetchWant) (hvo : v.1 ≠ m.owner) :
    Completes (.fetchData h p m) s (fun t => s.onlyIn t [.parts] ∧ v ∈ (t.part p).fetchWant ∧ w ∉ (t.part p).fetchWant ∧
      (t.part p).fetched = (s.part p).fetched ++ [(m.owner, m.item, m.off, m.data)]) := by
  have hany : (s.part p).fetchWant.any (fun w => w.1 == m.owner && w.2.1 == m.item && w.2.2.1 == m.off) = true :=
    List.any_eq_true.2 ⟨w, hw, by simp [hwo, hwi, hwf]⟩
  have hkeep : v ∈ (s.part p).fetchWant.filter (fun w => !(w.1 == m.owner && w.2.1 == m.item && w.2.2.1 == m.off)) :=
    List.mem_filter.2 ⟨hv, by simp [hvo]⟩
  refine ⟨s.modPart p (fun q => { q with
    fetchWant := q.fetchWant.filter (fun w => !(w.1 == m.owner && w.2.1 == m.item && w.2.2.1 == m.off))
    fetched := q.fetched ++ [(m.owner, m.item, m.off, m.data)] }), ?_, by simp, ?_⟩
  · simp only [exec, execFetchData]
    rw [State.receive_next _ _ _ hus.1 hus.2, if_neg (by simp [hsnap]), if_neg (by simp [hk]), if_neg (by simp [hr, hstep]), if_pos hk, if_pos hany]
    rw [State.modPart_part_self, if_neg]
    exact fun he => absurd (List.isEmpty_iff.1 he) (List.ne_nil_of_mem hkeep)
  · rw [State.modPart_part_self]
    exact ⟨hkeep, fun hm => by simp [hwo, hwi, hwf] at hm, rfl⟩

theorem restoreReady_kept {s : State} {h : Hdr} {p : Pn} {n : Nat} (hus : s.forUs h) (hl : s.leaderOf p = s.fab.nodeId) (hsnap : (s.part p).snap = 2)
    (hn : n ∈ s.survivors p) (hne : n ≠ h.src) (hmem : n ∉ (s.part p).readyFrom) :
    Completes (.restoreReady h p (s.part p).restoreStep true) s (fun t => s.onlyIn t [.parts] ∧
      (t.part p).readyFrom = insN h.src (s.part p).readyFrom ∧ (t.part p).snap = 2) := by
  refine ⟨s.modPart p (fun q => { q with readyFrom := insN h.src q.readyFrom }), ?_, by simp [hsnap]⟩
  simp only [exec, execRestoreReady]
  rw [State.receive_next _ _ _ hus.1 hus.2, if_pos hl, if_neg (by simp), State.memberReady]
  dsimp only
  rw [if_neg (by simp [hsnap]), if_neg (by simp), if_neg]
  rw [State.modPart_part_self]
  show ¬((s.survivors p).all fun k => (insN h.src (s.part p).readyFrom).contains k) = true
  rw [all_contains_insN hn hne hmem]
  exact Bool.false_ne_true

theorem restoreReady_failed {s : State} {h : Hdr} {p : Pn} {step : Nat} (hus : s.forUs h) (hl : s.leaderOf p ≠ s.fab.nodeId)
    (hsnap : (s.part p).snap = 2) (hr : (s.part p).restore ≠ 5) : Completes (.restoreReady h p step false) s (fun t =>
      s.onlyIn t [.parts, .day, .daySeq] ∧ (t.part p).snap = 0 ∧ (t.part p).restore = 5) := by
  refine ⟨s.failRestore p 2, ?_, by simp, ?_⟩
  · simp only [exec, execRestoreReady]
    rw [State.receive_next _ _ _ hus.1 hus.2, if_neg hl, if_neg Bool.false_ne_true]
  · unfold State.failRestore
    rw [if_pos (by simp [hsnap, hr]), State.modPart_part_self]
    exact ⟨rfl, rfl⟩

theorem resumeMsg_resumes {s : State} {h : Hdr} {p : Pn} {step t0 : Nat} (hus : s.forUs h) (hsnap : (s.part p).snap = 2) :
    Completes (.resumeMsg h p step t0) s (fun t => s.onlyIn t [.parts] ∧ (t.part p).snap = 0 ∧ (t.part p).plan = some step ∧
      (t.part p).lastSecured = (s.part p).restoreStep) := by
  refine ⟨s.resumeDomain p step, ?_, by simp, ?_⟩
  · simp only [exec, execResumeMsg]
    rw [State.receive_next _ _ _ hus.1 hus.2, if_pos hsnap]
  · unfold State.resumeDomain
    rw [State.modPart_part_self]
    exact ⟨rfl, rfl, rfl⟩

/-- Settles O46: the notice of replay, the holder's answers, the pieces and results kept, and the two ends of a restoring partition. -/
theorem recoveryRuns : Obligations.RecoveryRuns := by
  unfold Obligations.RecoveryRuns
  exact fun s h p hus => ⟨fun step q => stepReplay_undoes hus, fun step => stepReplay_idle hus, fun owner step item off => fetchReq_steps hus,
    fun owner step item off len i => fetchReq_bytes hus, fun m w v => fetchData_kept hus, fun n => restoreReady_kept hus,
    fun step => restoreReady_failed hus, fun step t0 => resumeMsg_resumes hus⟩

end Sys2Proof.Machine
end


section

/-! SUPPORT. Commands over cells: what the fetch gives, a fold that takes each cell of a set once, and a stop's end. -/

namespace Sys2Proof.Machine

/-- A command that the queue hands over is carried out. -/
theorem State.command_inr {s t : State} {p q op : Nat} {k : Cmd} (h : s.fetchCmd p q op = .inr (t, k)) (f : State → Cmd → State) :
    s.command p q op f = .next (f t k) := by
  rw [State.command, h]

/-- A command's cells, where they are the partition's own, are what it is carried out over. -/
theorem State.overCells_run {t : State} {p : Nat} {k : Cmd} (h : t.cellSet p k) (f : List Nat → State) : t.overCells p k f = f (t.cmdCells k) := by
  obtain ⟨hset, haddr, hne, hown⟩ := h
  have hin : (t.cmdCells k).any (fun c => decide (1024 ≤ c) || t.owner c != p) = false := by
    rw [List.any_eq_false]
    intro c hc
    simp [(hown c hc).2, (hown c hc).1]
  have hok : (if k.set = 1 then t.addrBad p k.a3 128 else none) = none := by
    split
    next h1 => exact haddr h1
    next => rfl
  unfold State.overCells
  rw [if_neg (by omega), hok]
  dsimp only
  rw [if_neg (by simp [hne]), hin, if_neg Bool.false_ne_true]

@[simp] theorem State.cmdCells_nodup (t : State) (k : Cmd) : (t.cmdCells k).Nodup := by
  unfold State.cmdCells
  split
  · exact List.nodup_range.map fun a b h => by simpa using h
  · exact List.nodup_range.filter _

/-- A fold whose every step changes, of the cells, the one it is at: over a set each cell of it is changed once, from what it was at first.
`I` is what the steps keep. -/
theorem State.foldl_cell {f : State → Nat → State} {F : Nat → Cell → Cell} {I : State → Prop} {l : List Nat} (hl : l.Nodup) {s : State}
    (hf : ∀ (u : State) (c : Nat), c ∈ l → I u → u.cell c = s.cell c → I (f u c) ∧
      ∀ d, (f u c).cell d = if d = c then F c (u.cell c) else u.cell d)
    (hs : I s) : I (l.foldl f s) ∧ ∀ d, (l.foldl f s).cell d = if d ∈ l then F d (s.cell d) else s.cell d := by
  induction l generalizing s with
  | nil => exact ⟨hs, fun d => by simp⟩
  | cons c r ih =>
    obtain ⟨hc, hr⟩ := List.nodup_cons.1 hl
    obtain ⟨hI, hcell⟩ := hf s c (by simp) hs rfl
    obtain ⟨hI', hcell'⟩ := ih hr (fun u d hd hu hsame => hf u d (by simp [hd]) hu
      (hsame.trans ((hcell d).trans (if_neg fun (h : d = c) => hc (h ▸ hd))))) hI
    refine ⟨hI', fun d => ?_⟩
    rw [List.foldl_cons, hcell', hcell]
    by_cases hd : d = c
    · subst hd
      rw [if_neg hc, if_pos rfl, if_pos (by simp)]
    · simp [hd]

/-- The same for a fold of changes to single cells. -/
theorem State.foldl_modCell {l : List Nat} (hl : l.Nodup) (g : Cell → Cell) (s : State) :
    s.onlyIn (l.foldl (fun s c => s.modCell c g) s) [.cells] ∧
    ∀ d, (l.foldl (fun s c => s.modCell c g) s).cell d = if d ∈ l then g (s.cell d) else s.cell d := by
  refine State.foldl_cell (F := fun _ => g) (I := fun u => s.onlyIn u [.cells]) hl
    (fun u c _ hu _ => ⟨by simpa using hu, fun d => ?_⟩) (s.onlyIn_refl _)
  rw [State.modCell_cell]

/-! ### LOAD -/

theorem load_fails {fn : Pn} {q : Fin 63} {s t : State} {k : Cmd} (hk : s.fetchCmd fn q 1 = .inr (t, k)) (ha : k.a1 ≠ 0)
    (haddr : t.addrBad fn k.a0 (min k.a1 65792) = none) (hmem : t.boot.memFault = false) (harg : t.argError k.a0 (min k.a1 65792) = none)
    (hfail : t.imageFail fn (t.rdArg k.a0 (min k.a1 65792)) ≠ 0) :
    Completes (.load fn q) s (fun u => u = t.finish fn k 2 (t.imageFail fn (t.rdArg k.a0 (min k.a1 65792)))) := by
  refine ⟨_, ?_, rfl⟩
  simp only [exec, execLoad]
  rw [State.command_inr hk, if_neg ha]
  simp only [haddr, hmem, harg, Bool.false_eq_true, if_false]
  rw [if_pos (by simpa using hfail)]

/-- The cells an image is for. -/
def imageCells (b : List Byte) : List Nat := (List.range 1024).filter (fun c => bit (leNat ((b.drop (0x20 + c / 8)).take 1)) (c % 8))

@[simp] theorem mem_imageCells {b : List Byte} {c : Nat} :
    c ∈ imageCells b ↔ c < 1024 ∧ bit (leNat ((b.drop (0x20 + c / 8)).take 1)) (c % 8) = true := by
  rw [imageCells, List.mem_filter, List.mem_range]

theorem load_loads {fn : Pn} {q : Fin 63} {s t : State} {k : Cmd} (hk : s.fetchCmd fn q 1 = .inr (t, k)) (ha : k.a1 ≠ 0)
    (haddr : t.addrBad fn k.a0 (min k.a1 65792) = none) (hmem : t.boot.memFault = false) (harg : t.argError k.a0 (min k.a1 65792) = none)
    {b : List Byte} (hb : b = t.rdArg k.a0 (min k.a1 65792)) (hfail : t.imageFail fn b = 0) (hwords : leNat ((b.drop 0xC).take 2) ≠ 0)
    (hsnap : (t.part fn).snap ≠ 2) (hsome : ∃ c, c ∈ imageCells b) (hon : ∀ c ∈ imageCells b, t.regionOn c = true) :
    Completes (.load fn q) s (fun u => s.onlyIn u [.cells, .funcs, .hostMem] ∧ ∀ c : Nat,
      (c ∈ imageCells b → u.cell c = (s.cell c).loaded b s.time) ∧ (c ∉ imageCells b → u.cell c = s.cell c)) := by
  have ht := State.fetchCmd_inr hk
  obtain ⟨c0, hc0⟩ := hsome
  have hne : (imageCells b).isEmpty = false := by
    rw [List.isEmpty_eq_false_iff]
    exact List.ne_nil_of_mem hc0
  have hgo : (decide (leNat ((b.drop 0xC).take 2) = 0) || (imageCells b).isEmpty) = false := by rw [hne, decide_eq_false hwords]; rfl
  have hreg : (imageCells b).any (fun c => !t.regionOn c) = false := by
    rw [List.any_eq_false]
    intro c hc
    simp [hon c hc]
  obtain ⟨hv, hcell⟩ := State.foldl_cell (f := fun s c => (s.modCell c (fun cl => cl.loaded b s.time)).loadPlaced fn c)
    (F := fun _ cl => cl.loaded b t.time) (I := fun u => t.onlyIn u [.cells]) (l := imageCells b) (List.nodup_range.filter _)
    (fun u c _ hu _ => ⟨by simpa using hu, fun d => by
      have hp : (u.modCell c (fun cl => cl.loaded b u.time)).loadPlaced fn c = u.modCell c (fun cl => cl.loaded b u.time) := by
        rw [State.loadPlaced]
        exact if_neg (by simp [hu.part (by decide), hsnap])
      rw [hp, State.modCell_cell, hu.time (by decide)]⟩) (t.onlyIn_refl _)
  generalize hw : (imageCells b).foldl (fun s c => (s.modCell c (fun cl => cl.loaded b s.time)).loadPlaced fn c) t = w at hv hcell
  have hw' : s.onlyIn (w.finish fn k 0 0) [.cells, .funcs, .hostMem] := by
    rw [State.onlyIn_finish (by decide)]
    exact (ht.mono (by decide)).trans (hv.mono (by decide))
  have hfin : w.onlyIn (w.finish fn k 0 0) [.funcs, .hostMem] := by simp
  have hready : (w.finish fn k 0 0).tryReady fn = w.finish fn k 0 0 := by
    rw [State.tryReady]
    exact if_neg (by simp [State.restored, hfin.part (by decide), hv.part (by decide), hsnap])
  refine ⟨w.finish fn k 0 0, ?_, hw', fun c => ⟨fun hc => ?_, fun hc => ?_⟩⟩
  · simp only [exec, execLoad]
    rw [State.command_inr hk, if_neg ha]
    simp only [haddr, hmem, harg, Bool.false_eq_true, if_false]
    rw [← hb, hfail, if_neg (by simp),
      show (List.range 1024).filter (fun c => bit (leNat ((b.drop (0x20 + c / 8)).take 1)) (c % 8)) = imageCells b from rfl, hgo, hreg,
      if_neg Bool.false_ne_true, if_neg Bool.false_ne_true, hw, hready]
  · rw [hfin.cell (by decide), hcell, if_pos hc, ht.cell (by decide), ht.time (by decide)]
  · rw [hfin.cell (by decide), hcell, if_neg hc, ht.cell (by decide)]

/-! ### START -/

theorem start_refused {fn : Pn} {q : Fin 63} {s t : State} {k : Cmd} (hk : s.fetchCmd fn q 2 = .inr (t, k)) (hset : t.cellSet fn k)
    (hno : ∃ c ∈ t.cmdCells k, (s.cell c).startable = false) : Completes (.start fn q) s (fun u => s.onlyIn u [.funcs, .hostMem]) := by
  have ht := State.fetchCmd_inr hk
  have hany : (t.cmdCells k).any (fun c => !(t.cell c).startable) = true := by simpa [ht.cell (by decide)] using hno
  refine ⟨t.refuse fn k 4, ?_, by simpa using ht.mono (by decide)⟩
  simp only [exec, execStart]
  rw [State.command_inr hk, State.overCells_run hset, hany, if_pos rfl]

/-- A cell when it starts. -/
def Cell.started (cl : Cell) : Cell := { cl with
  st := 2, stopHost := false, pc := cl.entry, flags := [], loops := [], wait := Wait.reset, startPend := false, startAt := 0 }

theorem State.startCell_eq (s : State) (c : Nat) : s.startCell c = s.modCell c Cell.started := rfl

theorem start_starts {fn : Pn} {q : Fin 63} {s t : State} {k : Cmd} (hk : s.fetchCmd fn q 2 = .inr (t, k)) (hset : t.cellSet fn k)
    (hall : ∀ c ∈ t.cmdCells k, (s.cell c).startable = true ∧ s.regionOn c = true) : Completes (.start fn q) s (fun u =>
      s.onlyIn u [.cells, .funcs, .hostMem] ∧ (∀ c, c ∉ t.cmdCells k → u.cell c = s.cell c) ∧
      (k.a0 ≤ s.time → ∀ c ∈ t.cmdCells k, (u.cell c).st = 2 ∧ (u.cell c).pc = (s.cell c).entry ∧ (u.cell c).flags = []) ∧
      (s.time < k.a0 → ∀ c ∈ t.cmdCells k, (u.cell c).st = (s.cell c).st ∧ (u.cell c).startPend = true ∧ (u.cell c).startAt = k.a0)) := by
  have ht := State.fetchCmd_inr hk
  have hable : (t.cmdCells k).any (fun c => !(t.cell c).startable) = false := by
    rw [List.any_eq_false]
    intro c hc
    simp [ht.cell (by decide), (hall c hc).1]
  have hon : (t.cmdCells k).any (fun c => !t.regionOn c) = false := by
    rw [List.any_eq_false]
    intro c hc
    have : t.regionOn c = s.regionOn c := by simp only [State.regionOn, ht.phy (by decide), ht.reg (by decide)]
    simp [this, (hall c hc).2]
  obtain ⟨hv, hcell⟩ := State.foldl_cell (f := fun s c =>
      if k.a0 ≤ s.time then s.startCell c else s.modCell c (fun cl => { cl with startPend := true, startAt := k.a0 }))
    (F := fun _ cl => if k.a0 ≤ t.time then cl.started else { cl with startPend := true, startAt := k.a0 })
    (I := fun u => t.onlyIn u [.cells]) (t.cmdCells_nodup k)
    (fun u c _ hu _ => ⟨by split <;> simpa using hu, fun d => by
      rw [hu.time (by decide)]
      split
      · rw [State.startCell_eq, State.modCell_cell]
      · rw [State.modCell_cell]⟩) (t.onlyIn_refl _)
  generalize hw : (t.cmdCells k).foldl (fun s c =>
    if k.a0 ≤ s.time then s.startCell c else s.modCell c (fun cl => { cl with startPend := true, startAt := k.a0 })) t = w at hv hcell
  have hfin : w.onlyIn (w.finish fn k 0 0) [.funcs, .hostMem] := by simp
  have hread : ∀ d, (w.finish fn k 0 0).cell d = if d ∈ t.cmdCells k then
      if k.a0 ≤ s.time then (s.cell d).started else { s.cell d with startPend := true, startAt := k.a0 } else s.cell d := fun d => by
    rw [hfin.cell (by decide), hcell, ht.cell (by decide), ht.time (by decide)]
  refine ⟨w.finish fn k 0 0, ?_, ?_, fun c hc => ?_, fun hnow c hc => ?_, fun hlater c hc => ?_⟩
  · simp only [exec, execStart]
    rw [State.command_inr hk, State.overCells_run hset, hable, hon, if_neg Bool.false_ne_true, if_neg Bool.false_ne_true, hw]
  · rw [State.onlyIn_finish (by decide)]
    exact (ht.mono (by decide)).trans (hv.mono (by decide))
  · rw [hread, if_neg hc]
  · rw [hread, if_pos hc, if_pos hnow]
    exact ⟨rfl, rfl, rfl⟩
  · rw [hread, if_pos hc, if_neg (by omega)]
    exact ⟨rfl, rfl, rfl⟩

theorem startTimeReached_starts {s : State} {c : Cid} (hpend : (s.cell c).startPend = true) (hat : (s.cell c).startAt ≤ s.time)
    (hable : (s.cell c).startable = true) : Completes (.startTimeReached c) s (fun u => s.cellOnly u c ∧ (u.cell c).st = 2 ∧
      (u.cell c).pc = (s.cell c).entry ∧ (u.cell c).startPend = false) := by
  refine ⟨s.modCell c Cell.started, ?_, s.modCell_cellOnly _ _, ?_⟩
  · simp only [exec, execStartTimeReached]
    rw [if_pos (by simp [hpend, hat, hable]), State.startCell_eq]
  · rw [State.modCell_cell, if_pos rfl]
    exact ⟨rfl, rfl, rfl⟩

/-! ### STOP and RESUME -/

/-- A draining cell whose last instruction has ended stops, and its commands complete; one with instructions in flight waits. -/
def Cell.drainEnd (cl : Cell) : Cell := if cl.flight.isEmpty then
  { cl with st := 3, stopHost := cl.draining == 2, draining := 0, wait := Wait.reset, hostStopBy := [] } else cl

theorem State.settleCell_draining {s : State} {c : Nat} (hd : (s.cell c).draining = 1 ∨ (s.cell c).draining = 2) :
    s.onlyIn (s.settleCell c) [.cells, .funcs, .hostMem] ∧ ∀ d, (s.settleCell c).cell d = if d = c then (s.cell c).drainEnd else s.cell d := by
  unfold State.settleCell
  dsimp only
  rw [if_pos (by simpa using hd)]
  split
  next he =>
    refine ⟨(State.onlyIn_foldl_iff fun u x => ?_).2 (by simp), fun d => ?_⟩
    · simp
    · rw [State.foldl_read (fun u => u.cell d) (fun u x => by
        exact ((State.onlyIn_settle (s := u) (List.Subset.refl _)).2 (u.onlyIn_refl _)).cell (by decide) d),
        State.modCell_cell, Cell.drainEnd, if_pos he]
  next he =>
    refine ⟨s.onlyIn_refl _, fun d => ?_⟩
    rw [Cell.drainEnd, if_neg he]
    split
    next h => rw [h]
    next => rfl

/-- A running cell when a STOP begins to drain it. -/
def Cell.toStop (tok : Nat) (cl : Cell) : Cell :=
  { cl with draining := if cl.draining == 1 then 1 else 2, hostStopBy := cl.hostStopBy ++ [tok] }

theorem Cell.toStop_draining (tok : Nat) (cl : Cell) : (cl.toStop tok).draining = 1 ∨ (cl.toStop tok).draining = 2 := by
  unfold Cell.toStop
  dsimp only
  split
  · exact .inl rfl
  · exact .inr rfl

/-- The cells of a set stop together: each drains, and stops at once where nothing is in flight. -/
theorem State.stopCells_spec (s : State) {cs : List Nat} (hcs : cs.Nodup) (tok : Nat) :
    s.onlyIn (s.stopCells cs tok) [.cells, .funcs, .hostMem] ∧
    ∀ d, (s.stopCells cs tok).cell d = if d ∈ cs then ((s.cell d).toStop tok).drainEnd else s.cell d := by
  obtain ⟨hv, hcell⟩ := State.foldl_modCell hcs (Cell.toStop tok) s
  unfold State.stopCells
  dsimp only
  generalize hw : cs.foldl (fun s c => s.modCell c (Cell.toStop tok)) s = w at hv hcell
  rw [show cs.foldl (fun s c => s.modCell c fun cl =>
    { cl with draining := if cl.draining == 1 then 1 else 2, hostStopBy := cl.hostStopBy ++ [tok] }) s = w from hw]
  obtain ⟨hx, hcell'⟩ := State.foldl_cell (f := State.settleCell) (F := fun _ => Cell.drainEnd)
    (I := fun u => s.onlyIn u [.cells, .funcs, .hostMem]) hcs (s := w) (fun u c hc hu hsame => by
      obtain ⟨hset, hread⟩ := State.settleCell_draining (s := u) (c := c) (by
        rw [hsame, hcell, if_pos hc]
        exact Cell.toStop_draining tok _)
      exact ⟨hu.trans hset, hread⟩) (hv.mono (by decide))
  refine ⟨hx, fun d => ?_⟩
  rw [hcell', hcell]
  split <;> rfl

/-- A cell of a STOP's set before it is stopped: a start it waited for is no more. -/
def Cell.unpend (cl : Cell) : Cell := { cl with startPend := false }

/-- What a STOP makes of a cell of its set. -/
def Cell.stopped (tok : Nat) (cl : Cell) : Cell := if cl.st = 2 ∧ cl.resetLevel = 0 then (cl.unpend.toStop tok).drainEnd else cl.unpend

theorem Cell.drainEnd_read {α : Type} {g : Cell → α}
    (hg : ∀ (x : Cell) a b d w l, g { x with st := a, stopHost := b, draining := d, wait := w, hostStopBy := l } = g x) (cl : Cell) :
    g cl.drainEnd = g cl := by
  unfold Cell.drainEnd
  split
  · exact hg ..
  · rfl

theorem Cell.stopped_read {α : Type} {g : Cell → α}
    (hg : ∀ (x : Cell) a b d w l, g { x with st := a, stopHost := b, draining := d, wait := w, hostStopBy := l } = g x)
    (hp : ∀ x : Cell, g x.unpend = g x) (ht : ∀ (x : Cell) tok, g (x.toStop tok) = g x) (tok : Nat) (cl : Cell) :
    g (cl.stopped tok) = g cl := by
  unfold Cell.stopped
  split
  · rw [Cell.drainEnd_read hg, ht, hp]
  · exact hp cl

theorem Cell.stopped_idle {tok : Nat} {cl : Cell} (hst : cl.st = 2) (hlev : cl.resetLevel = 0) (hfl : cl.flight = []) :
    (cl.stopped tok).st = 3 ∧ (cl.stopped tok).stopHost = (cl.draining != 1) := by
  have hempty : ((cl.unpend.toStop tok).flight.isEmpty) = true := by rw [show (cl.unpend.toStop tok).flight = cl.flight from rfl, hfl]; rfl
  rw [Cell.stopped, if_pos ⟨hst, hlev⟩, Cell.drainEnd, if_pos hempty]
  refine ⟨rfl, ?_⟩
  by_cases hd : cl.draining = 1 <;> simp [Cell.toStop, Cell.unpend, hd]

theorem Cell.stopped_busy {tok : Nat} {cl : Cell} (hst : cl.st = 2) (hlev : cl.resetLevel = 0) (hfl : cl.flight ≠ []) :
    (cl.stopped tok).st = 2 ∧ (cl.stopped tok).draining ≠ 0 ∧ tok ∈ (cl.stopped tok).hostStopBy := by
  have hempty : ((cl.unpend.toStop tok).flight.isEmpty) = false := by rw [show (cl.unpend.toStop tok).flight = cl.flight from rfl]; simpa using hfl
  rw [Cell.stopped, if_pos ⟨hst, hlev⟩, Cell.drainEnd, hempty, if_neg Bool.false_ne_true]
  exact ⟨hst, by rcases Cell.toStop_draining tok cl.unpend with h | h <;> rw [h] <;> decide, by simp [Cell.toStop]⟩

theorem Cell.stopped_off {tok : Nat} {cl : Cell} (hst : cl.st ≠ 2) : (cl.stopped tok).st = cl.st := by
  rw [Cell.stopped, if_neg fun h => hst h.1]
  rfl

/-- A STOP over a set of cells, each told apart by what it was. -/
theorem execHostStop_spec {fn : Pn} {q : Fin 63} {s t : State} {k : Cmd} (hk : s.fetchCmd fn q 3 = .inr (t, k)) (hset : t.cellSet fn k) :
    Completes (.hostStop fn q) s (fun u => s.onlyIn u [.cells, .funcs, .hostMem] ∧
      ∀ c, u.cell c = if c ∈ t.cmdCells k then (s.cell c).stopped k.tok else s.cell c) := by
  have ht := State.fetchCmd_inr hk
  obtain ⟨hv, hcell⟩ := State.foldl_modCell (t.cmdCells_nodup k) Cell.unpend t
  have hexec : exec (.hostStop fn q) s = .next (
      let w := (t.cmdCells k).foldl (fun s c => s.modCell c Cell.unpend) t
      let run := (t.cmdCells k).filter (fun c => (w.cell c).st == 2 && (w.cell c).resetLevel == 0)
      if run.isEmpty then w.finish fn k 0 0 else w.stopCells run k.tok) := by
    simp only [exec, execHostStop]
    rw [State.command_inr hk, State.overCells_run hset]
    rfl
  unfold Completes
  rw [hexec]
  generalize (t.cmdCells k).foldl (fun s c => s.modCell c Cell.unpend) t = w at hv hcell
  have hsw : s.onlyIn w [.cells, .funcs, .hostMem] := (ht.mono (by decide)).trans (hv.mono (by decide))
  have hread : ∀ c, w.cell c = if c ∈ t.cmdCells k then (s.cell c).unpend else s.cell c := fun c => by rw [hcell, ht.cell (by decide)]
  dsimp only
  generalize hrun : (t.cmdCells k).filter (fun c => (w.cell c).st == 2 && (w.cell c).resetLevel == 0) = run
  have hnd : run.Nodup := hrun ▸ (t.cmdCells_nodup k).filter _
  have hmem : ∀ c, c ∈ run ↔ c ∈ t.cmdCells k ∧ (s.cell c).st = 2 ∧ (s.cell c).resetLevel = 0 := fun c => by
    rw [← hrun, List.mem_filter]
    refine and_congr_right fun hc => ?_
    rw [hread, if_pos hc]
    simp [Cell.unpend]
  obtain ⟨hstop, hstopped⟩ := w.stopCells_spec hnd k.tok
  have hfin : w.onlyIn (w.finish fn k 0 0) [.funcs, .hostMem] := by simp
  refine ⟨_, rfl, ?_, fun c => ?_⟩
  · split
    · exact hsw.trans (hfin.mono (by decide))
    · exact hsw.trans hstop
  · have hcases : (if run.isEmpty = true then w.finish fn k 0 0 else w.stopCells run k.tok).cell c =
        if c ∈ run then ((w.cell c).toStop k.tok).drainEnd else w.cell c := by
      split
      next he =>
        rw [hfin.cell (by decide), List.isEmpty_iff.1 he, if_neg (by simp)]
      next => exact hstopped c
    rw [hcases, hread, Cell.stopped]
    by_cases hc : c ∈ t.cmdCells k
    · simp only [hmem, hc, true_and, if_true]
    · rw [if_neg fun h => hc ((hmem c).1 h).1, if_neg hc, if_neg hc]

theorem hostStop_stops {fn : Pn} {q : Fin 63} {s t : State} {k : Cmd} (hk : s.fetchCmd fn q 3 = .inr (t, k)) (hset : t.cellSet fn k) :
    Completes (.hostStop fn q) s (fun u =>
      s.onlyIn u [.cells, .funcs, .hostMem] ∧ (∀ c, c ∉ t.cmdCells k → u.cell c = s.cell c) ∧ ∀ c ∈ t.cmdCells k,
        (u.cell c).pc = (s.cell c).pc ∧ (u.cell c).flags = (s.cell c).flags ∧
        ((s.cell c).st = 2 → (s.cell c).resetLevel = 0 → (s.cell c).flight = [] → (u.cell c).st = 3 ∧
          (u.cell c).stopHost = ((s.cell c).draining != 1)) ∧
        ((s.cell c).st = 2 → (s.cell c).resetLevel = 0 → (s.cell c).flight ≠ [] → (u.cell c).st = 2 ∧ (u.cell c).draining ≠ 0 ∧
          k.tok ∈ (u.cell c).hostStopBy) ∧
        ((s.cell c).st ≠ 2 → (u.cell c).st = (s.cell c).st)) := by
  obtain ⟨u, hu, honly, hcell⟩ := execHostStop_spec hk hset
  refine ⟨u, hu, honly, fun c hc => by rw [hcell, if_neg hc], fun c hc => ?_⟩
  rw [hcell, if_pos hc]
  exact ⟨Cell.stopped_read (fun _ _ _ _ _ _ => rfl) (fun _ => rfl) (fun _ _ => rfl) _ _,
    Cell.stopped_read (fun _ _ _ _ _ _ => rfl) (fun _ => rfl) (fun _ _ => rfl) _ _, Cell.stopped_idle, Cell.stopped_busy, Cell.stopped_off⟩

theorem resume_refused {fn : Pn} {q : Fin 63} {s t : State} {k : Cmd} (hk : s.fetchCmd fn q 4 = .inr (t, k)) (hset : t.cellSet fn k)
    (hno : ∃ c ∈ t.cmdCells k, (s.cell c).st ≠ 3 ∨ (s.cell c).stopHost = false) :
    Completes (.resume fn q) s (fun u => s.onlyIn u [.funcs, .hostMem]) := by
  have ht := State.fetchCmd_inr hk
  have hany : (t.cmdCells k).any (fun c => (t.cell c).st != 3 || !(t.cell c).stopHost) = true := by simpa [ht.cell (by decide)] using hno
  refine ⟨t.refuse fn k 4, ?_, by simpa using ht.mono (by decide)⟩
  simp only [exec, execResume]
  rw [State.command_inr hk, State.overCells_run hset, hany, if_pos rfl]

theorem resume_resumes {fn : Pn} {q : Fin 63} {s t : State} {k : Cmd} (hk : s.fetchCmd fn q 4 = .inr (t, k)) (hset : t.cellSet fn k)
    (hall : ∀ c ∈ t.cmdCells k, (s.cell c).st = 3 ∧ (s.cell c).stopHost = true) : Completes (.resume fn q) s (fun u =>
      s.onlyIn u [.cells, .funcs, .hostMem] ∧ (∀ c, c ∉ t.cmdCells k → u.cell c = s.cell c) ∧
      ∀ c ∈ t.cmdCells k, u.cell c = { s.cell c with st := 2, stopHost := false }) := by
  have ht := State.fetchCmd_inr hk
  have hok : (t.cmdCells k).any (fun c => (t.cell c).st != 3 || !(t.cell c).stopHost) = false := by
    rw [List.any_eq_false]
    intro c hc
    simp [ht.cell (by decide), hall c hc]
  obtain ⟨hv, hcell⟩ := State.foldl_modCell (t.cmdCells_nodup k) (fun cl => { cl with st := 2, stopHost := false }) t
  generalize hw : (t.cmdCells k).foldl (fun s c => s.modCell c (fun cl => { cl with st := 2, stopHost := false })) t = w at hv hcell
  have hfin : w.onlyIn (w.finish fn k 0 0) [.funcs, .hostMem] := by simp
  refine ⟨w.finish fn k 0 0, ?_, ?_, fun c hc => ?_, fun c hc => ?_⟩
  · simp only [exec, execResume]
    rw [State.command_inr hk, State.overCells_run hset, hok, if_neg Bool.false_ne_true, hw]
  · rw [State.onlyIn_finish (by decide)]
    exact (ht.mono (by decide)).trans (hv.mono (by decide))
  · rw [hfin.cell (by decide), hcell, if_neg hc, ht.cell (by decide)]
  · rw [hfin.cell (by decide), hcell, if_pos hc, ht.cell (by decide)]

/-- Settles O48: LOAD, START at once and at its time, STOP and RESUME. -/
theorem cellsLoadStartAndStop : Obligations.CellsLoadStartAndStop := by
  unfold Obligations.CellsLoadStartAndStop
  exact fun fn q s t k => ⟨fun hk ha haddr hmem harg => ⟨load_fails hk ha haddr hmem harg, fun b hb hfail hwords hsnap hsome hon => by
      simpa only [mem_imageCells] using load_loads hk ha haddr hmem harg hb hfail hwords hsnap (by simpa only [mem_imageCells] using hsome)
        (fun c hc => hon c (mem_imageCells.1 hc).1 (mem_imageCells.1 hc).2)⟩,
    fun hk hset => ⟨start_refused hk hset, start_starts hk hset⟩, fun c => startTimeReached_starts, fun hk hset => hostStop_stops hk hset,
    fun hk hset => ⟨resume_refused hk hset, resume_resumes hk hset⟩⟩

end Sys2Proof.Machine
end


section

/-! SUPPORT. What the end of a write, a relay's loss and a fault leave of a cell: its memories, its image and the reset it is in. -/

namespace Sys2Proof.Machine

/-- `y` is `x` after a write's end or a fault: memories, image, heartbeat and the reset in progress are the same, and an EMPTY
cell is made by neither. -/
structure Cell.keeps (x y : Cell) : Prop where
  resetLevel : y.resetLevel = x.resetLevel
  resetBy : y.resetBy = x.resetBy
  spad : y.spad = x.spad
  tally : y.tally = x.tally
  heartbeat : y.heartbeat = x.heartbeat
  entry : y.entry = x.entry
  codeWords : y.codeWords = x.codeWords
  ibuf : y.ibuf = x.ibuf
  imageHdr : y.imageHdr = x.imageHdr
  imageCrc : y.imageCrc = x.imageCrc
  startPend : x.startPend = false → y.startPend = false
  st : x.st ≠ 0 → y.st ≠ 0

theorem Cell.keeps.refl (x : Cell) : x.keeps x := ⟨rfl, rfl, rfl, rfl, rfl, rfl, rfl, rfl, rfl, rfl, id, id⟩

theorem Cell.keeps.trans {x y z : Cell} (h : x.keeps y) (k : y.keeps z) : x.keeps z :=
  ⟨k.1.trans h.1, k.2.trans h.2, k.3.trans h.3, k.4.trans h.4, k.5.trans h.5, k.6.trans h.6, k.7.trans h.7, k.8.trans h.8, k.9.trans h.9,
    k.10.trans h.10, k.11 ∘ h.11, k.12 ∘ h.12⟩

/-- Of the cells only `c` differs, and it keeps what `Cell.keeps` lists. -/
structure State.cellKept (s t : State) (c : Nat) : Prop where
  other : ∀ d, d ≠ c → t.cell d = s.cell d
  self : (s.cell c).keeps (t.cell c)

section
variable {s t u : State} {c : Nat}

theorem State.cellKept_of_cells (h : t.cells = s.cells) (c : Nat) : s.cellKept t c := by
  have hd : ∀ d, t.cell d = s.cell d := fun d => by simp only [State.cell, h]
  exact ⟨fun d _ => hd d, hd c ▸ Cell.keeps.refl _⟩

theorem State.cellKept.trans (h : s.cellKept t c) (k : t.cellKept u c) : s.cellKept u c :=
  ⟨fun d hd => (k.other d hd).trans (h.other d hd), h.self.trans k.self⟩

theorem State.cellKept_modCell {f : Cell → Cell} (hf : ∀ x : Cell, x.keeps (f x)) (s : State) (c : Nat) : s.cellKept (s.modCell c f) c :=
  ⟨fun d hd => by rw [State.modCell_cell, if_neg hd], by rw [State.modCell_cell_self]; exact hf _⟩

theorem State.cellKept_count (s : State) (c ev n : Nat) (l : List (Nat × Nat)) : s.cellKept (s.count c ev n l) c := by
  refine ⟨(s.count_cellOnly c ev n l).2, ?_⟩
  rw [State.count_cell]
  exact ⟨rfl, rfl, rfl, rfl, rfl, rfl, rfl, rfl, rfl, rfl, id, id⟩

theorem State.cellKept_faultAt (s : State) (c code cause pc : Nat) (w : BitVec 128) (a unit : Nat) :
    s.cellKept (s.faultAt c code cause pc w a unit) c := by
  refine ⟨fun d hd => s.faultAt_cell_ne c code cause pc w a unit hd, ?_⟩
  by_cases hst : (s.cell c).st = 4
  · rw [s.faultAt_faulted c code cause pc w a unit hst]
    exact Cell.keeps.refl _
  · rw [s.faultAt_cell c code cause pc w a unit c hst, State.count_cell, State.setCell_cell_self]
    exact ⟨rfl, rfl, rfl, rfl, rfl, rfl, rfl, rfl, rfl, rfl, fun _ => rfl, fun _ => by simp⟩

theorem State.cellKept_addFlag (s : State) (c k n : Nat) : s.cellKept (s.addFlag c k n) c := by
  have hflags : ∀ v : Nat, s.cellKept (s.modCell c (fun cl => { cl with flags := tset cl.flags k v 0 })) c := fun v =>
    State.cellKept_modCell (fun _ => by exact ⟨rfl, rfl, rfl, rfl, rfl, rfl, rfl, rfl, rfl, rfl, id, id⟩) s c
  unfold State.addFlag
  split
  · exact State.cellKept_of_cells rfl c
  · dsimp only
    split
    · exact hflags _
    · exact (hflags _).trans (State.cellKept_faultAt ..)

theorem Cell.keeps_swapLost (cl : Cell) (lx : Nat) : cl.keeps (cl.swapLost lx) := by
  unfold Cell.swapLost
  repeat' split
  all_goals exact ⟨rfl, rfl, rfl, rfl, rfl, rfl, rfl, rfl, rfl, rfl, id, id⟩

theorem Cell.keeps_tagDone (cl : Cell) (hit : Bool) (now st : Nat) : cl.keeps { cl.tagDone hit now with wrStatus := st } := by
  unfold Cell.tagDone
  split <;> exact ⟨rfl, rfl, rfl, rfl, rfl, rfl, rfl, rfl, rfl, rfl, id, id⟩

/-- A write that ends, whatever its result. -/
theorem State.cellKept_endWrite (s : State) (c : Nat) (j : WriteJob) (res : Nat) : s.cellKept (s.endWrite c j res) c := by
  unfold State.endWrite
  extract_lets u v w
  have hv : s.cellKept v c := (State.cellKept_of_cells (t := u) (by dsimp only [u]; split <;> rfl) c).trans
    (State.cellKept_modCell (fun _ => by exact ⟨rfl, rfl, rfl, rfl, rfl, rfl, rfl, rfl, rfl, rfl, id, id⟩) u c)
  have hw : v.cellKept w c := by
    dsimp only [w]
    split
    · exact State.cellKept_modCell (fun x => by exact x.keeps_swapLost _) v c
    · exact State.cellKept_of_cells rfl c
  split
  · exact hv
  · exact (hv.trans hw).trans ((State.cellKept_modCell (fun x => by exact x.keeps_tagDone ..) w c).trans (State.cellKept_addFlag ..))

theorem State.cellKept_endCut (s : State) (c : Nat) : s.cellKept (s.endCut c) c := by
  unfold State.endCut
  split
  next j r hwq =>
    split
    · rw [State.dropJob, hwq]
      dsimp only
      exact (State.cellKept_modCell (fun _ => by exact ⟨rfl, rfl, rfl, rfl, rfl, rfl, rfl, rfl, rfl, rfl, id, id⟩) s c).trans (State.cellKept_endWrite ..)
    · exact State.cellKept_of_cells rfl c
  next => exact State.cellKept_of_cells rfl c

theorem State.cellKept_dropRelay (s : State) (c : Nat) : s.cellKept (s.dropRelay c) c := by
  unfold State.dropRelay
  extract_lets cl u
  refine State.cellKept.trans (t := u) ?_ (State.cellKept_modCell (fun _ => by exact ⟨rfl, rfl, rfl, rfl, rfl, rfl, rfl, rfl, rfl, rfl, id, id⟩) u c)
  dsimp only [u]
  split
  · exact State.cellKept_count ..
  · exact State.cellKept_of_cells rfl c

theorem State.cellKept_foldl {α : Type} {f : State → α → State} (hf : ∀ (u : State) x, u.cellKept (f u x) c) (l : List α) (s : State) :
    s.cellKept (l.foldl f s) c := by
  induction l generalizing s with
  | nil => exact State.cellKept_of_cells rfl c
  | cons x r ih => exact (hf s x).trans (ih _)

/-- The tokens of commands that end change no cell. -/
theorem State.cellKept_settles (s : State) (c p : Nat) (l : List Nat) : s.cellKept (l.foldl (fun s t => s.settle p t 0 0) s) c := by
  refine State.cellKept_of_cells (State.foldl_read (fun u => u.cells) (fun u t => ?_) l s) c
  exact ((State.onlyIn_settle (s := u) (List.Subset.refl _)).2 (u.onlyIn_refl _)).cells (by decide)

end

/-! ### The start of a reset -/

/-- A cell whose reset has begun at a level, for the commands of `toks`. -/
structure Cell.resetTo (level : Nat) (toks : List Nat) (x y : Cell) : Prop where
  resetLevel : y.resetLevel = max x.resetLevel level
  resetBy : y.resetBy = x.resetBy ++ toks
  startPend : y.startPend = false

/-- A cell's reset begins: its level is the highest asked for, the command is among those it answers, and a start it waited for is no more. -/
theorem State.beginReset_cell (s : State) (c level : Nat) (toks : List Nat) :
    (∀ d, d ≠ c → (s.beginReset c level toks).cell d = s.cell d) ∧
    (s.cell c).resetTo level toks ((s.beginReset c level toks).cell c) := by
  unfold State.beginReset
  extract_lets cl p u v fresh stops mine waiting w x
  have hu : u.cells = s.cells := by dsimp only [u]; split <;> rfl
  have hv : v.cells = s.cells := by
    dsimp only [v]
    split
    · exact (((State.onlyIn_gcount (List.Subset.refl _)).2 (State.onlyIn_refl _ _)).cells (by decide)).trans hu
    · exact hu
  have hcell : ∀ d, v.cell d = s.cell d := fun d => by simp only [State.cell, hv]
  have hx : w.cellKept x c := State.cellKept_foldl (fun u j => u.cellKept_endWrite c j 2) waiting w
  have hend := hx.trans (State.cellKept_settles x c p stops)
  generalize stops.foldl (fun s t => s.settle p t 0 0) x = y at hend
  refine ⟨fun d hd => ?_, ⟨?_, ?_, ?_⟩⟩
  · rw [hend.other d hd]
    dsimp only [w]
    rw [State.modCell_cell, if_neg hd, hcell]
  · rw [hend.self.resetLevel]
    dsimp only [w]
    rw [State.modCell_cell_self, hcell]
  · rw [hend.self.resetBy]
    dsimp only [w]
    rw [State.modCell_cell_self, hcell]
  · apply hend.self.startPend
    dsimp only [w]
    rw [State.modCell_cell_self]

/-- A fold whose every step changes, of the cells, the one it is at, as `R` says of it: over a set each cell is so changed once. -/
theorem State.foldl_cellRel {f : State → Nat → State} {R : Cell → Cell → Prop} {l : List Nat} (hl : l.Nodup)
    (hf : ∀ (u : State) (c : Nat), R (u.cell c) ((f u c).cell c) ∧ ∀ d, d ≠ c → (f u c).cell d = u.cell d) (s : State) :
    (∀ d ∈ l, R (s.cell d) ((l.foldl f s).cell d)) ∧ ∀ d, d ∉ l → (l.foldl f s).cell d = s.cell d := by
  induction l generalizing s with
  | nil => exact ⟨fun d hd => absurd hd (by simp), fun _ _ => rfl⟩
  | cons c r ih =>
    obtain ⟨hc, hr⟩ := List.nodup_cons.1 hl
    obtain ⟨hself, hother⟩ := hf s c
    obtain ⟨hin, hout⟩ := ih hr (f s c)
    refine ⟨fun d hd => ?_, fun d hd => ?_⟩
    · rw [List.foldl_cons]
      rcases List.mem_cons.1 hd with rfl | hd
      · rw [hout d hc]
        exact hself
      · rw [← hother d fun h => hc (h ▸ hd)]
        exact hin d hd
    · rw [List.mem_cons, not_or] at hd
      rw [List.foldl_cons, hout d hd.2, hother d hd.1]

end Sys2Proof.Machine
end


section

/-! SUPPORT. Resets of cells and of partitions: how they begin and how they end. -/

namespace Sys2Proof.Machine

/-- A reset over a set of cells begins at each of them. -/
theorem State.resetCells_spec (s : State) {p : Nat} {k : Cmd} {level ev : Nat} {cs : List Nat} (hcs : cs.Nodup) (hsnap : (s.part p).snap ≠ 2)
    {c : Nat} (hc : c ∈ cs) : (s.cell c).resetTo level [k.tok] ((s.resetCells p k level ev cs).cell c) := by
  rw [State.resetCells, if_neg hsnap]
  refine (State.foldl_cellRel (R := Cell.resetTo level [k.tok]) hcs (fun u c => ?_) s).1 c hc
  have hu : u.onlyIn ((u.logReset level p (some c) p).pcount p ev 1) [.day, .daySeq, .gctr] := by simp
  obtain ⟨hother, hspec⟩ := State.beginReset_cell ((u.logReset level p (some c) p).pcount p ev 1) c level [k.tok]
  rw [hu.cell (by decide)] at hspec
  exact ⟨hspec, fun d hd => (hother d hd).trans (hu.cell (by decide) d)⟩

theorem State.resetCells_refused (s : State) {p : Nat} {k : Cmd} {level ev : Nat} {cs : List Nat} (hsnap : (s.part p).snap = 2) :
    s.resetCells p k level ev cs = s.refuse p k 12 := by
  rw [State.resetCells, if_pos hsnap]

section
variable {fn : Pn} {q : Fin 63} {s t : State} {k : Cmd}

theorem execResetContext_eq (he : s.rack.emerg = false) (hk : s.fetchCmd fn q 5 = .inr (t, k)) (hset : t.cellSet fn k) :
    exec (.resetContext fn q) s = .next (t.resetCells fn k 1 PEv.resetContext (t.cmdCells k)) := by
  simp only [exec, execResetContext]
  rw [he, if_neg Bool.false_ne_true, State.command_inr hk, State.overCells_run hset]

theorem resetContext_refused (he : s.rack.emerg = false) (hk : s.fetchCmd fn q 5 = .inr (t, k)) (hset : t.cellSet fn k)
    (hsnap : (t.part fn).snap = 2) : Completes (.resetContext fn q) s (fun u => s.onlyIn u [.funcs, .hostMem]) := by
  refine ⟨_, execResetContext_eq he hk hset, ?_⟩
  rw [State.resetCells_refused t hsnap]
  exact (State.onlyIn_refuse (by decide)).2 ((State.fetchCmd_inr hk).mono (by decide))

theorem resetContext_begins (he : s.rack.emerg = false) (hk : s.fetchCmd fn q 5 = .inr (t, k)) (hset : t.cellSet fn k)
    (hsnap : (t.part fn).snap ≠ 2) : Completes (.resetContext fn q) s (fun u => ∀ c ∈ t.cmdCells k,
      (u.cell c).resetLevel = max (s.cell c).resetLevel 1 ∧ k.tok ∈ (u.cell c).resetBy ∧ (u.cell c).startPend = false) := by
  refine ⟨_, execResetContext_eq he hk hset, fun c hc => ?_⟩
  obtain ⟨hlev, hby, hpend⟩ := t.resetCells_spec (k := k) (level := 1) (ev := PEv.resetContext) (t.cmdCells_nodup k) hsnap hc
  rw [(State.fetchCmd_inr hk).cell (by decide)] at hlev
  exact ⟨hlev, by simp [hby], hpend⟩

theorem resetContext_held (he : s.rack.emerg = true) : Completes (.resetContext fn q) s (fun u => u = s) := by
  refine ⟨s, ?_, rfl⟩
  simp only [exec, execResetContext]
  rw [if_pos he]

theorem resetEngine_held (he : s.rack.emerg = true) : Completes (.resetEngine fn q) s (fun u => u = s) := by
  refine ⟨s, ?_, rfl⟩
  simp only [exec, execResetEngine]
  rw [if_pos he]

@[simp] theorem State.cmdCells_length (t : State) (k : Cmd) : (t.cmdCells { k with set := 0 }).length = k.count := by simp [State.cmdCells]

theorem State.mem_cmdCells_first (t : State) {k : Cmd} (hcount : k.count = 1) : k.first ∈ t.cmdCells { k with set := 0 } := by
  simp [State.cmdCells, hcount]

theorem resetEngine_refused (he : s.rack.emerg = false) (hk : s.fetchCmd fn q 6 = .inr (t, k)) (hset : t.cellSet fn { k with set := 0 })
    (hcount : k.count ≠ 1) : Completes (.resetEngine fn q) s (fun u => s.onlyIn u [.funcs, .hostMem]) := by
  refine ⟨t.refuse fn k 11, ?_, ?_⟩
  · simp only [exec, execResetEngine]
    rw [he, if_neg Bool.false_ne_true, State.command_inr hk, State.overCells_run hset, if_pos (by rw [State.cmdCells_length]; simpa using hcount)]
  · exact (State.onlyIn_refuse (by decide)).2 ((State.fetchCmd_inr hk).mono (by decide))

theorem resetEngine_begins (he : s.rack.emerg = false) (hk : s.fetchCmd fn q 6 = .inr (t, k)) (hset : t.cellSet fn { k with set := 0 })
    (hcount : k.count = 1) (hsnap : (t.part fn).snap ≠ 2) : Completes (.resetEngine fn q) s (fun u =>
      (u.cell k.first).resetLevel = max (s.cell k.first).resetLevel 2 ∧ k.tok ∈ (u.cell k.first).resetBy) := by
  refine ⟨t.resetCells fn k 2 PEv.resetEngine (t.cmdCells { k with set := 0 }), ?_, ?_⟩
  · simp only [exec, execResetEngine]
    rw [he, if_neg Bool.false_ne_true, State.command_inr hk, State.overCells_run hset, if_neg (by rw [State.cmdCells_length]; simp [hcount])]
  · obtain ⟨hlev, hby, -⟩ := t.resetCells_spec (k := k) (level := 2) (ev := PEv.resetEngine) (t.cmdCells_nodup { k with set := 0 }) hsnap
      (t.mem_cmdCells_first hcount)
    rw [(State.fetchCmd_inr hk).cell (by decide)] at hlev
    exact ⟨hlev, by simp [hby]⟩

end

/-! ### The end of a cell's reset -/

theorem resetComplete_waits {s : State} {c : Cid} (hd : s.drained c = false) : Completes (.resetComplete c) s (fun t => t = s) := by
  refine ⟨s, ?_, rfl⟩
  simp only [exec, execResetComplete]
  rw [if_pos (by simp [hd])]

/-- What the end of a write and of a relay leaves of the cell whose reset ends. -/
theorem State.drainedKept (s : State) (c : Nat) : s.cellKept ((s.endCut c).dropRelay c) c :=
  (s.cellKept_endCut c).trans (State.cellKept_dropRelay _ c)

/-- A cell without a write in its queue ends its reset as it is, but for the relay. -/
theorem State.endCut_idle {s : State} {c : Nat} (hwq : (s.cell c).wq = []) : s.endCut c = s := by
  rw [State.endCut, hwq]

/-- Whether an image is sound reads its header and its words. -/
theorem State.imageOk_congr {s t : State} {c : Nat} (hw : (t.cell c).codeWords = (s.cell c).codeWords) (hi : (t.cell c).ibuf = (s.cell c).ibuf)
    (hh : (t.cell c).imageHdr = (s.cell c).imageHdr) (hc : (t.cell c).imageCrc = (s.cell c).imageCrc) : t.imageOk c = s.imageOk c := by
  simp only [State.imageOk, hw, hi, hh, hc]

/-- A cell when its context reset ends, and the units of an engine reset's. -/
def Cell.contextEnd (level : Nat) (cl : Cell) : Cell :=
  if level = 2 then { cl.afterContext with unitStatus := [], timedOut := false, skip := false, rejected := false } else cl.afterContext

/-- What a context reset's end sets is the same at both levels. -/
theorem Cell.contextEnd_read {α : Type} {g : Cell → α}
    (hg : ∀ (x : Cell) a b d e, g { x with unitStatus := a, timedOut := b, skip := d, rejected := e } = g x) (level : Nat) (cl : Cell) :
    g (cl.contextEnd level) = g cl.afterContext := by
  unfold Cell.contextEnd
  split
  · exact hg ..
  · rfl

/-- The commands that a reset answers change no cell. -/
@[simp] theorem State.settles_cell (s : State) (p : Nat) (l : List Nat) (c : Nat) : (l.foldl (fun s t => s.settle p t 0 0) s).cell c = s.cell c :=
  State.foldl_read (fun u => u.cell c) (fun u t => by
    exact ((State.onlyIn_settle (s := u) (List.Subset.refl _)).2 (u.onlyIn_refl _)).cell (by decide) c) l s

theorem resetComplete_context {s : State} {c : Cid} (hd : s.drained c = true) (hb : s.boot.resetStage = 0)
    (hlev : (s.cell c).resetLevel = 1 ∨ (s.cell c).resetLevel = 2 ∧ (s.imageOk c = true ∨ (s.cell c).st = 0)) :
    Completes (.resetComplete c) s (fun t => (t.cell c).resetLevel = 0 ∧ ((s.cell c).st ≠ 0 → (t.cell c).st = 1) ∧
      ((s.cell c).st = 0 → (s.cell c).wq = [] → (t.cell c).st = 0) ∧ (t.cell c).pc = (s.cell c).entry ∧ (t.cell c).flags = [] ∧
      (t.cell c).fault = FaultRec.reset ∧ (t.cell c).spad = (s.cell c).spad ∧ (t.cell c).tally = (s.cell c).tally ∧
      (t.cell c).heartbeat = (s.cell c).heartbeat) := by
  have hidle : (s.cell c).st = 0 → (s.cell c).wq = [] → (((s.endCut c).dropRelay c).cell c).st = 0 := fun h0 hwq => by
    rw [State.endCut_idle hwq, State.dropRelay]
    rw [State.modCell_cell_self]
    split
    · rw [State.count_st, h0]
    · exact h0
  unfold Completes
  rw [show exec (.resetComplete c) s = execResetComplete c s from rfl]
  unfold execResetComplete
  extract_lets cl p toks u v w x bad y
  rw [if_neg (by rw [hd, hb]; rcases hlev with h | h <;> simp [cl, h]), if_neg (by rcases hlev with h | h <;> simp [cl, h])]
  have hx : x.cell c = ((u.cell c).contextEnd cl.resetLevel) := by
    dsimp only [x, Cell.contextEnd]
    split
    · rw [State.modCell_cell_self, State.modCell_cell_self]
    · rw [State.modCell_cell_self]
  have hkept : (s.cell c).keeps (u.cell c) := (s.drainedKept c).self
  have hst0 : (s.cell c).st = 0 → (s.cell c).wq = [] → (u.cell c).st = 0 := hidle
  clear_value x u
  have hread {α : Type} (g : Cell → α)
      (hg : ∀ (x : Cell) a b d e, g { x with unitStatus := a, timedOut := b, skip := d, rejected := e } = g x) :
      g (x.cell c) = g (u.cell c).afterContext := by rw [hx, Cell.contextEnd_read hg]
  have himg : x.imageOk c = s.imageOk c := State.imageOk_congr ((hread Cell.codeWords fun _ _ _ _ _ => rfl).trans hkept.codeWords)
    ((hread Cell.ibuf fun _ _ _ _ _ => rfl).trans hkept.ibuf) ((hread Cell.imageHdr fun _ _ _ _ _ => rfl).trans hkept.imageHdr)
    ((hread Cell.imageCrc fun _ _ _ _ _ => rfl).trans hkept.imageCrc)
  have hbad : bad = false := by
    dsimp only [bad]
    rw [himg]
    rcases hlev with h | ⟨h, hok | h0⟩
    · simp [cl, h]
    · simp [hok]
    · simp [cl, h0]
  have hy : y = x := by
    dsimp only [y]
    rw [hbad, if_neg Bool.false_ne_true]
  refine ⟨_, rfl, ?_⟩
  simp only [State.settles_cell, hy]
  have hst : (x.cell c).st = if (u.cell c).st = 0 then 0 else 1 := hread Cell.st fun _ _ _ _ _ => rfl
  refine ⟨hread Cell.resetLevel fun _ _ _ _ _ => rfl, fun h => hst.trans (if_neg (hkept.st h)), fun h hwq => hst.trans (if_pos (hst0 h hwq)),
    (hread Cell.pc fun _ _ _ _ _ => rfl).trans hkept.entry, hread Cell.flags fun _ _ _ _ _ => rfl, hread Cell.fault fun _ _ _ _ _ => rfl,
    (hread Cell.spad fun _ _ _ _ _ => rfl).trans hkept.spad, (hread Cell.tally fun _ _ _ _ _ => rfl).trans hkept.tally,
    (hread Cell.heartbeat fun _ _ _ _ _ => rfl).trans hkept.heartbeat⟩

/-- A partition that stays changes no cell when its reset ends. -/
theorem State.endPartReset_cell (s : State) {p : Nat} (hv : (s.part p).vanish = false) (c : Nat) : (s.endPartReset p).cell c = s.cell c := by
  unfold State.endPartReset
  extract_lets n u v w x
  have hu : u.part p = s.part p ∧ s.onlyIn u [.gctr] := by
    dsimp only [u]
    split <;> simp
  have hx : (x.part p).vanish = false ∧ u.onlyIn x [.parts, .recs, .fab] := by
    constructor
    · dsimp only [x, w, v]
      rw [State.modPart_part_self, ((State.onlyIn_reload (List.Subset.refl _)).2 (State.onlyIn_refl _ _)).part (by decide),
        ((State.onlyIn_dropGroups (List.Subset.refl _)).2 (State.onlyIn_refl _ _)).part (by decide), State.modPart_part_self, hu.1]
      exact hv
    · simp [x, w, v]
  rw [hx.1, if_neg Bool.false_ne_true, hx.2.cell (by decide), hu.2.cell (by decide)]

theorem resetComplete_partition {s : State} {c : Cid} (hd : s.drained c = true) (hb : s.boot.resetStage = 0) (hlev : (s.cell c).resetLevel = 3)
    (hv : (s.part (s.owner c)).vanish = false) : Completes (.resetComplete c) s (fun t => (t.cell c).st = 0 ∧ (t.cell c).spad = [] ∧
      (t.cell c).tally = [] ∧ (t.cell c).heartbeat = (s.cell c).heartbeat) := by
  have hkept := (s.drainedKept c).self
  unfold Completes
  rw [show exec (.resetComplete c) s = execResetComplete c s from rfl]
  unfold execResetComplete
  extract_lets cl p toks u v w x bad y
  rw [if_neg (by rw [hd, hb]; simp [cl, hlev]), if_pos hlev]
  have hu : s.onlyIn v [.cells, .funcs, .hostMem, .dies, .day, .daySeq] := by simp [v, u]
  have hcell : (if (v.part p).resetting && v.partDone p then v.endPartReset p else v).cell c = (u.cell c).afterPartition := by
    have hvc : v.cell c = (u.cell c).afterPartition := State.modCell_cell_self ..
    split
    · rw [State.endPartReset_cell _ (by rw [hu.part (by decide)]; exact hv), hvc]
    · exact hvc
  refine ⟨_, rfl, ?_⟩
  simp only [hcell]
  exact ⟨rfl, rfl, rfl, hkept.heartbeat⟩

/-! ### The reset of a partition -/

@[simp] theorem State.cellsOf_nodup (s : State) (p : Nat) : (s.cellsOf p).Nodup := List.nodup_range.filter _

/-- Which cells are a partition's is read in the records. -/
theorem State.onlyIn.cellsOf {s t : State} {l : List Area} (h : s.onlyIn t l) (k : .recs ∉ l) (p : Nat) : t.cellsOf p = s.cellsOf p := by
  simp only [State.cellsOf, h.owner k]

section
variable {s : State} {fn : Pn}

theorem functionLevelReset_held (hup : s.hif.up = true) (hsnap : (s.part fn).snap ≠ 2) (hvf : fn.val ≤ s.hif.numVf) (hb : s.boot.resetStage = 0)
    (hr : (s.part fn).resetting = false) (he : s.rack.emerg = true) : Completes (.functionLevelReset fn) s (fun t => s.onlyIn t [.parts] ∧
      (t.part fn).flrHeld = true) := by
  refine ⟨s.modPart fn (fun q => { q with flrHeld := true }), ?_, by simp⟩
  simp only [exec, execFunctionLevelReset]
  rw [if_neg (by simp [hup, hsnap, hb, hr]; omega), if_pos he]

theorem functionLevelReset_begins (hup : s.hif.up = true) (hsnap : (s.part fn).snap ≠ 2) (hvf : fn.val ≤ s.hif.numVf) (hb : s.boot.resetStage = 0)
    (hr : (s.part fn).resetting = false) (he : s.rack.emerg = false) (hne : s.cellsOf fn ≠ [])
    (hlev : ∀ c ∈ s.cellsOf fn, (s.cell c).resetLevel ≤ 3) :
    Completes (.functionLevelReset fn) s (fun t => (t.part fn).resetting = true ∧ ∀ c ∈ s.cellsOf fn, (t.cell c).resetLevel = 3) := by
  refine ⟨s.beginPartReset fn 16, ?_, ?_⟩
  · simp only [exec, execFunctionLevelReset]
    rw [if_neg (by simp [hup, hsnap, hb, hr]; omega), he, if_neg Bool.false_ne_true]
  unfold State.beginPartReset
  extract_lets u v w x y
  have hu : s.onlyIn u [.day, .daySeq, .gctr] := by simp [u]
  have hv : ∀ c, (v.cell c).resetLevel = (u.cell c).resetLevel := fun c =>
    State.foldl_read (fun z => (z.cell c).resetLevel) (fun z d => by exact State.modCell_read Cell.resetLevel z d c _ fun _ => by rfl) _ u
  have huv : u.onlyIn v [.cells] := by simp [v]
  have hvw : v.onlyIn w [.funcs, .hostMem] := by simp [w]
  have hsw : s.onlyIn w [.cells, .funcs, .hostMem, .day, .daySeq, .gctr] :=
    ((hu.mono (by decide)).trans (huv.mono (by decide))).trans (hvw.mono (by decide))
  have hx := State.foldl_cellRel (R := fun a b => b.resetLevel = max a.resetLevel 3) (l := w.cellsOf fn) (w.cellsOf_nodup fn)
    (f := fun s c => s.beginReset c 3 []) (fun z c => ⟨(z.beginReset_cell c 3 []).2.resetLevel, (z.beginReset_cell c 3 []).1⟩) w
  have hwy : w.onlyIn y [.cells, .parts, .funcs, .hostMem, .dies, .day, .daySeq, .gctr] := by simp [y, x]
  have hlevel : ∀ c ∈ s.cellsOf fn, (y.cell c).resetLevel = 3 := fun c hc => by
    have hcw : c ∈ w.cellsOf fn := by rwa [hsw.cellsOf (by decide)]
    have hyx : y.cell c = x.cell c := x.modPart_cell ..
    have hlast : (x.cell c).resetLevel = max (w.cell c).resetLevel 3 := hx.1 c hcw
    rw [hyx, hlast, hvw.cell (by decide), hv, hu.cell (by decide)]
    have := hlev c hc
    omega
  have hdone : y.partDone fn = false := by
    obtain ⟨c, hc⟩ := List.exists_mem_of_ne_nil _ hne
    have hsy : s.onlyIn y [.cells, .parts, .funcs, .hostMem, .dies, .day, .daySeq, .gctr] :=
      (hsw.mono (by decide)).trans hwy
    rw [State.partDone, List.all_eq_false]
    exact ⟨c, by rwa [hsy.cellsOf (by decide)], by simp [hlevel c hc]⟩
  rw [hdone, if_neg Bool.false_ne_true]
  exact ⟨by simp only [y, State.modPart_part_self], hlevel⟩

theorem functionLevelReset_restoring (hsnap : (s.part fn).snap = 2) : Completes (.functionLevelReset fn) s (fun t => t = s) := by
  refine ⟨s, ?_, rfl⟩
  simp only [exec, execFunctionLevelReset]
  rw [if_pos (by simp [hsnap])]

theorem numvfsChange_rises {n : Fin 16} (hup : s.hif.up = true) (hn : s.hif.numVf < n.val) : Completes (.numvfsChange n) s (fun t =>
    s.onlyIn t [.hif] ∧ t.hif.numVf = n.val) := by
  have hnone : (List.range 16).filter (fun p => decide (n.val < p) && decide (p ≤ s.hif.numVf)) = [] := by
    rw [List.filter_eq_nil_iff]
    intro p _
    simp
    omega
  refine ⟨s.modHif (fun h => { h with numVf := n }), ?_, by simp, rfl⟩
  simp only [exec, execNumvfsChange]
  rw [if_neg (by simp [hup]; omega), State.setNumVfs, hnone]
  rfl

end

/-- Settles O49: the commands that reset cells, their ends, the reset of a partition and the number of functions. -/
theorem resetsDrainAndEnd : Obligations.ResetsDrainAndEnd := by
  unfold Obligations.ResetsDrainAndEnd
  exact fun fn q s => ⟨fun t k he hk hset => ⟨resetContext_refused he hk hset, resetContext_begins he hk hset⟩,
    fun he => ⟨resetContext_held he, resetEngine_held he⟩,
    fun t k he hk hset => ⟨resetEngine_refused he hk hset, resetEngine_begins he hk hset⟩,
    fun c hd hb => ⟨resetComplete_context hd hb, resetComplete_partition hd hb⟩, fun c => resetComplete_waits,
    fun hup hsnap hvf hb hr => ⟨functionLevelReset_held hup hsnap hvf hb hr, functionLevelReset_begins hup hsnap hvf hb hr⟩,
    functionLevelReset_restoring, fun n => numvfsChange_rises⟩

end Sys2Proof.Machine
end


section

/-! SUPPORT. The module reset, row by row, and the power cycle it may ask for. -/

namespace Sys2Proof.Machine

section
variable {s : State}

/-- Where a module reset begins: its count, its first row and what it leaves of memory and of the tack store. -/
theorem State.beginModuleReset_spec (s : State) (who : Nat) : (s.beginModuleReset who).boot.resetStage = 1 ∧
    (s.beginModuleReset who).boot.ready = false ∧ (s.beginModuleReset who).boot.resetCount = (s.boot.resetCount + 1) % 2 ^ 32 ∧
    s.same (s.beginModuleReset who) .mem ∧ s.same (s.beginModuleReset who) .store := by
  have hall : s.onlyIn (s.beginModuleReset who) [.cells, .parts, .funcs, .hostMem, .dies, .boot, .day, .daySeq, .gctr] := by simp
  refine ⟨?_, ?_, ?_, hall _ (by decide), hall _ (by decide)⟩
  all_goals
    unfold State.beginModuleReset
    dsimp only
    rw [State.foldl_read (fun u => u.boot) (fun u c => by
        exact ((State.onlyIn_beginReset (s := u) (List.Subset.refl _)).2 (u.onlyIn_refl _)) .boot (by decide)),
      State.foldl_read (fun u => u.boot) (fun u c => by rfl)]
    rfl

theorem State.askModuleReset_begins (hb : s.boot.resetStage = 0) (haux : s.pow.aux = true) (hrun : s.boot.running = false)
    (he : s.rack.emerg = false) (hready : s.boot.ready = true) (who : Nat) : s.askModuleReset who = s.beginModuleReset who := by
  rw [State.askModuleReset, if_neg (by simp [hb, haux]), if_neg (by simp [hrun, he]), if_pos hready]

theorem State.askModuleReset_held (hb : s.boot.resetStage = 0) (haux : s.pow.aux = true) (hbusy : s.boot.running = true ∨ s.rack.emerg = true)
    (who : Nat) : s.askModuleReset who = s.modBoot (fun b => { b with resetHeld := true }) := by
  rw [State.askModuleReset, if_neg (by simp [hb, haux]), if_pos (by simpa using hbusy)]

theorem execModuleReset_asks {v : Nat} (hkey : v % 65536 = 0x5254) (hup : s.hif.up = true) :
    exec (.moduleReset 0 v) s = .next (s.askModuleReset 0) := by
  simp only [exec, execModuleReset]
  rw [if_pos (by simp [hkey, hup])]

theorem execPcieHotReset_asks (hup : s.hif.up = true) : exec .pcieHotReset s = .next (s.askModuleReset 16) := by
  simp only [exec, execPcieHotReset]
  rw [if_pos hup]

theorem moduleReset_refused {fn : Pn} {v : Nat} (h : fn.val ≠ 0 ∨ v % 65536 ≠ 0x5254) : Completes (.moduleReset fn v) s (fun t => t = s) := by
  refine ⟨s, ?_, rfl⟩
  simp only [exec, execModuleReset]
  rw [if_neg]
  simp only [Bool.and_eq_true, decide_eq_true_eq]
  rintro ⟨⟨hf, -⟩, hk⟩
  exact h.elim (fun g => g hf) fun g => g hk

/-- A module that has been reset has no queues, no counters and no link; every cell is EMPTY, its memories zero. -/
theorem State.dropModule_spec (s : State) : s.dropModule.funcs = [] ∧ s.dropModule.gctr = [] ∧ s.dropModule.hif.up = false ∧
    ∀ c : Nat, (s.dropModule.cell c).st = 0 ∧ (s.dropModule.cell c).spad = [] ∧ (s.dropModule.cell c).tally = [] := by
  unfold State.dropModule
  extract_lets u v w
  refine ⟨rfl, rfl, rfl, fun c => ?_⟩
  have hc : tget (w.cells.map (fun e => (e.1, e.2.afterModule))) c Cell.reset = (tget w.cells c Cell.reset).afterModule :=
    tget_map w.cells Cell.afterModule c Cell.reset
  simp only [State.cell, hc]
  exact ⟨rfl, rfl, rfl⟩

theorem moduleResetStage_drained (hst : s.boot.resetStage = 1) (hd : ∀ e ∈ s.cells, s.drained e.1 = true) :
    Completes .moduleResetStage s (fun t => t.boot.resetStage = 2 ∧ t.funcs = [] ∧ t.gctr = [] ∧ t.hif.up = false ∧
      ∀ c : Nat, (t.cell c).st = 0 ∧ (t.cell c).spad = [] ∧ (t.cell c).tally = []) := by
  refine ⟨s.dropModule.modBoot (fun b => { b with resetStage := 2 }), ?_, ?_⟩
  · simp only [exec, execModuleResetStage, hst]
    rw [if_pos (by simpa using hd)]
  · have hspec := s.dropModule_spec
    generalize s.dropModule = u at hspec
    exact ⟨rfl, hspec⟩

theorem moduleResetStage_waits (hst : s.boot.resetStage = 1) (hd : ∃ e ∈ s.cells, s.drained e.1 = false) :
    Completes .moduleResetStage s (fun t => t = s) := by
  have hall : s.cells.all (fun e => s.drained e.1) = false := by
    rw [List.all_eq_false]
    obtain ⟨e, he, h⟩ := hd
    exact ⟨e, he, by simp [h]⟩
  refine ⟨s, ?_, rfl⟩
  simp only [exec, execModuleResetStage, hst]
  rw [hall, if_neg Bool.false_ne_true]

theorem moduleResetStage_next (hst : s.boot.resetStage = 3 ∨ s.boot.resetStage = 5) : Completes .moduleResetStage s (fun t =>
    s.onlyIn t [.boot] ∧ t.boot.resetStage = s.boot.resetStage + 1) := by
  refine ⟨s.modBoot (fun b => { b with resetStage := s.boot.resetStage + 1 }), ?_, by simp, rfl⟩
  rcases hst with h | h <;> simp only [exec, execModuleResetStage, h]

theorem moduleResetStage_link (hst : s.boot.resetStage = 4) : Completes .moduleResetStage s (fun t => s.onlyIn t [.boot, .hif] ∧
    t.boot.resetStage = 5 ∧ t.hif.up = (!s.hif.perst && !s.hif.fail)) := by
  refine ⟨(s.modHif (fun h => { h with up := !h.perst && !h.fail })).modBoot (fun b => { b with resetStage := 5 }), ?_, by simp, rfl, rfl⟩
  simp only [exec, execModuleResetStage, hst]

/-- A module that has become ready is neither being reset nor being brought up. -/
theorem State.becomeReady_boot (s : State) : s.becomeReady.boot.ready = true ∧ s.becomeReady.boot.resetStage = 0 ∧
    s.becomeReady.boot.running = false := by
  unfold State.becomeReady
  extract_lets u v w low revoke x y z
  have hu : u.onlyIn v [.groom] := by
    dsimp only [v]
    split <;> simp
  have hv : v.onlyIn w [.groom] := by simp [w]
  have hz : w.onlyIn z [.recs, .groom] := by simp [z, y, x]
  have hall : u.onlyIn (((z.event 0 0xB 0 0 0).log 0 Db.ready 0).platform 7 0).tryJoin [.recs, .groom, .funcs, .hostMem, .fab, .day, .daySeq] := by
    simpa using ((hu.mono (by decide)).trans (hv.mono (by decide))).trans (hz.mono (by decide))
  rw [show State.boot _ = u.boot from hall .boot (by decide)]
  exact ⟨rfl, rfl, rfl⟩

theorem moduleResetStage_last (hst : s.boot.resetStage = 6) :
    Completes .moduleResetStage s (fun t => t.boot.ready = true ∧ t.boot.resetStage = 0) := by
  obtain ⟨hready, hstage, -⟩ := s.becomeReady_boot
  refine ⟨s.becomeReady, ?_, hready, hstage⟩
  simp only [exec, execModuleResetStage, hst]

/-- A power cycle that is asked for drives its request line. -/
theorem State.askPowerCycle_spec (s : State) (cause : Nat) : s.onlyIn (s.askPowerCycle cause) [.groom, .day, .daySeq] ∧
    (s.askPowerCycle cause).groom.pwrReq = true := by
  refine ⟨by simp, ?_⟩
  unfold State.askPowerCycle
  dsimp only
  split <;> rfl

theorem moduleResetOverrun_cycles (hst : s.boot.resetStage ≠ 0) : Completes .moduleResetOverrun s (fun t => s.onlyIn t [.groom, .day, .daySeq] ∧
    t.groom.pwrReq = true) := by
  refine ⟨_, ?_, s.askPowerCycle_spec 1⟩
  simp only [exec, execModuleResetOverrun]
  rw [if_neg hst]

theorem pwrCycleReq_cycles {v : Nat} (hkey : v % 65536 = 0x5043) (hup : s.hif.up = true) : Completes (.pwrCycleReq 0 v) s (fun t =>
    s.onlyIn t [.groom, .day, .daySeq] ∧ t.groom.pwrReq = true) := by
  refine ⟨_, ?_, s.askPowerCycle_spec 0⟩
  simp only [exec, execPwrCycleReq]
  rw [if_pos (by simp [hkey, hup])]

end

/-- Settles O50: how a module reset begins or is held, its rows, its overrun and the power cycle the host asks for. -/
theorem moduleResetRuns : Obligations.ModuleResetRuns := by
  unfold Obligations.ModuleResetRuns
  refine fun s => ⟨fun v hkey hup hb haux => ⟨fun hrun he hready => ⟨⟨_, execModuleReset_asks hkey hup, ?_⟩, ⟨_, execPcieHotReset_asks hup, ?_⟩⟩,
    fun hbusy => ⟨⟨_, execModuleReset_asks hkey hup, ?_⟩, ⟨_, execPcieHotReset_asks hup, ?_⟩⟩⟩, fun fn v => moduleReset_refused,
    moduleResetStage_drained, moduleResetStage_waits, moduleResetStage_next, moduleResetStage_link, moduleResetStage_last,
    moduleResetOverrun_cycles, fun v => pwrCycleReq_cycles⟩
  · rw [State.askModuleReset_begins hb haux hrun he hready]
    exact s.beginModuleReset_spec 0
  · rw [State.askModuleReset_begins hb haux hrun he hready]
    exact s.beginModuleReset_spec 16
  · rw [State.askModuleReset_held hb haux hbusy]
    exact ⟨by simp, rfl⟩
  · rw [State.askModuleReset_held hb haux hbusy]
    exact ⟨by simp, rfl⟩

end Sys2Proof.Machine
end


section

/-! SUPPORT. Queue pairs, the memory window and the PCI Express link. -/

namespace Sys2Proof.Machine

/-! ### What the completions posted to a queue leave of it -/

section
variable {α : Type}

theorem State.modQueue_queue_read {g : Queue → α} {f : Queue → Queue} (hf : ∀ x, g (f x) = g x) (s : State) (p q a b : Nat) :
    g ((s.modQueue p q f).queue a b) = g (s.queue a b) := by
  rw [State.modQueue_queue]
  split
  next h => rw [hf, h.1, h.2]
  next => rfl

section
variable {g : Queue → α}
  (hg : ∀ (x : Queue) a b c d e f, g { x with cqTail := a, phase := b, cwait := c, unsig := d, unsigAt := e, open_ := f } = g x)
include hg

theorem State.placeCqe_queue (s : State) (p q : Nat) (e : Cqe) (a b : Nat) : g ((s.placeCqe p q e).queue a b) = g (s.queue a b) := by
  have hfire : ∀ (u : State) v, (u.fire p v).queue a b = u.queue a b := fun u v => by
    rw [State.queue, State.fire, State.modFunc_func]
    split
    next h => rw [h]; rfl
    next => rfl
  unfold State.placeCqe
  extract_lets k u wrap now uns co v
  have hv : g (v.queue a b) = g (s.queue a b) := State.modQueue_queue_read (s := u) (by exact fun x => hg x ..) p q a b
  split
  · rw [hfire, hv]
  · exact hv

theorem State.postCqe_queue (s : State) (p q : Nat) (e : Cqe) (a b : Nat) : g ((s.postCqe p q e).queue a b) = g (s.queue a b) := by
  unfold State.postCqe
  dsimp only
  split
  · rfl
  · split
    · exact State.modQueue_queue_read (by exact fun x => hg x ..) s p q a b
    · exact s.placeCqe_queue hg p q e a b

theorem State.complete_queue (s : State) (p q cid st cause i0 i1 : Nat) (irq : Bool) (a b : Nat) :
    g ((s.complete p q cid st cause i0 i1 irq).queue a b) = g (s.queue a b) := by
  unfold State.complete
  dsimp only
  rw [State.postCqe_queue hg]
  exact State.modQueue_queue_read (by exact fun x => hg x ..) s p q a b

theorem State.drainCqe_queue (n : Nat) (s : State) (p q a b : Nat) : g ((s.drainCqe p q n).queue a b) = g (s.queue a b) := by
  induction n generalizing s with
  | zero => rfl
  | succ n ih =>
    unfold State.drainCqe
    dsimp only
    split
    · rfl
    · split
      · rfl
      · rw [ih, State.placeCqe_queue hg]
        exact State.modQueue_queue_read (by exact fun x => hg x ..) s p q a b

end

section
variable {g : Func → α} (hg : ∀ (x : Func) a b, g { x with qs := a, irq := b } = g x)
include hg

theorem State.modQueue_func_read (s : State) (p q : Nat) (f : Queue → Queue) (a : Nat) : g ((s.modQueue p q f).func a) = g (s.func a) := by
  rw [State.modQueue, State.modFunc_func]
  split
  next h => rw [h]; exact hg _ _ (s.func p).irq
  next => rfl

theorem State.complete_func (s : State) (p q cid st cause i0 i1 : Nat) (irq : Bool) (a : Nat) :
    g ((s.complete p q cid st cause i0 i1 irq).func a) = g (s.func a) := by
  have hplace : ∀ (u : State) e, g ((u.placeCqe p q e).func a) = g (u.func a) := fun u e => by
    unfold State.placeCqe
    extract_lets k v wrap now uns co w
    have hw : g (w.func a) = g (u.func a) := State.modQueue_func_read hg v p q _ a
    split
    · rw [State.fire, State.modFunc_func]
      split
      next h => rw [← hw, h]; exact hg _ (w.func p).qs _
      next => exact hw
    · exact hw
  unfold State.complete State.postCqe
  dsimp only
  split
  · exact s.modQueue_func_read hg ..
  · split
    · rw [State.modQueue_func_read hg, State.modQueue_func_read hg]
    · rw [hplace, State.modQueue_func_read hg]

end

end

/-! ### Queue pairs -/

section
variable {s : State} {fn : Pn} {q : Fin 63}

theorem qCreate_waits (hq : q.val ≠ 0) (h0 : (s.queue fn 0).st = 0) : Completes (.qCreate fn q) s (fun t => t = s) := by
  refine ⟨s, ?_, rfl⟩
  simp only [exec, execQCreate]
  rw [if_pos (by simp [hq, h0])]

theorem qCreate_creates (hup : s.fnUp fn = true) (hst : (s.queue fn q).st = 0) (hsq : (s.queue fn q).sqLog ≤ 12) (hcq : (s.queue fn q).cqLog ≤ 12)
    (hvec : (s.queue fn q).vec < (if fn.val = 0 then 64 else 16)) (hbase : (s.queue fn q).cqBase % 4096 = 0) (hco : (s.queue fn q).coUs ≤ 1000)
    (h0 : q.val = 0 ∨ (s.queue fn 0).st ≠ 0) : Completes (.qCreate fn q) s (fun t => s.onlyIn t [.funcs, .hostMem] ∧ (t.queue fn q).st = 1 ∧
      (t.queue fn q).head = 0 ∧ (t.queue fn q).sqTail = 0 ∧ (t.func fn).aborted = (s.func fn).aborted.filter (fun e => e.1 != q.val)) := by
  unfold Completes
  rw [show exec (.qCreate fn q) s = execQCreate fn q s from rfl]
  unfold execQCreate
  extract_lets k u due v
  rw [if_neg]
  · refine ⟨_, rfl, (State.onlyIn_foldl_iff fun w e => by simp).2 (by simp [v, u]), ?_⟩
    have hv : v.queue fn q = u.queue fn q := by
      simp only [v, State.queue, State.modFunc_func_self]
    have hu : (u.queue fn q).st = 1 ∧ (u.queue fn q).head = 0 ∧ (u.queue fn q).sqTail = 0 := by
      simp only [u, State.modQueue_queue_self]
      trivial
    have hread {α : Type} (g : Queue → α)
        (hg : ∀ (x : Queue) a b c d e f, g { x with cqTail := a, phase := b, cwait := c, unsig := d, unsigAt := e, open_ := f } = g x) :
        g ((due.foldl (fun s e => s.complete fn q e.2 4 0 0 0 true) v).queue fn q) = g (u.queue fn q) := by
      rw [State.foldl_read (fun w => g (w.queue fn q)) fun w e => by exact w.complete_queue hg .., hv]
    refine ⟨(hread Queue.st fun _ _ _ _ _ _ _ => rfl).trans hu.1, (hread Queue.head fun _ _ _ _ _ _ _ => rfl).trans hu.2.1,
      (hread Queue.sqTail fun _ _ _ _ _ _ _ => rfl).trans hu.2.2, ?_⟩
    rw [State.foldl_read (fun w => (w.func fn).aborted) fun w e => by exact w.complete_func (g := Func.aborted) (fun _ _ _ => rfl) ..]
    simp only [v, State.modFunc_func_self, u]
    rw [State.modQueue_func_read (g := Func.aborted) fun _ _ _ => rfl]
  · simp only [Bool.or_eq_true, not_or, decide_eq_true_eq, not_le, not_lt, k]
    exact ⟨⟨⟨⟨⟨⟨⟨by simp [hup], by simp [hst]⟩, hsq⟩, hcq⟩, hvec⟩, by simp [hbase]⟩, hco⟩, by rcases h0 with h | h <;> simp [h]⟩

theorem qDelete_deletes (hup : s.fnUp fn = true) (hst : (s.queue fn q).st ≠ 0) : Completes (.qDelete fn q) s (fun t => s.onlyIn t [.funcs] ∧
    (t.queue fn q).st = 0) := by
  refine ⟨s.modQueue fn q Queue.gone, ?_, by simp, by rw [State.modQueue_queue_self]; rfl⟩
  simp only [exec, execQDelete]
  rw [if_pos (by simp [hup, hst])]

/-- The host's own writes reach the module with the doorbell and change host memory alone. -/
theorem State.hostWrites_only (s : State) (host : List (Nat × List Byte)) : s.onlyIn (host.foldl (fun s e => s.wrHost e.1 e.2) s) [.hostMem] :=
  (State.onlyIn_foldl_iff fun u e => by simp).2 (s.onlyIn_refl _)

theorem sqDoorbell_moves {tail : Nat} {en : List Byte} {host : List (Nat × List Byte)} (hup : s.fnUp fn = true) (hst : (s.queue fn q).st = 1)
    (ht : tail < (s.queue fn q).sqLen) : Completes (.sqDoorbell fn q tail en host) s (fun t => s.onlyIn t [.funcs, .hostMem] ∧
      (t.queue fn q).sqTail = tail ∧ (t.queue fn q).head = (s.queue fn q).head ∧ (t.queue fn q).st = 1) := by
  have hh := s.hostWrites_only host
  generalize hw : host.foldl (fun s e => s.wrHost e.1 e.2) s = w at hh
  have hq : w.queue fn q = s.queue fn q := by simp only [State.queue, hh.func (by decide)]
  refine ⟨w.modQueue fn q (fun k => { k with
    ring := ringPut k.ring (64 * k.sqLen) (64 * k.sqTail) (en.take (64 * k.sqLen)), sqTail := tail }), ?_, ?_, ?_⟩
  · simp only [exec, execSqDoorbell]
    rw [hup, if_neg (by simp), hw, if_neg (by simp [hst]), if_neg (by omega)]
  · exact (State.onlyIn_modQueue (by decide)).2 (hh.mono (by decide))
  · rw [State.modQueue_queue_self, hq]
    exact ⟨rfl, rfl, hst⟩

theorem sqDoorbell_error {tail : Nat} {en : List Byte} {host : List (Nat × List Byte)} (hup : s.fnUp fn = true) (hst : (s.queue fn q).st = 1)
    (ht : (s.queue fn q).sqLen ≤ tail) : Completes (.sqDoorbell fn q tail en host) s (fun t => s.onlyIn t [.funcs, .hostMem] ∧
      (t.queue fn q).st = 2) := by
  have hh := s.hostWrites_only host
  generalize hw : host.foldl (fun s e => s.wrHost e.1 e.2) s = w at hh
  refine ⟨w.modQueue fn q (fun k => { k with st := 2 }), ?_, ?_, by rw [State.modQueue_queue_self]⟩
  · simp only [exec, execSqDoorbell]
    rw [hup, if_neg (by simp), hw, if_neg (by simp [hst]), if_pos ht]
  · exact (State.onlyIn_modQueue (by decide)).2 (hh.mono (by decide))

theorem cqHeadDoorbell_moves {head : Nat} (hup : s.fnUp fn = true) (hst : (s.queue fn q).st = 1) (hh : head < (s.queue fn q).cqLen) :
    Completes (.cqHeadDoorbell fn q head) s (fun t => s.onlyIn t [.funcs, .hostMem] ∧ (t.queue fn q).cqHead = head) := by
  refine ⟨(s.modQueue fn q (fun k => { k with cqHead := head })).drainCqe fn q (s.queue fn q).cwait.length, ?_, by simp, ?_⟩
  · simp only [exec, execCqHeadDoorbell]
    rw [if_neg (by simp [hup, hst]; omega)]
  · rw [State.drainCqe_queue (g := Queue.cqHead) (fun _ _ _ _ _ _ _ => rfl), State.modQueue_queue_self]

theorem cqCoalesceTimer_fires (hup : s.fnUp fn = true) (hst : (s.queue fn q).st = 1) (hun : (s.queue fn q).unsig ≠ 0)
    (hco : (s.queue fn q).coUs ≠ 0)
    (hp : s.passed (s.queue fn q).unsigAt ((s.queue fn q).coUs * 1000) = true) : Completes (.cqCoalesceTimer fn q) s (fun t =>
      s.onlyIn t [.funcs] ∧ (t.queue fn q).unsig = 0 ∧ (t.func fn).irq = (s.func fn).irq ++ [(s.queue fn q).vec]) := by
  refine ⟨(s.modQueue fn q (fun k => { k with unsig := 0 })).fire fn (s.queue fn q).vec, ?_, by simp, ?_, ?_⟩
  · simp only [exec, execCqCoalesceTimer]
    rw [if_pos (by simp [hup, hst, hun, hco, hp])]
  · rw [State.queue, State.fire, State.modFunc_func_self]
    exact congrArg Queue.unsig (State.modQueue_queue_self s fn q _)
  · rw [State.fire, State.modFunc_func_self]
    dsimp only
    rw [State.modQueue, State.modFunc_func_self]

end

/-! ### The memory window -/

section
variable {s : State} {fn : Pn} {off len : Nat} {l : List Byte}

theorem bar4Access_reads (hup : s.fnUp fn = true) (hlen : 0 < len) (hin : off + len ≤ 2 ^ s.barLog fn)
    (hown : ∀ i < len, s.ownsMem fn ((s.func fn).winBase + off + i) 1 = true) (hok : s.badIn ((s.func fn).winBase + off) len = none) :
    Completes (.bar4Access fn off len none) s (fun t => s.onlyIn t [.hif] ∧ t.hif.rdStatus = 0 ∧
      t.hif.rdData = s.rdMem ((s.func fn).winBase + off) len) := by
  have hbad : (List.range len).find? (fun i => !s.ownsMem fn ((s.func fn).winBase + off + i) 1) = none := by
    rw [List.find?_eq_none]
    intro i hi
    simp [hown i (List.mem_range.1 hi)]
  refine ⟨s.hostRead 0 (s.rdMem ((s.func fn).winBase + off) len), ?_, by simp, rfl, rfl⟩
  simp only [exec, execBar4Access]
  rw [if_neg (by simp [hup]; omega), if_neg (by omega)]
  simp only [hbad, hok]

theorem bar4Access_refused (hup : s.fnUp fn = true) (hlen : 0 < len) (hin : off + len ≤ 2 ^ s.barLog fn)
    (hout : ∃ i < len, s.ownsMem fn ((s.func fn).winBase + off + i) 1 = false) : Completes (.bar4Access fn off len none) s (fun t =>
      s.onlyIn t [.hif, .gctr, .day, .daySeq] ∧ t.hif.rdStatus = 1 ∧ t.hif.rdData = []) := by
  obtain ⟨i, hi, hno⟩ := hout
  obtain ⟨j, hbad⟩ : ∃ j, (List.range len).find? (fun i => !s.ownsMem fn ((s.func fn).winBase + off + i) 1) = some j := by
    rw [← Option.isSome_iff_exists, List.find?_isSome]
    exact ⟨i, List.mem_range.2 hi, by simp [hno]⟩
  refine ⟨(s.hostRead 1 []).winViolation fn ((s.func fn).winBase + off + j), ?_, by simp, ?_⟩
  · simp only [exec, execBar4Access]
    rw [if_neg (by simp [hup]; omega), if_neg (by omega)]
    simp only [hbad]
  · have hw : (s.hostRead 1 []).onlyIn ((s.hostRead 1 []).winViolation fn ((s.func fn).winBase + off + j)) [.day, .daySeq, .gctr] := by simp
    rw [show State.hif _ = _ from hw .hif (by decide)]
    exact ⟨rfl, rfl⟩

/-- Bytes written one by one where `ok` allows it: each byte of memory as a whole write leaves it, or as it was. -/
theorem State.wrAllowed_rd8 (ok : Nat → Bool) (b : Nat) (l : List Byte) (a k : Nat) (s : State) :
    ((List.zip (List.range' k l.length) l).foldl (fun t e => if ok (a + e.1) then t.wrMem (a + e.1) [e.2] else t) s).rd8 b =
      if ok b = true then (s.wrMem (a + k) l).rd8 b else s.rd8 b := by
  induction l generalizing k s with
  | nil => simp [State.wrMem_rd8]
  | cons x r ih =>
    rw [List.length_cons, List.range'_succ, List.zip_cons_cons, List.foldl_cons, ih]
    have hx : (if ok (a + k) then s.wrMem (a + k) [x] else s).rd8 b = if b = a + k ∧ ok b = true then x else s.rd8 b := by
      by_cases hk : ok (a + k) = true
      · rw [if_pos hk, State.wrMem_rd8]
        by_cases hb : b = a + k
        · subst hb
          simp [hk]
        · rw [if_neg (by simp only [List.length_singleton]; omega), if_neg fun h => hb h.1]
      · rw [if_neg hk, if_neg (by rintro ⟨rfl, h⟩; exact hk h)]
    dsimp only
    rw [State.wrMem_rd8, State.wrMem_rd8, hx, List.length_cons]
    by_cases hok : ok b = true
    · rw [if_pos hok, if_pos hok]
      by_cases hb : b = a + k
      · subst hb
        rw [if_neg (by omega), if_pos ⟨rfl, hok⟩, if_pos ⟨by omega, by omega⟩, Nat.sub_self, List.getD_cons_zero]
      · rw [if_neg (fun h => hb h.1 : ¬(b = a + k ∧ ok b = true))]
        by_cases hin : a + (k + 1) ≤ b ∧ b < a + (k + 1) + r.length
        · rw [if_pos hin, if_pos ⟨by omega, by omega⟩, show b - (a + k) = (b - (a + (k + 1))) + 1 by omega, List.getD_cons_succ]
        · rw [if_neg hin, if_neg (by omega)]
    · rw [if_neg hok, if_neg hok, if_neg fun h => hok h.2]

theorem bar4Access_writes (hup : s.fnUp fn = true) (hl : 0 < l.length) (hin : off + l.length ≤ 2 ^ s.barLog fn) :
    Completes (.bar4Access fn off len (some l)) s (fun t => s.onlyIn t [.mem, .gctr, .day, .daySeq] ∧
      ∀ b : Nat, t.rd8 b = if s.ownsMem fn b 1 = true then (s.wrMem ((s.func fn).winBase + off) l).rd8 b else s.rd8 b) := by
  unfold Completes
  rw [show exec (.bar4Access fn off len (some l)) s = execBar4Access fn off len (some l) s from rfl]
  unfold execBar4Access
  extract_lets a n bad
  rw [if_neg (by rw [show n = l.length from rfl, hup]; simp only [Bool.not_true, Bool.false_or, decide_eq_true_eq]; omega),
    if_neg (by rw [show n = l.length from rfl]; omega)]
  conv => simp_match
  extract_lets t
  have ht : s.onlyIn t [.mem] := (State.onlyIn_foldl_iff fun u e => by split <;> simp).2 (s.onlyIn_refl _)
  have hread : ∀ b, t.rd8 b = if s.ownsMem fn b 1 = true then (s.wrMem a l).rd8 b else s.rd8 b :=
    fun b => by
      dsimp only [t]
      rw [show n = l.length from rfl, List.range_eq_range']
      exact State.wrAllowed_rd8 (fun b => s.ownsMem fn b 1) b l a 0 s
  refine ⟨_, rfl, ?_⟩
  cases bad with
  | none => exact ⟨ht.mono (by decide), hread⟩
  | some i =>
    have hw : t.onlyIn (t.winViolation fn (a + i)) [.day, .daySeq, .gctr] := by simp
    refine ⟨(ht.mono (by decide)).trans (hw.mono (by decide)), fun b => ?_⟩
    rw [← hread b]
    simp only [State.rd8, hw.mem (by decide)]

theorem poisonedTlp_only (bar : Fin 6) (a : Nat) : Completes (.poisonedTlp fn bar a) s (fun t => s.onlyIn t [.funcs, .hostMem]) := by
  refine ⟨_, rfl, ?_⟩
  dsimp only
  split
  · simp
  · exact s.onlyIn_refl _

end

/-! ### The link -/

section
variable {s : State}

/-- A function's queue pairs and copies when the link is lost. -/
def Func.linkLost (f : Func) : Func :=
  { f with qs := f.qs.map (fun k => (k.1, k.2.gone)), dma := [], aborted := f.aborted ++ f.dma.map (fun k => (k.q, k.cid)) }

/-- A link that is lost takes every queue pair and every copy with it. -/
theorem State.linkDown_spec (hup : s.hif.up = true) : s.onlyIn s.linkDown [.hif, .funcs] ∧ s.linkDown.hif.up = false ∧
    ∀ p k : Nat, (s.linkDown.queue p k).st = 0 ∧ (s.linkDown.func p).dma = [] := by
  unfold State.linkDown
  rw [hup, if_neg (by simp)]
  extract_lets u
  refine ⟨(State.onlyIn_funcs (by decide)).2 (by simp [u]), rfl, fun p k => ?_⟩
  have hf : tget (u.funcs.map (fun e => (e.1, Func.linkLost e.2))) p Func.reset = (tget u.funcs p Func.reset).linkLost :=
    tget_map u.funcs Func.linkLost p Func.reset
  have hq : tget ((tget u.funcs p Func.reset).qs.map (fun e => (e.1, Queue.gone e.2))) k Queue.reset =
      (tget (tget u.funcs p Func.reset).qs k Queue.reset).gone :=
    tget_map _ Queue.gone k Queue.reset
  constructor
  · exact (congrArg (fun f : Func => (tget f.qs k Queue.reset).st) hf).trans (congrArg Queue.st hq)
  · exact congrArg Func.dma hf

theorem linkLoss_ends (hup : s.hif.up = true) : Completes .linkLoss s (fun t => s.onlyIn t [.hif, .funcs] ∧ t.hif.up = false ∧
    ∀ p k : Nat, (t.queue p k).st = 0 ∧ (t.func p).dma = []) := ⟨_, rfl, State.linkDown_spec hup⟩

theorem malformedTlp_ends (hup : s.hif.up = true) : Completes .malformedTlp s (fun t => s.onlyIn t [.hif, .funcs] ∧ t.hif.up = false ∧
    ∀ p k : Nat, (t.queue p k).st = 0 ∧ (t.func p).dma = []) := ⟨_, rfl, State.linkDown_spec hup⟩

theorem perstDeassert_ends : Completes .perstDeassert s (fun t => s.onlyIn t [.hif] ∧ t.hif.perst = false ∧ t.hif.up = s.hif.up) :=
  ⟨s.modHif (fun h => { h with perst := false }), rfl, by simp, rfl, rfl⟩

@[simp] theorem State.linkDown_up (s : State) : s.linkDown.hif.up = false := by
  unfold State.linkDown
  split
  next h => simpa using h
  next => rfl

theorem perstAssert_bringUp (hrun : s.boot.running = true) : Completes .perstAssert s (fun t => s.onlyIn t [.hif, .funcs] ∧ t.hif.perst = true ∧
    t.hif.up = false ∧ t.funcs = []) := by
  refine ⟨{ s.linkDown.modHif (fun h => { h with perst := true }) with funcs := [] }, ?_, ?_, rfl, s.linkDown_up, rfl⟩
  · simp only [exec, execPerstAssert]
    rw [if_pos hrun]
  · exact (State.onlyIn_funcs (by decide)).2 (by simp)

theorem perstAssert_resets (hrun : s.boot.running = false) (hready : s.boot.ready = true) (hst : s.boot.resetStage = 0) (haux : s.pow.aux = true)
    (he : s.rack.emerg = false) : Completes .perstAssert s (fun t => t.hif.perst = true ∧ t.hif.up = false ∧ t.boot.resetStage = 1 ∧
      t.boot.ready = false) := by
  have ht : s.onlyIn (s.linkDown.modHif (fun h => { h with perst := true })) [.hif, .funcs] := by simp
  have hup : (s.linkDown.modHif (fun h => { h with perst := true })).hif.perst = true ∧
    (s.linkDown.modHif (fun h => { h with perst := true })).hif.up = false := ⟨rfl, s.linkDown_up⟩
  have hexec : exec .perstAssert s = .next ((s.linkDown.modHif (fun h => { h with perst := true })).askModuleReset 16) := by
    simp only [exec, execPerstAssert]
    rw [hrun, if_neg Bool.false_ne_true]
  generalize s.linkDown.modHif (fun h => { h with perst := true }) = t at ht hup hexec
  have hboot : t.boot = s.boot := ht .boot (by decide)
  have hask := State.askModuleReset_begins (s := t) (by rw [hboot]; exact hst) (by rw [ht.pow (by decide)]; exact haux)
    (by rw [hboot]; exact hrun) (by rw [ht.rack (by decide)]; exact he) (by rw [hboot]; exact hready) 16
  obtain ⟨hstage, hnot, -⟩ := t.beginModuleReset_spec 16
  refine ⟨t.beginModuleReset 16, hexec.trans (congrArg Host.Outcome.next hask), ?_⟩
  have hb : t.onlyIn (t.beginModuleReset 16) [.cells, .parts, .funcs, .hostMem, .dies, .boot, .day, .daySeq, .gctr] := by simp
  have hhif : (t.beginModuleReset 16).hif = t.hif := hb .hif (by decide)
  exact ⟨hhif ▸ hup.1, hhif ▸ hup.2, hstage, hnot⟩

theorem pcieLinkUp_trains {rate width : Nat} (haux : s.pow.aux = true) (hperst : s.hif.perst = false) (hdown : s.hif.up = false)
    (hready : s.boot.ready = true) (hlo : 4 ≤ rate) (hhi : rate ≤ 6) (hw : width = 8 ∨ width = 16) :
    Completes (.pcieLinkUp rate width) s (fun t => s.onlyIn t [.hif, .day, .daySeq] ∧ t.hif.up = true ∧ t.hif.rate = rate ∧ t.hif.width = width ∧
      t.hif.degraded = decide (rate < 6 ∨ width < 16)) := by
  unfold Completes
  rw [show exec (.pcieLinkUp rate width) s = execPcieLinkUp rate width s from rfl]
  unfold execPcieLinkUp
  extract_lets o low t
  rw [if_neg (by simp [haux, hperst, hdown, o, hready]), if_neg (by rcases hw with h | h <;> simp [h] <;> omega)]
  have hlog : t.onlyIn (if low = true then t.log 5 Db.hifLinkDegraded (rate + 256 * width) else t) [.day, .daySeq] := by
    split <;> simp
  refine ⟨_, rfl, ?_⟩
  generalize (if low = true then t.log 5 Db.hifLinkDegraded (rate + 256 * width) else t) = u at hlog
  refine ⟨(show s.onlyIn t [.hif, .day, .daySeq] by simp [t]).trans (hlog.mono (by decide)), ?_⟩
  rw [show u.hif = t.hif from hlog .hif (by decide)]
  refine ⟨rfl, rfl, rfl, ?_⟩
  show low = _
  simp [low]

theorem pcieLinkUp_fails {rate width : Nat} (haux : s.pow.aux = true) (hperst : s.hif.perst = false) (hdown : s.hif.up = false)
    (hready : s.boot.ready = true) (hlo : rate < 4) : Completes (.pcieLinkUp rate width) s (fun t => s.onlyIn t [.hif] ∧ t.hif.fail = true ∧
      t.hif.up = false) := by
  refine ⟨s.modHif (fun h => { h with fail := true }), ?_, by simp, rfl, hdown⟩
  simp only [exec, execPcieLinkUp]
  rw [if_neg (by simp [haux, hperst, hdown, hready]), if_pos (by simp [hlo])]

end

/-- Settles O53: the queue pairs and their doorbells, the memory window, and the link's loss, reset and training. -/
theorem queuesAndTheLink : Obligations.QueuesAndTheLink := by
  unfold Obligations.QueuesAndTheLink
  exact fun fn q s => ⟨fun hup hst hsq hcq hvec hbase hco => ⟨qCreate_waits, qCreate_creates hup hst hsq hcq hvec hbase hco⟩, qDelete_deletes,
    fun tail en host hup hst => ⟨sqDoorbell_moves hup hst, sqDoorbell_error hup hst⟩, fun head => cqHeadDoorbell_moves, cqCoalesceTimer_fires,
    fun off len l hup hlen hl => ⟨bar4Access_reads hup hlen, bar4Access_refused hup hlen, bar4Access_writes hup hl⟩, poisonedTlp_only,
    fun hup => ⟨linkLoss_ends hup, malformedTlp_ends hup⟩, perstDeassert_ends, perstAssert_bringUp, perstAssert_resets,
    fun rate width haux hperst hdown hready => ⟨pcieLinkUp_trains haux hperst hdown hready, pcieLinkUp_fails haux hperst hdown hready⟩⟩

end Sys2Proof.Machine
end


section

/-! SUPPORT. The module's registers: latched reads, shadows, register writes, dumps and tag records. -/

namespace Sys2Proof.Machine

/-! ### Reads -/

@[simp] theorem State.hostRead_func (s : State) (st : Nat) (data : List Byte) (p : Nat) : (s.hostRead st data).func p = s.func p := rfl
@[simp] theorem State.hostRead_die (s : State) (st : Nat) (data : List Byte) (d : Nat) : (s.hostRead st data).die d = s.die d := rfl

section
variable {s : State} {fn : Pn}

theorem counterLowRead_latches {i : Nat} {v : BitVec 64} (hup : s.fnUp fn = true) (hv : s.counterFor fn i = some v) :
    Completes (.counterLowRead fn i false) s (fun t => s.onlyIn t [.funcs, .hif] ∧ t.hif.rdData = leBytes 4 v.toNat ∧
      tfind (t.func fn).ctrLatch i = some (v.toNat / 2 ^ 32)) := by
  refine ⟨(s.modFunc fn (fun f => { f with ctrLatch := tins f.ctrLatch i (v.toNat / 2 ^ 32) })).hostRead 0 (leBytes 4 v.toNat), ?_, by simp, rfl, ?_⟩
  · simp only [exec, execCounterLowRead]
    rw [hup, if_neg (by simp), if_neg (by simp), if_pos (by simp), hv]
  · rw [State.hostRead_func, State.modFunc_func_self, tfind_tins, if_pos rfl]

theorem counterLowRead_denied {i : Nat} (hup : s.fnUp fn = true) (hen : (s.func fn).userEn = false) : Completes (.counterLowRead fn i true) s
    (fun t => s.onlyIn t [.gctr, .hif] ∧ t.hif.rdData = leBytes 4 0 ∧ t.gctr = (s.pcount fn PEv.hifCounterDenied 1).gctr) := by
  refine ⟨(s.pcount fn PEv.hifCounterDenied 1).hostRead 0 (leBytes 4 0), ?_, by simp, rfl, rfl⟩
  simp only [exec, execCounterLowRead]
  rw [hup, hen, if_neg (by simp), if_pos (by rfl)]

theorem cellSampleRead_latches {c : Cid} (hup : s.fnUp fn = true) (hown : fn.val = 0 ∨ s.owner c = fn) : Completes (.cellSampleRead fn c) s
    (fun t => s.onlyIn t [.funcs, .hif] ∧ t.hif.rdData = leBytes 8 (s.readCell c 0) ∧
      tfind (t.func fn).cellLatch c = some ((s.cell c).wait.count, (s.cell c).wait.start, (s.cell c).heartbeat)) := by
  refine ⟨(s.modFunc fn (fun f => { f with
    cellLatch := tins f.cellLatch c ((s.cell c).wait.count, (s.cell c).wait.start, (s.cell c).heartbeat) })).hostRead 0
      (leBytes 8 (s.readCell c 0)), ?_, by simp, rfl, ?_⟩
  · simp only [exec, execCellSampleRead]
    rw [hup, if_neg (by simp), if_neg (by rcases hown with h | h <;> simp [h])]
  · rw [State.hostRead_func, State.modFunc_func_self, tfind_tins, if_pos rfl]

theorem cellSampleRead_foreign {c : Cid} (hup : s.fnUp fn = true) (hfn : fn.val ≠ 0) (hown : s.owner c ≠ fn) :
    Completes (.cellSampleRead fn c) s (fun t => s.onlyIn t [.hif] ∧ t.hif.rdData = leBytes 8 0) := by
  refine ⟨s.hostRead 0 (leBytes 8 0), ?_, by simp, rfl⟩
  simp only [exec, execCellSampleRead]
  rw [hup, if_neg (by simp), if_pos (by simp [hfn, hown])]

theorem monWrIndexRead_latches {d : DieN} (hup : s.hif.up = true) : Completes (.monWrIndexRead d) s (fun t => s.onlyIn t [.dies, .hif] ∧
    t.hif.rdData = leBytes 8 (s.die d).wr ∧ (t.die d).latchTime = (s.die d).baseTime) := by
  refine ⟨(s.modDie d (fun e => { e with latchTime := e.baseTime })).hostRead 0 (leBytes 8 (s.die d).wr), ?_, by simp, rfl, ?_⟩
  · simp only [exec, execMonWrIndexRead]
    rw [hup, if_neg (by simp)]
  · rw [State.hostRead_die, State.modDie_die_self]

/-! ### Shadows and their commit -/

theorem not_fnDown (hup : s.fnUp fn = true) : ¬(!s.hif.up || s.hif.numVf < fn.val) = true := by
  rw [State.fnUp, Bool.and_eq_true, decide_eq_true_eq] at hup
  rw [hup.1, Bool.not_true, Bool.false_or, decide_eq_true_eq]
  omega

theorem shadowSel_stages {ty inst : Nat} (hup : s.fnUp fn = true) (hty : ty < 65536) (hinst : inst < 65536)
    (hnew : (s.func fn).shadows.any (fun w => w.ty == ty && w.inst == inst) = false) (hroom : (s.func fn).shadows.length < 16) :
    Completes (.shadowSel fn ty inst) s (fun t => s.onlyIn t [.funcs] ∧ (t.func fn).sel = ty + 65536 * inst ∧
      (t.func fn).shadows.length = (s.func fn).shadows.length + 1) := by
  unfold Completes
  rw [show exec (.shadowSel fn ty inst) s = execShadowSel fn ty inst s from rfl]
  unfold execShadowSel
  rw [Nat.mod_eq_of_lt hty, Nat.mod_eq_of_lt hinst]
  extract_lets ty' i u f shown
  have hf : f = { s.func fn with sel := ty + 65536 * inst } := State.modFunc_func_self ..
  rw [if_neg (not_fnDown hup), if_neg (by rw [hf]; exact Bool.not_eq_true _ ▸ hnew), if_neg (by rw [hf]; dsimp only; omega)]
  refine ⟨_, rfl, by simp [u], ?_⟩
  have hu : u.func fn = { s.func fn with sel := ty + 65536 * inst } := hf
  rw [State.modFunc_func_self, hu]
  exact ⟨rfl, by simp⟩

theorem shadowSel_full {ty inst : Nat} (hup : s.fnUp fn = true) (hty : ty < 65536) (hinst : inst < 65536)
    (hnew : (s.func fn).shadows.any (fun w => w.ty == ty && w.inst == inst) = false) (hfull : 16 ≤ (s.func fn).shadows.length) :
    Completes (.shadowSel fn ty inst) s (fun t => s.onlyIn t [.funcs] ∧ (t.func fn).full = true ∧
      (t.func fn).shadows = (s.func fn).shadows) := by
  unfold Completes
  rw [show exec (.shadowSel fn ty inst) s = execShadowSel fn ty inst s from rfl]
  unfold execShadowSel
  rw [Nat.mod_eq_of_lt hty, Nat.mod_eq_of_lt hinst]
  extract_lets ty' i u f shown
  have hf : f = { s.func fn with sel := ty + 65536 * inst } := State.modFunc_func_self ..
  rw [if_neg (not_fnDown hup), if_neg (by rw [hf]; exact Bool.not_eq_true _ ▸ hnew), if_pos (by rw [hf]; exact hfull)]
  refine ⟨_, rfl, by simp [u], ?_⟩
  have hu : u.func fn = { s.func fn with sel := ty + 65536 * inst } := hf
  rw [State.modFunc_func_self, hu]
  exact ⟨rfl, rfl⟩

theorem commit_nothing {ty : Nat} (hup : s.fnUp fn = true)
    (hnone : (s.func fn).shadows.filter (fun w => ty % 65536 == 0xFFFF || w.ty == ty % 65536) = []) :
    Completes (.commit fn ty) s (fun t => s.onlyIn t [.funcs, .day, .daySeq] ∧ (t.func fn).lastRej = 10) := by
  have hcommit : (s.commitShadows fn (ty % 65536) false).1 = (s.modFunc fn (fun f => { f with lastRej := 10 })).logReject fn (ty % 65536) 0 10 := by
    unfold State.commitShadows
    extract_lets f named cands fails done u
    rw [if_pos (by simp only [named]; rw [hnone]; rfl)]
  refine ⟨_, by simp only [exec, execCommit]; rw [if_neg (not_fnDown hup), hcommit], by simp, ?_⟩
  have hlog : (s.modFunc fn (fun f => { f with lastRej := 10 })).onlyIn
    ((s.modFunc fn (fun f => { f with lastRej := 10 })).logReject fn (ty % 65536) 0 10) [.day, .daySeq] := by simp
  rw [hlog.func (by decide), State.modFunc_func_self]

theorem commit_recs {ty : Nat} (hup : s.fnUp fn = true) :
    Completes (.commit fn ty) s (fun t => t.recs = (s.commitShadows fn (ty % 65536) false).1.recs) :=
  ⟨_, by simp only [exec, execCommit]; rw [if_neg (not_fnDown hup)], rfl⟩

/-! ### Register writes -/

theorem putHalf_whole (old o v : Nat) : putHalf old o 8 v = (v % 2 ^ 64, 2 ^ 64 - 1) := rfl

/-- A write of reserved bits is noted and nothing more. -/
@[simp] theorem State.reserved_func (s : State) (off w mask ok p : Nat) : (s.reserved off w mask ok).func p = s.func p :=
  State.onlyIn.func (l := [.day, .daySeq]) (by simp) (by decide) p

theorem State.writeFunc_winBase (s : State) (fn p off v : Nat) : s.onlyIn (s.writeFunc fn p off 0 8 v) [.funcs, .day, .daySeq] ∧
    ((s.writeFunc fn p off 0 8 v).func p).winBase = v % 2 ^ 48 / 2 ^ s.barLog p * 2 ^ s.barLog p := by
  have heq : s.writeFunc fn p off 0 8 v = (s.modFunc p (fun f => { f with
      winBase := v % 2 ^ 64 % 2 ^ 48 / 2 ^ s.barLog p * 2 ^ s.barLog p })).reserved off (v % 2 ^ 64) (2 ^ 64 - 1) (2 ^ 48 - 1) := by
    unfold State.writeFunc
    dsimp only
    rw [putHalf_whole, if_pos (by rfl)]
  rw [heq, State.reserved_func, State.modFunc_func_self, Nat.mod_mod_of_dvd _ (by decide : 2 ^ 48 ∣ 2 ^ 64)]
  exact ⟨by simp, rfl⟩

theorem registerWrite_winBase {v : Nat} (hup : s.fnUp fn = true) : Completes (.registerWrite fn (if fn.val = 0 then 0x10000 else 0) 8 v) s (fun t =>
    s.onlyIn t [.funcs, .day, .daySeq] ∧ (t.func fn).winBase = v % 2 ^ 48 / 2 ^ s.barLog fn * 2 ^ s.barLog fn) := by
  refine ⟨_, ?_, s.writeFunc_winBase fn fn (if fn.val = 0 then 0x10000 else 0) v⟩
  have hlt := fn.isLt
  simp only [exec, execRegisterWrite]
  by_cases hfn : fn.val = 0
  · simp only [if_pos hfn]
    rw [if_neg (by rw [hup]; simp [hfn])]
    simp [hfn]
  · simp only [if_neg hfn]
    rw [if_neg (by rw [hup]; simp)]
    have hvf : vfOffset fn 0 = some (0x10000 + fn.val * 0x1000) := rfl
    rw [hvf]
    dsimp only
    rw [if_neg (by simp; omega), if_neg (by omega), if_pos (by simp; omega), show (0x10000 + fn.val * 0x1000 - 0x10000) / 0x1000 = fn.val by omega,
      show (0x10000 + fn.val * 0x1000) % 0x1000 = 0 by omega]

theorem registerWrite_readOnly {off v : Nat} (hoff : off ∈ [0, 8, 16, 32, 40, 56, 72, 80]) (hup : s.fnUp 0 = true) :
    Completes (.registerWrite 0 off 8 v) s (fun t => t = s) := by
  refine ⟨s, ?_, rfl⟩
  simp only [exec, execRegisterWrite]
  fin_cases hoff
  all_goals
    rw [if_neg (by simp [hup])]
    rfl

/-! ### Dumps, tag records and the progress word -/

theorem State.dumpTo_room {k base slots size : Nat} {over_ : Bool} {data : List Byte} (h : (s.part k).dumpWr - (s.part k).dumpRd < slots) :
    s.dumpTo k base slots size over_ data = ((s.wrMem (base + (s.part k).dumpWr % slots * size) data).modPart k (fun q => { q with
      dumpSeq := q.dumpSeq + 1, dumpWr := q.dumpWr + 1, dumpLost := 0 }), true) := by
  unfold State.dumpTo
  dsimp only
  rw [if_neg (by omega), if_neg (by rw [Bool.and_eq_true, decide_eq_true_eq]; omega)]

theorem State.dumpTo_full {k base slots size : Nat} {over_ : Bool} {data : List Byte} (h0 : slots ≠ 0)
    (h : slots ≤ (s.part k).dumpWr - (s.part k).dumpRd) (hkeep : over_ = false) : s.dumpTo k base slots size over_ data =
      (s.modPart k (fun q => { q with dumpSeq := q.dumpSeq + 1, dumpLost := q.dumpLost + 1 }), false) := by
  unfold State.dumpTo
  dsimp only
  rw [if_neg h0, if_pos (by simp [h, hkeep])]

section
variable (hfn : fn.val ≠ 0) (hmain : s.pow.main = true) (hpend : (s.part fn).selPend = false) (hper : selFld (s.part fn).selImg 388 4 ≠ 0)
  (hnow : s.time % (selFld (s.part fn).selImg 388 4 * 1000) = 0)
include hfn hmain hpend hper hnow

theorem dumpInstant_off (hoff : selFld (s.part fn).selImg 384 1 ≠ 1) : Completes (.dumpInstant fn) s (fun t => t = s) := by
  refine ⟨s, ?_, rfl⟩
  simp only [exec, execDumpInstant, hpend, hmain]
  rw [if_neg (by simp), if_neg hfn, if_neg (by simp; exact ⟨hper, hnow⟩)]
  simp [hoff]

/-- At an instant of the selection in force the dump goes to its ring. -/
theorem execDumpInstant_eq (hon : selFld (s.part fn).selImg 384 1 = 1) : exec (.dumpInstant fn) s = .next (
    let sel := (s.part fn).selImg
    let data := s.dumpBytes fn
    let r := s.dumpTo fn (selFld sel 400 8) (selFld sel 392 4) (cdiv data.length 4096 * 4096) (selFld sel 385 1 == 1) data
    if r.2 then r.1 else r.1.pcount fn PEv.dumpLost 1) := by
  simp only [exec, execDumpInstant, hpend, hmain]
  rw [if_neg (by simp), if_neg hfn, if_neg (by simp; exact ⟨hper, hnow⟩)]
  simp [hon, hper, hnow]

theorem dumpInstant_writes (hon : selFld (s.part fn).selImg 384 1 = 1)
    (hroom : (s.part fn).dumpWr - (s.part fn).dumpRd < selFld (s.part fn).selImg 392 4) : Completes (.dumpInstant fn) s (fun t =>
      s.onlyIn t [.mem, .parts] ∧ (t.part fn).dumpWr = (s.part fn).dumpWr + 1 ∧ (t.part fn).dumpSeq = (s.part fn).dumpSeq + 1 ∧
      (t.part fn).dumpLost = 0) := by
  refine ⟨_, execDumpInstant_eq hfn hmain hpend hper hnow hon, ?_⟩
  simp only [State.dumpTo_room hroom, if_true]
  simp

theorem dumpInstant_loses (hon : selFld (s.part fn).selImg 384 1 = 1) (hslots : selFld (s.part fn).selImg 392 4 ≠ 0)
    (hkeep : selFld (s.part fn).selImg 385 1 = 0) (hfull : selFld (s.part fn).selImg 392 4 ≤ (s.part fn).dumpWr - (s.part fn).dumpRd) :
    Completes (.dumpInstant fn) s (fun t => s.onlyIn t [.parts, .gctr] ∧ (t.part fn).dumpLost = (s.part fn).dumpLost + 1) := by
  refine ⟨_, execDumpInstant_eq hfn hmain hpend hper hnow hon, ?_⟩
  simp only [State.dumpTo_full hslots hfull (show (selFld (s.part fn).selImg 385 1 == 1) = false by simp [hkeep]), Bool.false_eq_true, if_false]
  simp

end

theorem tagRecordWrite_waits {c : Cid} (h : s.tagReady c = false) : Completes (.tagRecordWrite c) s (fun t => t = s) := by
  refine ⟨s, ?_, rfl⟩
  simp only [exec, execTagRecordWrite]
  rw [h, if_pos (by rfl)]

theorem tagRecordWrite_writes {c : Cid} (h : s.tagReady c = true) (hslots : selFld (s.part (s.owner c)).selImg 396 4 ≠ 0) :
    Completes (.tagRecordWrite c) s (fun t => s.onlyIn t [.cells, .mem, .parts] ∧ (t.cell c).tagOpen = false ∧
      (t.part (s.owner c)).tagWr = ((s.part (s.owner c)).tagWr + 1) % 2 ^ 32) := by
  unfold Completes
  rw [show exec (.tagRecordWrite c) s = execTagRecordWrite c s from rfl]
  unfold execTagRecordWrite
  rw [h, if_neg (by simp)]
  extract_lets cl p w sel slots rec_ u
  rw [if_neg hslots]
  refine ⟨_, rfl, by simp [u], ?_, ?_⟩
  · rw [State.modPart_cell, State.wrMem_cell]
    simp [u]
  · rw [State.modPart_part_self]
    rfl

theorem progressWordSample_sums : Completes (.progressWordSample fn) s (fun t => s.onlyIn t [.parts] ∧ (t.part fn).progHi = (s.part fn).progHi ∧
    (t.part fn).progLo = ((s.cellsOf fn).map (fun c => (s.cell c).heartbeat)).sum % 2 ^ 32) :=
  ⟨_, rfl, by simp, by rw [State.modPart_part_self], by rw [State.modPart_part_self]⟩

theorem feedIdChange_held (v : Fin 16) : Completes (.feedIdChange v) s (fun t => s.onlyIn t [.groom, .day, .daySeq] ∧ t.groom.feedPins = v.val ∧
    t.groom.feed = s.groom.feed) := by
  unfold Completes
  rw [show exec (.feedIdChange v) s = execFeedIdChange v s from rfl]
  unfold execFeedIdChange
  split
  next h => exact ⟨s, rfl, s.onlyIn_refl _, h.symm, rfl⟩
  next => 
    extract_lets u
    refine ⟨_, rfl, ?_⟩
    split
    · exact ⟨by simp [u], rfl, rfl⟩
    · exact ⟨by simp [u], rfl, rfl⟩

end

/-- Settles O54: latched reads, shadows and their commit, register writes, dumps, tag records, the progress word and FEED_ID. -/
theorem registersAnswer : Obligations.RegistersAnswer := by
  unfold Obligations.RegistersAnswer
  exact fun fn s => ⟨fun i v => counterLowRead_latches, fun i => counterLowRead_denied,
    fun c hup => ⟨cellSampleRead_latches hup, cellSampleRead_foreign hup⟩, fun d => monWrIndexRead_latches,
    fun ty inst hup hty hinst hnew => ⟨shadowSel_stages hup hty hinst hnew, shadowSel_full hup hty hinst hnew⟩,
    fun ty hup => ⟨commit_nothing hup, commit_recs hup⟩, fun v => registerWrite_winBase, fun off v => registerWrite_readOnly,
    fun hfn hmain hpend hper hnow => ⟨dumpInstant_off hfn hmain hpend hper hnow, dumpInstant_writes hfn hmain hpend hper hnow,
      dumpInstant_loses hfn hmain hpend hper hnow⟩,
    fun c => ⟨tagRecordWrite_waits, tagRecordWrite_writes⟩, progressWordSample_sums, feedIdChange_held⟩

end Sys2Proof.Machine
end


section

/-! SUPPORT. Bring-up, stage by stage, and the writes of the tack store. -/

namespace Sys2Proof.Machine

section
variable {s : State}

theorem inputRise_begins (hmain : s.pow.main = false) (hrun : s.boot.running = false) (hlatch : s.pow.latchedOff = false) :
    Completes .inputRise s (fun t => s.onlyIn t [.time, .pow, .boot, .day, .daySeq] ∧ t.time = 0 ∧ t.pow.aux = true ∧ t.boot.stage = 1 ∧
      t.boot.running = true) := by
  refine ⟨({ s with time := 0 }.modPow (fun w => { w with aux := true })).beginStage 1, ?_, ?_, rfl, rfl, rfl, rfl⟩
  · simp only [exec, execInputRise]
    rw [if_neg (by simp [hmain, hrun, hlatch])]
  · rw [State.onlyIn_beginStage (by decide), State.onlyIn_modPow (by decide)]
    exact (State.onlyIn_time (by decide)).2 (s.onlyIn_refl _)

theorem inputRise_latched (hlatch : s.pow.latchedOff = true) : Completes .inputRise s (fun t => t = s) := by
  refine ⟨s, ?_, rfl⟩
  simp only [exec, execInputRise]
  rw [if_pos (by simp [hlatch])]

/-- A held bring-up, its cause told. -/
theorem State.holdBoot_spec (s : State) (cause : Nat) : s.onlyIn (s.holdBoot cause) [.boot, .groom, .day, .daySeq] ∧
    (s.holdBoot cause).boot.held = true ∧ (s.holdBoot cause).boot.failCause = cause := ⟨by simp, rfl, rfl⟩

section
variable (hrun : s.boot.running = true) (hheld : s.boot.held = false) (hhold : s.pow.hold = false)
include hrun hheld hhold

theorem bootStage_last (hst : s.boot.stage = 9) :
    Completes (.bootStageComplete true) s (fun t => t.boot.ready = true ∧ t.boot.running = false) := by
  obtain ⟨hready, -, hstopped⟩ := s.becomeReady_boot
  refine ⟨s.becomeReady, ?_, hready, hstopped⟩
  have hwork : s.stageWork = some s := by simp only [State.stageWork, hst]
  simp only [exec, execBootStageComplete, hwork]
  rw [if_neg (by simp [hrun, hheld, hhold]), if_neg (by simp), if_pos hst]

theorem bootStage_link (hst : s.boot.stage = 8) (hlatch : s.rack.latch = false) : Completes (.bootStageComplete true) s (fun t =>
    s.onlyIn t [.boot, .day, .daySeq] ∧ t.boot.stage = 9) := by
  refine ⟨s.beginStage 9, ?_, by simp, rfl⟩
  have hwork : s.stageWork = some s := by simp only [State.stageWork, hst]
  simp only [exec, execBootStageComplete, hwork]
  rw [if_neg (by simp [hrun, hheld, hhold]), if_neg (by simp), if_neg (by omega), hlatch, if_neg Bool.false_ne_true, hst]
  rfl

theorem bootStage_latched (hst : s.boot.stage = 8) (hlatch : s.rack.latch = true) : Completes (.bootStageComplete true) s (fun t =>
    s.onlyIn t [.boot] ∧ t.boot.held = true) := by
  refine ⟨s.modBoot (fun b => { b with held := true }), ?_, by simp, rfl⟩
  have hwork : s.stageWork = some s := by simp only [State.stageWork, hst]
  simp only [exec, execBootStageComplete, hwork]
  rw [if_neg (by simp [hrun, hheld, hhold]), if_neg (by simp), if_neg (by omega), if_pos hlatch]

/-- A stage whose work fails holds the bring-up. -/
theorem bootStage_held (hwork : s.stageWork = none) : exec (.bootStageComplete true) s =
    .next (s.holdBoot (if s.boot.stage = 3 then 2 else 3)) := by
  simp only [exec, execBootStageComplete, hwork]
  rw [if_neg (by simp [hrun, hheld, hhold]), if_neg (by simp)]

theorem bootStage_image (hst : s.boot.stage = 3) (hbad : s.storedOk = false) : Completes (.bootStageComplete true) s (fun t =>
    s.onlyIn t [.boot, .groom, .day, .daySeq] ∧ t.boot.held = true ∧ t.boot.failCause = 2) := by
  have hwork : s.stageWork = none := by simp [State.stageWork, hst, hbad]
  refine ⟨s.holdBoot 2, ?_, s.holdBoot_spec 2⟩
  rw [bootStage_held hrun hheld hhold hwork, if_pos hst]

theorem bootStage_records (hst : s.boot.stage = 4) (hbad : s.badSlots Ty.repairMap 0 = true) : Completes (.bootStageComplete true) s (fun t =>
    s.onlyIn t [.boot, .groom, .day, .daySeq] ∧ t.boot.held = true ∧ t.boot.failCause = 3) := by
  have hwork : s.stageWork = none := by simp [State.stageWork, hst, hbad]
  refine ⟨s.holdBoot 3, ?_, s.holdBoot_spec 3⟩
  rw [bootStage_held hrun hheld hhold hwork, if_neg (by omega)]

theorem bootStage_retried (hst : s.boot.stage = 2) (hretry : s.boot.retry = false) : Completes (.bootStageComplete false) s (fun t =>
    s.onlyIn t [.boot] ∧ t.boot.retry = true) := by
  refine ⟨s.modBoot (fun b => { b with retry := true }), ?_, by simp, rfl⟩
  simp only [exec, execBootStageComplete, hst, hretry]
  rw [if_neg (by simp [hrun, hheld, hhold]), if_pos (by simp)]
  rfl

theorem bootStage_failed (hst : s.boot.stage = 2) (hretry : s.boot.retry = true) : Completes (.bootStageComplete false) s (fun t =>
    t.boot.held = true ∧ t.boot.failCause = 1) := by
  refine ⟨s.holdBoot 1, ?_, rfl, rfl⟩
  simp only [exec, execBootStageComplete, hst, hretry]
  rw [if_neg (by simp [hrun, hheld, hhold]), if_pos (by simp)]
  rfl

theorem bootStage_memory (hst : s.boot.stage = 7) (hretry : s.boot.retry = true) : Completes (.bootStageComplete false) s (fun t =>
    t.boot.memFault = true ∧ t.boot.modFault = true ∧ t.boot.held = false) := by
  refine ⟨(s.moduleFault 2 0).modBoot (fun b => { b with memFault := true, retry := false }), ?_, rfl, rfl, hheld⟩
  simp only [exec, execBootStageComplete, hst, hretry]
  rw [if_neg (by simp [hrun, hheld, hhold]), if_pos (by simp)]
  rfl

omit hhold in
theorem bootStageTimeout_cycles (hst : s.boot.stage ≠ 1) (hover : s.boot.overran = false) : Completes .bootStageTimeout s (fun t =>
    s.onlyIn t [.boot, .groom, .day, .daySeq] ∧ t.boot.overran = true ∧ t.groom.pwrReq = true ∧ t.boot.held = false) := by
  refine ⟨(s.modBoot (fun b => { b with overran := true })).askPowerCycle 3, ?_, by simp, rfl, rfl, hheld⟩
  simp only [exec, execBootStageTimeout]
  rw [if_neg (by simp [hrun, hheld, hst]), hover, if_neg Bool.false_ne_true]

omit hhold in
theorem bootStageTimeout_holds (hst : s.boot.stage ≠ 1) (hover : s.boot.overran = true) : Completes .bootStageTimeout s (fun t =>
    s.onlyIn t [.boot, .groom, .day, .daySeq] ∧ t.boot.held = true ∧ t.boot.failCause = 4) := by
  refine ⟨s.holdBoot 4, ?_, s.holdBoot_spec 4⟩
  simp only [exec, execBootStageTimeout]
  rw [if_neg (by simp [hrun, hheld, hst]), if_pos hover]

end

/-! ### The tack store -/

/-- The slot written over an older one, its record the newest. -/
def Slot.written (t : Slot) (im : RecImg) : Slot :=
  if (t.b.map (fun e => e.1 + 1)).getD 0 ≤ (t.a.map (fun e => e.1 + 1)).getD 0 then
    { t with b := some (max ((t.a.map (fun e => e.1 + 1)).getD 0) ((t.b.map (fun e => e.1 + 1)).getD 0), im) }
  else { t with a := some (max ((t.a.map (fun e => e.1 + 1)).getD 0) ((t.b.map (fun e => e.1 + 1)).getD 0), im) }

@[simp] theorem Slot.written_newer (t : Slot) (im : RecImg) : (t.written im).newer = some im := by
  obtain ⟨_ | ⟨x, r⟩, _ | ⟨y, q⟩⟩ := t
  case none.none => rfl
  case none.some => simp [Slot.written, Slot.newer]
  case some.none => simp [Slot.written, Slot.newer]
  case some.some =>
    by_cases hxy : y ≤ x
    · simp [Slot.written, Slot.newer, hxy]
    · simp [Slot.written, Slot.newer, hxy, Nat.le_of_not_le hxy]

theorem tackStoreWrite_writes {tp inst : Nat} {im : RecImg} {l : List (Nat × Nat × RecImg)} (hq : s.groom.writeQ = (tp, inst, im) :: l)
    (haux : s.pow.aux = true) : Completes .tackStoreWrite s (fun t => s.onlyIn t [.store, .groom] ∧ t.groom.writeQ = l ∧
      (tfind t.store (recKey (tp / 65536) (tp % 65536) inst)).bind Slot.newer = some im ∧
      ∀ k, k ≠ recKey (tp / 65536) (tp % 65536) inst → tfind t.store k = tfind s.store k) := by
  obtain ⟨sl, hsl⟩ : ∃ sl : Slot,
      (tfind s.store (recKey (tp / 65536) (tp % 65536) inst)).getD { a := some (0, recDefault (tp % 65536)), b := none } = sl :=
    ⟨_, rfl⟩
  refine ⟨{ s with store := tins s.store (recKey (tp / 65536) (tp % 65536) inst) (sl.written im) }.modGroom (fun g => { g with writeQ := l }),
    ?_, ?_, rfl, ?_, fun k hk => ?_⟩
  · simp only [exec, execTackStoreWrite, hq]
    rw [if_neg (by simp [haux]), hsl]
    rfl
  · rw [State.onlyIn_modGroom (by decide)]
    exact (State.onlyIn_store (by decide)).2 (s.onlyIn_refl _)
  · show (tfind (tins s.store _ _) _).bind Slot.newer = some im
    rw [tfind_tins, if_pos rfl]
    exact sl.written_newer im
  · show tfind (tins s.store _ _) k = _
    rw [tfind_tins, if_neg hk]

end

/-- Settles O55: the input's rise, each stage's end and failure, its time limit, and the tack store's writes. -/
theorem bringUpRuns : Obligations.BringUpRuns := by
  unfold Obligations.BringUpRuns
  exact fun s => ⟨fun hmain hrun => ⟨inputRise_begins hmain hrun, inputRise_latched⟩,
    fun hrun hheld hhold => ⟨bootStage_last hrun hheld hhold, bootStage_link hrun hheld hhold, bootStage_latched hrun hheld hhold,
      bootStage_image hrun hheld hhold, bootStage_records hrun hheld hhold, bootStage_retried hrun hheld hhold,
      bootStage_failed hrun hheld hhold, bootStage_memory hrun hheld hhold, bootStageTimeout_cycles hrun hheld, bootStageTimeout_holds hrun hheld⟩,
    fun tp inst im l => tackStoreWrite_writes⟩

end Sys2Proof.Machine
end


section

/-! SUPPORT. The module tree: sensors, events, effecters, updates and the daybook's readers. -/

namespace Sys2Proof.Machine

section
variable {s : State} {b : Fin 3}

theorem pldmSensorRead_answers {id : Nat} (ha : s.answers b 4 = true) : Completes (.pldmSensorRead b id) s (fun t => s.onlyIn t [.groom] ∧
    t.groom.lastBind = b.val ∧ (∀ v : Nat, s.sensor id = some v → t.groom.resp = s.groom.resp ++ [[b.val, 1, id, 0, v]]) ∧
    (s.sensor id = none → t.groom.resp = s.groom.resp ++ [[b.val, 1, id, 1]])) := by
  have hsensor : (s.modGroom (fun g => { g with lastBind := b })).sensor id = s.sensor id := rfl
  unfold Completes
  rw [show exec (.pldmSensorRead b id) s = execPldmSensorRead b id s from rfl]
  unfold execPldmSensorRead
  extract_lets u
  rw [ha, if_neg (by simp), hsensor]
  cases hv : s.sensor id with
  | some v =>
    refine ⟨_, rfl, by simp [u], rfl, ?_, fun h => by cases h⟩
    rintro w hw
    cases hw
    rfl
  | none =>
    refine ⟨_, rfl, by simp [u], rfl, ?_, fun _ => rfl⟩
    rintro w hw
    cases hw

/-! ### Platform events -/

theorem platformEventRetry_sends {id : Nat} {e : Nat × Nat × Nat}
    (he : s.groom.events.find? (fun e => e.1 == id && e.2.2 < 10) = some e) : Completes (.platformEventRetry id) s (fun t =>
      s.onlyIn t [.groom] ∧ t.groom.events.length = s.groom.events.length ∧ (id, e.2.1, e.2.2 + 1) ∈ t.groom.events) := by
  have hmem := List.mem_of_find?_eq_some he
  have hid : e.1 = id := by
    have := List.find?_some he
    simp only [Bool.and_eq_true, beq_iff_eq] at this
    exact this.1
  have hcount : (id, e.2.1, e.2.2 + 1) ∈ s.groom.events.map (fun x => if x = e then (x.1, x.2.1, x.2.2 + 1) else x) :=
    List.mem_map.2 ⟨e, hmem, by rw [if_pos rfl, hid]⟩
  unfold Completes
  rw [show exec (.platformEventRetry id) s = execPlatformEventRetry id s from rfl]
  unfold execPlatformEventRetry
  rw [he]
  conv => simp_match
  extract_lets t
  refine ⟨_, rfl, ?_⟩
  split
  · exact ⟨by simp [t], List.length_map _, hcount⟩
  · exact ⟨by simp [t], List.length_map _, hcount⟩

theorem platformEventRetry_over {id : Nat} (h : ∀ e ∈ s.groom.events, e.1 = id → 10 ≤ e.2.2) :
    Completes (.platformEventRetry id) s (fun t => t = s) := by
  have hnone : s.groom.events.find? (fun e => e.1 == id && e.2.2 < 10) = none := by
    rw [List.find?_eq_none]
    intro e he
    have := h e he
    simp
    omega
  refine ⟨s, ?_, rfl⟩
  simp only [exec, execPlatformEventRetry, hnone]

theorem platformEventAck_ends {id : Nat} (haux : s.pow.aux = true) : Completes (.platformEventAck id) s (fun t => s.onlyIn t [.groom] ∧
    t.groom.events = s.groom.events.filter (fun e => e.1 != id)) := by
  refine ⟨s.ackEvent id, ?_, by simp, rfl⟩
  simp only [exec, execPlatformEventAck]
  rw [if_pos haux]

/-! ### Effecter 0x0001 -/

theorem setStateEffecterStates_refused {eff st : Nat} (ha : s.answers b 4 = true) (h : eff ≠ 1 ∨ (st ≠ 1 ∧ st ≠ 2)) :
    Completes (.setStateEffecterStates b eff st) s (fun t => s.onlyIn t [.groom]) := by
  refine ⟨s.respond b 1 [eff, st, 1], ?_, by simp⟩
  simp only [exec, execSetStateEffecterStates]
  rw [ha, if_neg (by simp), if_pos (by simpa using h)]

theorem setStateEffecterStates_acks (ha : s.answers b 4 = true) : Completes (.setStateEffecterStates b 1 2) s (fun t => s.onlyIn t [.groom] ∧
    t.groom.events = s.groom.events.filter (fun e => e.1 != 1)) := by
  refine ⟨(s.respond b 1 [1, 2, 0]).ackEvent 1, ?_, by simp, rfl⟩
  simp only [exec, execSetStateEffecterStates]
  rw [ha, if_neg (by simp), if_neg (by simp), if_neg (by simp)]

theorem setStateEffecterStates_resets (ha : s.answers b 4 = true) (hready : s.boot.ready = true) (hrun : s.boot.running = false)
    (he : s.rack.emerg = false) (hst : s.boot.resetStage = 0) : Completes (.setStateEffecterStates b 1 1) s (fun t =>
      t.boot.resetStage = 1 ∧ t.boot.ready = false) := by
  have haux : s.pow.aux = true := by
    simp only [State.answers, Bool.and_eq_true] at ha
    exact ha.1.1.1
  obtain ⟨hstage, hnot, -⟩ := (s.respond b 1 [1, 1, 0]).beginModuleReset_spec 17
  refine ⟨(s.respond b 1 [1, 1, 0]).beginModuleReset 17, ?_, hstage, hnot⟩
  simp only [exec, execSetStateEffecterStates]
  rw [ha, if_neg (by simp), if_neg (by simp), if_pos trivial,
    State.askModuleReset_begins (s := s.respond b 1 [1, 1, 0]) hst haux hrun he hready]

/-! ### Updates -/

theorem pldmFirmwareUpdate_one {comp : Nat} {data : List Byte} (ha : s.answers b 3 = true) (hupd : s.groom.upd.isSome = true) :
    Completes (.pldmFirmwareUpdate b comp data) s (fun t => s.onlyIn t [.groom, .day, .daySeq] ∧ t.groom.fw = s.groom.fw ∧
      t.groom.pkgs = s.groom.pkgs) := by
  refine ⟨(s.logUpdate comp 2).respond b 1 [comp, 2], ?_, by simp, rfl, rfl⟩
  simp only [exec, execPldmFirmwareUpdate]
  rw [ha, if_neg (by simp), if_pos hupd]

/-- Outside bring-up an image is kept for the next one where it verifies, and nothing is where it does not. -/
theorem State.takeImage_spec (s : State) (t : Tbl Byte) (hrun : s.boot.running = false) :
    s.onlyIn (s.takeImage t).1 [.groom, .day, .daySeq] ∧
    (s.imageVerifies t = true → (s.takeImage t).1.groom.fw = t ∧ (s.takeImage t).1.groom.fwPend = true) ∧
    (s.imageVerifies t = false → (s.takeImage t).1.groom.fw = s.groom.fw ∧ (s.takeImage t).1.groom.fwPend = s.groom.fwPend) := by
  unfold State.takeImage
  extract_lets ok rom u res v
  have hrom : rom = false := by simp [rom, hrun]
  have hu : s.onlyIn u [.groom] := by
    dsimp only [u]
    split <;> simp
  have hlog : u.onlyIn v [.day, .daySeq] := by simp [v]
  have hv : v.groom = u.groom := hlog .groom (by decide)
  rw [hrom, Bool.and_false, if_neg Bool.false_ne_true]
  refine ⟨by simpa [v] using hu.mono (by decide), fun hok => ?_, fun hok => ?_⟩
  · dsimp only
    rw [hv, show u = s.modGroom (fun g => { g with fw := t, fwOk := ok, fwPend := !rom }) from if_pos (by rw [show ok = true from hok]; rfl), hrom]
    exact ⟨rfl, rfl⟩
  · dsimp only
    rw [hv, show u = s from if_neg (by rw [show ok = false from hok, hrom]; simp)]
    exact ⟨rfl, rfl⟩

theorem pldmFirmwareUpdate_image {data : List Byte} (ha : s.answers b 3 = true) (hupd : s.groom.upd = none) (hrun : s.boot.running = false) :
    Completes (.pldmFirmwareUpdate b 1 data) s (fun t => s.onlyIn t [.groom, .day, .daySeq] ∧
      (s.imageVerifies (tputs [] 0 data 0) = true → t.groom.fw = tputs [] 0 data 0 ∧ t.groom.fwPend = true) ∧
      (s.imageVerifies (tputs [] 0 data 0) = false → t.groom.fw = s.groom.fw ∧ t.groom.fwPend = s.groom.fwPend)) := by
  obtain ⟨honly, hok, hbad⟩ := s.takeImage_spec (tputs [] 0 data 0) hrun
  generalize himg : s.takeImage (tputs [] 0 data 0) = r at honly hok hbad
  refine ⟨r.1.respond b 1 [1, r.2], ?_, (State.onlyIn_respond (by decide)).2 honly, hok, hbad⟩
  simp only [exec, execPldmFirmwareUpdate]
  rw [ha, if_neg (by simp), if_neg (by simp [hupd]), himg]

theorem pldmFirmwareUpdate_map {data : List Byte} (ha : s.answers b 3 = true) (hupd : s.groom.upd = none) (hrun : s.boot.running = false) :
    Completes (.pldmFirmwareUpdate b 2 data) s (fun t => s.onlyIn t [.groom, .day, .daySeq]) := by
  have hmap : s.takeMap data = (s.logUpdate 2 2, 2) := by
    unfold State.takeMap
    dsimp only
    rw [if_pos (by simp [hrun])]
  refine ⟨(s.logUpdate 2 2).respond b 1 [2, 2], ?_, by simp⟩
  simp only [exec, execPldmFirmwareUpdate]
  rw [ha, if_neg (by simp), if_neg (by simp [hupd]), hmap]

theorem activateFirmware_answers (ha : s.answers b 3 = true) : Completes (.activateFirmware b) s (fun t => s.onlyIn t [.groom] ∧
    t.groom.resp = s.groom.resp ++ [[b.val, 1, 0x1A, b2n s.groom.fwPend]]) := by
  refine ⟨s.respond b 1 [0x1A, b2n s.groom.fwPend], ?_, by simp, rfl⟩
  simp only [exec, execActivateFirmware]
  rw [if_pos ha]

/-! ### The daybook's readers -/

/-- What a reader has read is noted, and no response given by it. -/
@[simp] theorem State.markRead_resp (s : State) (b : Nat) (es : List DayEntry) : (s.markRead b es).groom.resp = s.groom.resp := by
  unfold State.markRead
  split
  · rfl
  · split <;> rfl

theorem readLog_answers {seq n : Nat} (ha : s.answers b 4 = true) : Completes (.readLog b seq n) s (fun t => s.onlyIn t [.groom] ∧
    (1 ≤ n → n ≤ 16 → ∃ l, t.groom.resp = s.groom.resp ++ [b.val :: 0x7E :: 0 :: min n (s.daySeq - 65536 - seq) :: l]) ∧
    ((n = 0 ∨ 16 < n) → t.groom.resp = s.groom.resp ++ [[b.val, 0x7E, 1]])) := by
  unfold Completes
  rw [show exec (.readLog b seq n) s = execReadLog b seq n s from rfl]
  unfold execReadLog
  rw [ha, if_neg (by simp)]
  extract_lets r
  by_cases hn : n = 0 ∨ 16 < n
  · rw [if_pos (by simpa using hn)]
    exact ⟨_, rfl, by simp, fun h1 h2 => by omega, fun _ => rfl⟩
  · rw [if_neg (by simpa using hn)]
    refine ⟨_, rfl, by simp, fun _ _ => ⟨(r.2.flatMap DayEntry.layout).map BitVec.toNat, ?_⟩, fun h => absurd h hn⟩
    exact congrArg (· ++ [_]) (s.markRead_resp b r.2)

theorem daybookHighWater_warns (haux : s.pow.aux = true) (hsent : s.groom.highSent = false)
    (hread : ∀ k : Fin 3, tget s.groom.readSeq k 0 + 49152 ≤ s.daySeq) : Completes .daybookHighWater s (fun t => s.onlyIn t [.groom] ∧
      t.groom.highSent = true ∧ ∃ e ∈ t.groom.events, e.1 = 5) := by
  have htop : (List.range 3).foldl (fun m b => max m (tget s.groom.readSeq b 0)) 0 + 49152 ≤ s.daySeq := by
    have h0 := hread 0
    have h1 := hread 1
    have h2 := hread 2
    simp only [List.range_succ, List.range_zero, List.nil_append, List.foldl_append, List.foldl_cons, List.foldl_nil]
    simp at h0 h1 h2 ⊢
    omega
  refine ⟨(s.modGroom (fun g => { g with highSent := true })).platform 5 s.daySeq, ?_, by simp, rfl, (5, s.daySeq, 0), ?_, rfl⟩
  · simp only [exec, execDaybookHighWater]
    rw [if_pos (by simp only [haux, hsent, htop, Bool.not_false, Bool.and_self, decide_true])]
  · exact List.mem_append_right _ (List.mem_singleton.2 rfl)

end

/-- Settles O56: sensors, events, the effecter, updates and the daybook's readers. -/
theorem moduleTreeAnswers : Obligations.ModuleTreeAnswers := by
  unfold Obligations.ModuleTreeAnswers
  exact fun b s => ⟨fun id => pldmSensorRead_answers, fun id => ⟨fun e => platformEventRetry_sends, platformEventRetry_over⟩,
    fun id => platformEventAck_ends, fun eff st ha => ⟨setStateEffecterStates_refused ha, setStateEffecterStates_acks ha,
      setStateEffecterStates_resets ha⟩,
    fun comp data ha => ⟨pldmFirmwareUpdate_one ha, fun hupd hrun => ⟨pldmFirmwareUpdate_image ha hupd hrun,
      pldmFirmwareUpdate_map ha hupd hrun⟩⟩, activateFirmware_answers, fun seq n => readLog_answers, daybookHighWater_warns⟩

end Sys2Proof.Machine
end


section

/-! SUPPORT. Attestation: what each SPDM request is answered with. -/

namespace Sys2Proof.Machine

section
variable {s : State} {b : Fin 4}

/-- A request before the responder has opened. -/
theorem State.spdm_closed (s : State) (b : Nat) (inOrder : Bool) (f : State → State) (ha : s.answers b 3 = true) (hs : s.groom.spdm = false) :
    s.spdm b inOrder f = .next (s.respond b 5 [0x7F, 0x42]) := by
  rw [State.spdm, ha, if_neg (by simp), hs, if_pos (by rfl)]

/-- A request out of its order. -/
theorem State.spdm_unexpected (s : State) (b : Nat) (inOrder : Bool) (f : State → State) (ha : s.answers b 3 = true) (hs : s.groom.spdm = true)
    (ho : inOrder = false) : s.spdm b inOrder f = .next (s.respond b 5 [0x7F, 0x04]) := by
  rw [State.spdm, ha, if_neg (by simp), hs, if_neg (by simp), ho, if_pos (by rfl)]

/-- A request in its order. -/
theorem State.spdm_inOrder (s : State) (b : Nat) (inOrder : Bool) (f : State → State) (ha : s.answers b 3 = true) (hs : s.groom.spdm = true)
    (ho : inOrder = true) : s.spdm b inOrder f = .next (f s) := by
  rw [State.spdm, ha, if_neg (by simp), hs, if_neg (by simp), ho, if_neg (by simp)]

theorem spdm_notReady {i : Instr} (ha : s.answers b 3 = true) (hs : s.groom.spdm = false)
    (hi : i ∈ [Instr.spdmGetVersion b, .spdmGetCapabilities b]) : Completes i s (fun t => s.onlyIn t [.groom] ∧
      t.groom.resp = s.groom.resp ++ [[b.val, 5, 0x7F, 0x42]] ∧ t.groom.spdmVer = s.groom.spdmVer) := by
  refine ⟨s.respond b 5 [0x7F, 0x42], ?_, by simp, rfl, rfl⟩
  rcases List.mem_pair.1 hi with rfl | rfl
  · simp only [exec, execSpdmGetVersion]
    exact s.spdm_closed b _ _ ha hs
  · simp only [exec, execSpdmGetCapabilities]
    exact s.spdm_closed b _ _ ha hs

section
variable (ha : s.answers b 3 = true) (hs : s.groom.spdm = true)
include ha hs

theorem spdmGetVersion_begins : Completes (.spdmGetVersion b) s (fun t => s.onlyIn t [.groom] ∧
    t.groom.resp = s.groom.resp ++ [[b.val, 5, 0x04, 0x13]] ∧ t.groom.spdmVer = 0x13 ∧ t.groom.spdmAlg = false) :=
  ⟨(s.modGroom (fun g => { g with spdmVer := 0x13, spdmAlg := false })).respond b 5 [0x04, 0x13],
    by simp only [exec, execSpdmGetVersion]; exact s.spdm_inOrder b _ _ ha hs rfl, by simp,
    rfl, rfl, rfl⟩

theorem spdmGetCapabilities_answers (hv : s.groom.spdmVer = 0x13) : Completes (.spdmGetCapabilities b) s (fun t => s.onlyIn t [.groom] ∧
    t.groom.resp = s.groom.resp ++ [[b.val, 5, 0x61, 1, 1, 1, 1]]) :=
  ⟨s.respond b 5 [0x61, 1, 1, 1, 1], by simp only [exec, execSpdmGetCapabilities]; exact s.spdm_inOrder b _ _ ha hs (by simp [hv]), by simp, rfl⟩

theorem spdmGetCapabilities_unexpected (hv : s.groom.spdmVer ≠ 0x13) : Completes (.spdmGetCapabilities b) s (fun t => s.onlyIn t [.groom] ∧
    t.groom.resp = s.groom.resp ++ [[b.val, 5, 0x7F, 0x04]]) :=
  ⟨s.respond b 5 [0x7F, 0x04], by
    simp only [exec, execSpdmGetCapabilities]
    exact s.spdm_unexpected b _ _ ha hs (by simpa using hv), by simp, rfl⟩

theorem spdmNegotiateAlgorithms_ends (x y : Bool) (hv : s.groom.spdmVer = 0x13) : Completes (.spdmNegotiateAlgorithms b x y) s (fun t =>
    s.onlyIn t [.groom] ∧ t.groom.spdmAlg = (x && y)) :=
  ⟨(s.modGroom (fun g => { g with spdmAlg := x && y })).respond b 5 [0x63, b2n x, b2n y], by
    simp only [exec, execSpdmNegotiateAlgorithms]
    exact s.spdm_inOrder b _ _ ha hs (by simp [hv]), by simp, rfl⟩

theorem spdmGetCertificate_unexpected (halg : s.groom.spdmAlg = false) (slot : Nat) : Completes (.spdmGetCertificate b slot) s (fun t =>
    s.onlyIn t [.groom] ∧ t.groom.resp = s.groom.resp ++ [[b.val, 5, 0x7F, 0x04]]) :=
  ⟨s.respond b 5 [0x7F, 0x04], by simp only [exec, execSpdmGetCertificate]; exact s.spdm_unexpected b _ _ ha hs halg, by simp, rfl⟩

section
variable (halg : s.groom.spdmAlg = true) {slot : Nat} (hslot : slot < 2)
include halg hslot

theorem spdmGetCertificate_answers : Completes (.spdmGetCertificate b slot) s (fun t => s.onlyIn t [.groom] ∧
    t.groom.resp = s.groom.resp ++ [b.val :: 5 :: 0x02 :: slot :: (Config.certChain slot).map BitVec.toNat]) := by
  refine ⟨_, by simp only [exec, execSpdmGetCertificate]; rw [s.spdm_inOrder b _ _ ha hs halg, if_neg (by omega)], ?_⟩
  exact ⟨by simp, rfl⟩

theorem spdmChallenge_answers (nonce : Nat) : Completes (.spdmChallenge b slot nonce) s (fun t => s.onlyIn t [.groom] ∧
    ∃ l, t.groom.resp = s.groom.resp ++ [b.val :: 5 :: 0x03 :: l]) := by
  refine ⟨_, by simp only [exec, execSpdmChallenge]; rw [s.spdm_inOrder b _ _ ha hs halg, if_neg (by omega)], ?_⟩
  exact ⟨by simp, _, rfl⟩

theorem spdmGetMeasurements_answers (i : Nat) (hi : i ≤ 7 ∨ i = 0xFF) : Completes (.spdmGetMeasurements b i slot) s (fun t =>
    s.onlyIn t [.groom] ∧ ∃ l, t.groom.resp = s.groom.resp ++ [b.val :: 5 :: 0x60 :: l]) := by
  have hok : ¬(2 ≤ slot || (7 < i && i != 0xFF)) = true := by
    simp
    omega
  refine ⟨_, by simp only [exec, execSpdmGetMeasurements]; rw [s.spdm_inOrder b _ _ ha hs halg, if_neg hok], ?_⟩
  exact ⟨by simp, _, rfl⟩

end

end

end

/-- Settles O57: requests too early, out of order and in order, one by one. -/
theorem attestationAnswersInOrder : Obligations.AttestationAnswersInOrder := by
  unfold Obligations.AttestationAnswersInOrder
  exact fun b s ha => ⟨fun hs i => spdm_notReady ha hs, fun hs => ⟨spdmGetVersion_begins ha hs, spdmGetCapabilities_answers ha hs,
    spdmGetCapabilities_unexpected ha hs, spdmNegotiateAlgorithms_ends ha hs,
    fun halg slot hslot => ⟨spdmGetCertificate_answers ha hs halg hslot, spdmChallenge_answers ha hs halg hslot,
      spdmGetMeasurements_answers ha hs halg hslot⟩, spdmGetCertificate_unexpected ha hs⟩⟩

end Sys2Proof.Machine
end
